-- ==== Sys2Proof/Word.lean ====
section
/-! DEFINITION. The word types and the plainest arithmetic. -/

namespace Sys2Proof

/-- A character of the telemetry port or a byte of the configuration image. -/
abbrev Byte := BitVec 8

/-- The Time Base seconds count and its stamps: 32 bits, wrapping (R26). -/
abbrev Seconds := BitVec 32

/-- The 136 data cells of a frame; bit `k` is set when cell `k` is dominant (R2, R175). -/
abbrev Cells := BitVec 136

/-- A timer: stopped, or the 10 ms ticks that have passed since its start (R26). -/
abbrev Timer := Option Nat

/-- One more, stopping at `cap`: a saturating counter. -/
def satSucc (cap n : Nat) : Nat := min (n + 1) cap

end Sys2Proof
end

