-- ==== Sys2Proof/Config.lean ====
section
/-! DEFINITION. What an image fixes (10.6), the fixed figures of the manual, and the free values. -/

namespace Sys2Proof

/-- The calibration of one level channel (R32). -/
structure Calibration where
  z : Nat
  f : Nat
  h : Nat
  k : Nat
  deriving DecidableEq, Repr

/-- The manner of a panel output (07, 7.4). -/
inductive OutputMode where
  | steady | annunciated | pulse
  deriving DecidableEq, Repr

/-- One entry of the output map (07, 7.4). -/
structure OutputEntry where
  source  : Nat
  invert  : Bool
  mode    : OutputMode
  stretch : Nat
  deriving DecidableEq, Repr

/-- Every field of the configuration image after clamping (10.6), in the units of its table;
the debounce time and the key-up delay are held in ticks of 10 ms. -/
structure Settings where
  house : Nat
  baudCode : Nat
  keyUp : Nat
  ta : Nat
  retryLimit : Nat
  routineDefault : Bool
  calA : Calibration
  calB : Calibration
  q : Nat
  stageCount : Nat
  startLevels : List Nat
  stopLevels : List Nat
  tideOffset : Nat
  highFloatStage : Nat
  tConfirm : Nat
  tInrush : Nat
  tMinRun : Nat
  tMinOff : Nat
  tMaxRun : Nat
  startsPerHour : Nat
  moisturePolicy : Nat
  screenSwitchFitted : Bool
  deltaR : Nat
  deltaB : Nat
  dwell : Nat
  rakeInterval : Nat
  flushInterval : Nat
  flushThreshold : Nat
  tRake : Nat
  weirFloatFitted : Bool
  crest : Nat
  tOd : Nat
  tOt : Nat
  spillHeads : List Nat
  spillRates : List Nat
  enableMask : List Bool
  debounce : Nat
  outputs : List OutputEntry
  deriving DecidableEq, Repr

/-- The reduced-mode output map (R128). -/
def reducedMap : List OutputEntry :=
  [⟨1, false, .steady, 0⟩, ⟨3, false, .steady, 0⟩, ⟨7, false, .steady, 0⟩,
   ⟨10, false, .annunciated, 0⟩, ⟨9, false, .steady, 0⟩, ⟨4, false, .steady, 0⟩,
   ⟨13, false, .steady, 0⟩, ⟨11, false, .steady, 0⟩]

/-- The defaults of reduced mode (R171 and the table of 10.6). A field with a dash there is set
aside in reduced mode; DESIGN CHOICE 0 or no (log 30), safe: nothing reads it then. -/
def Settings.reduced : Settings where
  house := 0
  baudCode := 0
  keyUp := 0
  ta := 0
  retryLimit := 0
  routineDefault := false
  calA := ⟨0, 0, 0, 0⟩
  calB := ⟨0, 0, 0, 0⟩
  q := 0
  stageCount := 0
  startLevels := List.replicate 8 0
  stopLevels := List.replicate 8 0
  tideOffset := 0
  highFloatStage := 8
  tConfirm := 5
  tInrush := 10
  tMinRun := 60
  tMinOff := 30
  tMaxRun := 0
  startsPerHour := 6
  moisturePolicy := 0
  screenSwitchFitted := true
  deltaR := 150
  deltaB := 400
  dwell := 30
  rakeInterval := 0
  flushInterval := 0
  flushThreshold := 0
  tRake := 120
  weirFloatFitted := true
  crest := 0
  tOd := 30
  tOt := 10
  spillHeads := List.replicate 9 0
  spillRates := List.replicate 9 0
  enableMask := List.replicate 23 true
  debounce := 5
  outputs := reducedMap

/-- R124 lets each condition change of a frame end be taken before or after the acknowledgment of that
frame end: a FREE VALUE for each code's number, read at the state's `free` counter (log 7). -/
opaque Config.ackFirst : Nat → Nat → Bool

/-- R84 lets an inhibit and a won claim of the same frame end be taken in either order: a FREE
VALUE, read at the state's `free` counter (log 8). -/
opaque Config.inhibitFirst : Nat → Bool

end Sys2Proof
end

