-- ==== Sys2Proof/Syntax.lean ====
section
/-! DEFINITION. The commands of the block: one constructor per row of spec/opcode_table.json, in the
table's order, with the operands each event carries in from outside. -/

namespace Sys2Proof

/-- The fifteen discrete inputs (R28), in the order of the manual's table. -/
inductive Input where
  | runConfirm | thermal | moisture | lowFloat | highFloat | modeHand | modeOff | rakeLimit
  | screenSw | weirFloat | tideClosed | supplyLow | ackBtn | lampTest | allStop
  deriving DecidableEq, Repr

/-- The two level channels. -/
inductive Channel where
  | a | b
  deriving DecidableEq, Repr

/-- The four raw conditions that an event raises for 1 s (R119). -/
inductive PulseAlarm where
  | startFail | runLost | rakeJam | queueLoss
  deriving DecidableEq, Repr

/-- How far a read attempt of the configuration memory has come (R168). `sending n`: the first `n` of
start, 50h for writing, two bytes of address, repeated start, 50h for reading have passed, and no more.
`reading data`: all six have, and these data bytes. -/
inductive ReadPoint where
  | sending (passed : Fin 6)
  | reading (data : List Byte)
  deriving DecidableEq, Repr

/-- How a read attempt of the configuration memory fails (R169). `noAcknowledge n`: the memory left
the `n`-th byte the loader sent (1 to 4) without an acknowledge. `stretchTooLong p`: SCL was held low
for more than 10 ms in a cell of what comes after `p`. `busBusy p`: SDA read low for the start, repeated
start or stop condition that comes after `p`. -/
inductive ReadFailure where
  | noAcknowledge (sent : Fin 4)
  | stretchTooLong (reached : ReadPoint)
  | busBusy (reached : ReadPoint)
  deriving DecidableEq, Repr

/-- What the capture at the first tick after reset reads beside the inputs: the levels of the strap pins
ADDR0, ADDR1, ADDR2, TEL_EN, LVA_EN, LVB_EN, WEIR_EN (bit set when HIGH, which is open: not fitted) (R166),
and after how many SCL cells SDA reads HIGH in the bus-free step of the first read attempt (R169). -/
structure CaptureReadings where
  levels   : BitVec 7
  sdaCells : Nat
  deriving DecidableEq, Repr

/-- A command: one row of spec/opcode_table.json. -/
inductive Instr where
  /-- RESET (R167): power-on or RESET_N. -/
  | reset
  /-- TICK (R27): a 10 ms tick; the levels of the fifteen input pins (bit `i` of `pins` is set when
  the pin of the `i`-th input is HIGH), and what the capture of the first tick after reset reads. -/
  | tick (pins : BitVec 15) (straps : CaptureReadings)
  /-- INPUT_ACCEPTED_CHANGE (R27). -/
  | inputAcceptedChange (i : Input)
  /-- TIME_BASE_SECOND (R26). -/
  | timeBaseSecond
  /-- HOURLY_POINT (R143). -/
  | hourlyPoint
  /-- CLOCK_MINUTE (R154). -/
  | clockMinute
  /-- STARTS_WINDOW_STAMP_EXPIRY (R78). -/
  | startsWindowStampExpiry
  /-- CONFIG_READ_COMPLETE (R168): the 256 bytes read. -/
  | configReadComplete (image : List Byte)
  /-- ATTEMPT_FAIL (R169). -/
  | attemptFail (cause : ReadFailure)
  /-- RETRY_WAIT_EXPIRY (R169): the SCL cells after which SDA reads high in the bus-free step
  (0: it reads high at once). -/
  | retryWaitExpiry (sdaCells : Nat)
  /-- LOADER_FINISH (R167). -/
  | loaderFinish
  /-- FRAME_TIMER_EXPIRY (R5). -/
  | frameTimerExpiry
  /-- SYNC_DRIVE (R6). -/
  | syncDrive
  /-- SYNC_ATTEMPT_FAIL (R7). -/
  | syncAttemptFail
  /-- SYNC_LEADING_EDGE (R9). -/
  | syncLeadingEdge
  /-- NOTICE_CLAIM_WON (R13): the four cells NC_CLASS, NC_ADDR as read back, as a numeric field. -/
  | noticeClaimWon (field : BitVec 4)
  /-- GOOD_FRAME_END (R9): the length of the sync's run and the 136 data cells as sampled. -/
  | goodFrameEnd (run : Nat) (cells : Cells)
  /-- BAD_FRAME (R8): the length of the sync's dominant run when the frame is found bad. -/
  | badFrame (run : Nat)
  /-- LINE_IDLE (R4): consecutive recessive cells since the frame end. -/
  | lineIdle (cells : Nat)
  /-- RECEIVER_IN_STEP (R4): consecutive recessive cells while searching. -/
  | receiverInStep (cells : Nat)
  /-- JOIN (R15). -/
  | join
  /-- OWN_ADDRESS_ISOLATE (R17). -/
  | ownAddressIsolate
  /-- PRESENCE_FAULT (R7). -/
  | presenceFault
  /-- JABBER_TRIP (R19): consecutive cells with the own driver dominant. -/
  | jabberTrip (cells : Nat)
  /-- STUCK_CONDITION (R20): consecutive dominant cells with the own driver released. -/
  | stuckCondition (cells : Nat)
  /-- SILENCE_TIMER_EXPIRY (R16). -/
  | silenceTimerExpiry
  /-- LINE_FAULT_FRAMES_RECOVER (R21). -/
  | lineFaultFramesRecover
  /-- LINE_FAULT_QUIET_RECOVER (R21): consecutive recessive cells. -/
  | lineFaultQuietRecover (cells : Nat)
  /-- ALONE_DETECT (R25). -/
  | aloneDetect
  /-- LEAD_UNUSABLE_HANDOVER (R82). -/
  | leadUnusableHandover
  /-- NO_LEAD_TAKE (R83). -/
  | noLeadTake
  /-- NOTICE_DROP (R138). -/
  | noticeDrop
  /-- COMMAND_SET_INHIBIT (R142). -/
  | commandSetInhibit
  /-- COMMAND_CLEAR_INHIBIT (R142). -/
  | commandClearInhibit
  /-- COMMAND_OTHER_CODE (R142). -/
  | commandOtherCode
  /-- PAIRING_TIMEOUT (R153): the address whose OVERFLOW_END waits. -/
  | pairingTimeout (subject : Fin 8)
  /-- HOLD_QUIET_CLAIM (R146). -/
  | holdQuietClaim
  /-- OPEN_FIELD_ACTIVE (R146). -/
  | openFieldActive
  /-- COMMAND_TIMEOUT (R165). -/
  | commandTimeout
  /-- GATE_END (R31). -/
  | gateEnd
  /-- MIN_OFF_EXPIRY (R63). -/
  | minOffExpiry
  /-- INRUSH_TIMER_EXPIRY (R66). -/
  | inrushTimerExpiry
  /-- CONFIRM_TIMER_EXPIRY (R66). -/
  | confirmTimerExpiry
  /-- RUN_LOSS_EXPIRY (R67). -/
  | runLossExpiry
  /-- MAXRUN_REACHED (R76). -/
  | maxrunReached
  /-- CHANGEOVER_TIMER_EXPIRY (R77). -/
  | changeoverTimerExpiry
  /-- MIN_RUN_EXPIRY (R86). -/
  | minRunExpiry
  /-- FALLBACK_DELAY_EXPIRY (R86). -/
  | fallbackDelayExpiry
  /-- FALLBACK_START (R86). -/
  | fallbackStart
  /-- SWITCH_CLEAR_EXPIRY (R92). -/
  | switchClearExpiry
  /-- POST_RAKE_EXPIRY (R92). -/
  | postRakeExpiry
  /-- HIGH_ALARM_EXPIRY (R94). -/
  | highAlarmExpiry
  /-- INTERVAL_TIMER_EXPIRY (R96). -/
  | intervalTimerExpiry
  /-- RAKE_INRUSH_EXPIRY (R99). -/
  | rakeInrushExpiry
  /-- RAKE_JAM (R100). -/
  | rakeJam
  /-- PAUSE_TIMER_EXPIRY (R100). -/
  | pauseTimerExpiry
  /-- PENDING_TIMER_EXPIRY (R108). -/
  | pendingTimerExpiry
  /-- TAIL_TIMER_EXPIRY (R111). -/
  | tailTimerExpiry
  /-- PULSE_CONDITION_END (R119). -/
  | pulseConditionEnd (which : PulseAlarm)
  /-- STRETCH_TIMER_EXPIRY (R130). -/
  | stretchTimerExpiry (output : Fin 8)
  /-- PULSE_TIMER_EXPIRY (R130). -/
  | pulseTimerExpiry (output : Fin 8)
  /-- TOWN_MESSAGE_INVALID (R150): the characters up to the one at which it is found invalid. -/
  | townMessageInvalid (chars : List Byte)
  /-- CHARACTER_GAP_TIMEOUT (R150): the characters of the partial message. -/
  | characterGapTimeout (chars : List Byte)
  /-- TOWN_POLL (R159): the characters of the message, start to CRC, here and in the next seven. -/
  | townPoll (chars : List Byte)
  /-- TOWN_ACK (R158). -/
  | townAck (chars : List Byte)
  /-- TOWN_DUMP (R162). -/
  | townDump (chars : List Byte)
  /-- TOWN_INHIBIT (R165). -/
  | townInhibit (chars : List Byte)
  /-- TOWN_RELEASE (R165). -/
  | townRelease (chars : List Byte)
  /-- TOWN_CLOCK (R160). -/
  | townClock (chars : List Byte)
  /-- TOWN_REPORTING (R160). -/
  | townReporting (chars : List Byte)
  /-- TOWN_UNKNOWN_TYPE (R151). -/
  | townUnknownType (chars : List Byte)
  /-- PORT_SEND (R152). -/
  | portSend
  /-- KEY_UP_DELAY_EXPIRY (R149). -/
  | keyUpDelayExpiry
  /-- TRANSMIT_END (R149). -/
  | transmitEnd
  /-- T_A_EXPIRY (R158). -/
  | tAExpiry
  /-- DOMINANT_CELL_BEFORE_IDLE (R4). -/
  | dominantCellBeforeIdle
  /-- STUCK_CONDITION_CLEAR (R20). -/
  | stuckConditionClear
  /-- LEVEL_PULSE_EDGE (R31). -/
  | levelPulseEdge (channel : Channel)
  deriving DecidableEq, Repr

end Sys2Proof
end

