-- ==== Sys2Proof/Machine/State.lean ====
section
/-! DEFINITION. The state of one 4810: every piece of state the manual names, as plain data, and
its values after reset. INVENTORY.md lists each field with its rule. -/

namespace Sys2Proof.Machine

open Sys2Proof

/-- The faults. NONE: no rule of the manual stops the part; every failure it describes is an effect
on its state (an alarm, a changed line state, reduced mode). -/
inductive Fault where
  deriving DecidableEq, Repr

/-- The refusals. -/
inductive Refusal where
  /-- Raised by `exec` for a command that has no meaning yet; no arm raises it now. Safe. -/
  | notModelled (mnemonic : String)
  deriving DecidableEq, Repr

/-- The alarm codes 1 to 23 (07, 7.1), in order of code. -/
inductive AlarmCode where
  | thermalTrip | moisture | startFail | runLost | startsLimit | changeoverBlocked | screenHigh
  | screenBlocked | rakeJam | levelAFault | levelBFault | dryRun | highFloat | overflow | lineFault
  | isolated | config | supplyLow | alone | telemetryDown | queueLoss | outOfService | handMode
  deriving DecidableEq, Repr

/-! ### Time Base, inputs, loader -/

/-- The Time Base (R26), with the note that an hourly point (R143) has been reached. -/
structure TimeBase where
  seconds   : Seconds
  subTicks  : Nat
  hourlyDue : Bool
  deriving DecidableEq, Repr

/-- One discrete input (R27): accepted value (true: ACTIVE), change count, and whether its count
reached N at the last tick, so that the change is now accepted. -/
structure InputState where
  active : Bool
  count  : Nat
  due    : Bool
  deriving DecidableEq, Repr

/-- The straps as captured (R166); true: fitted. -/
structure Straps where
  address : Fin 8
  telEn   : Bool
  lvaEn   : Bool
  lvbEn   : Bool
  weirEn  : Bool
  deriving DecidableEq, Repr

/-- The loader's phases (R167). -/
inductive LoaderPhase where
  | capture | reading | checking | done
  deriving DecidableEq, Repr

/-- What passes on the configuration memory's bus (R168): a start or repeated start condition, a byte
sent by the loader or read from the memory with whether the receiver acknowledged it, a stop condition. -/
inductive BusItem where
  | start
  | sent (b : Byte) (acknowledged : Bool)
  | read (b : Byte) (acknowledged : Bool)
  | stop
  deriving DecidableEq, Repr

/-- The Configuration Loader (R166 to R174). -/
structure Loader where
  phase      : LoaderPhase
  attempt    : Nat
  /-- The 10 ms wait after a failed attempt (R169). -/
  wait       : Timer
  /-- SDA still low after the bus-free step of this attempt (R169). -/
  sdaHeld    : Bool
  /-- SCL cells clocked in the bus-free step of this attempt (R169). -/
  sclCells   : Nat
  /-- The bytes the loader has sent in this attempt (R168). -/
  sent       : List Byte
  /-- All that has passed on the bus in this attempt, in order (R168, R169). -/
  bus        : List BusItem
  /-- The loader is master of a read in progress; otherwise both lines are released (R167, R174). -/
  busDriven  : Bool
  /-- The image buffer: none while not read (R170). -/
  image      : Option (List Byte)
  /-- The settings held ready to be handed over: clamped, or the defaults (R167). -/
  ready      : Settings
  /-- Ticks since CHECKING was entered (R167). -/
  checkTicks : Timer
  reduced    : Bool
  /-- The loader CONFIG cause has been found (R171, R172). -/
  causeFound : Bool
  /-- It lies in fields of the overflow group alone, which raise no alarm without WEIR_EN (R104). -/
  overflowOnly : Bool
  deriving DecidableEq, Repr

/-! ### Line Interface -/

/-- The line states (01, 1.5). -/
inductive LineMode where
  | listen | joined | isolated | lineFault
  deriving DecidableEq, Repr

/-- The own driver (01, 1.5). -/
inductive Driver where
  | released | driving | cut
  deriving DecidableEq, Repr

/-- The receiver's conditions (R4). -/
inductive Receiver where
  | searching | outside | inside
  deriving DecidableEq, Repr

/-- One entry of the peer table (R23). `lastBeat` is true for dominant. -/
structure PeerEntry where
  heard     : Bool
  age       : Nat
  lead      : Bool
  available : Bool
  running   : Bool
  starting  : Bool
  blocked   : Bool
  yielding  : Bool
  lastBeat  : Bool
  beatStuck : Nat
  deriving DecidableEq, Repr

/-- The block whose start key the bay drives (R14). -/
inductive Claimant where
  | duty | screen
  deriving DecidableEq, Repr

/-- What a JOINED station took at frame start (R9): the cells it means to drive (each claim key whole,
the notice body and check only once won), the keys, and the body and check held ready. A key that loses
is released from the cell after its loss (R12): `Line.driven` holds what came of it. -/
structure Drive where
  cells      : Cells
  startKey   : Option (Claimant × Nat)
  reportKey  : Option Nat
  noticeKey  : Option Nat
  /-- The 32 digits of the notice body. -/
  body       : Nat
  /-- The 8 digits of the notice check. -/
  check      : Nat
  deriving DecidableEq, Repr

/-- The common flag cells as read at the end of the most recent good frame (true: dominant). -/
structure CommonCells where
  dry       : Bool
  overflow  : Bool
  unack     : Bool
  inrush    : Bool
  supplyLow : Bool
  tide      : Bool
  highFloat : Bool
  allStop   : Bool
  deriving DecidableEq, Repr

/-- The Line Interface (chapter 1). -/
structure Line where
  mode         : LineMode
  driver       : Driver
  receiver     : Receiver
  /-- Consecutive recessive cells, outside a frame or searching (R4). -/
  recessiveRun : Nat
  /-- Cells since the frame timer was restarted, and whether it has expired (R5). -/
  frameCells   : Nat
  frameExpired : Bool
  /-- Cells since the silence timer was restarted (R16). -/
  silenceCells : Nat
  due          : Bool
  /-- An own sync attempt is being driven (R6, R7). -/
  syncDriving  : Bool
  goodRun      : Nat
  ownCount     : Nat
  syncFail     : Nat
  presenceFail : Nat
  jabber       : Nat
  stuck        : Nat
  /-- Good frames counted in LINE_FAULT, and consecutive recessive cells there since the entry or the end
  of the stuck condition (R21). -/
  faultGood    : Nat
  quiet        : Nat
  badFrames    : Nat
  aloneCount   : Nat
  alone        : Bool
  /-- The next BEAT value; true for dominant (R11). -/
  nextBeat     : Bool
  drive        : Option Drive
  /-- The cells that the station drove in the last good frame, a lost key released from the cell after
  its loss (R10, R12); none where it drove none. -/
  driven       : Option Cells
  noticeWon    : Bool
  peers        : List PeerEntry
  prevGood     : Bool
  common       : CommonCells
  deriving DecidableEq, Repr

/-! ### Level Channels and Demand Stager -/

/-- The channel states (02, 2.9). -/
inductive ChannelMode where
  | absent | starting | healthy | suspect | faulted
  deriving DecidableEq, Repr

/-- One level channel (chapter 2). `rate` is the manual's R, `ring` the rate ring, oldest first. -/
structure LevelChannel where
  mode     : ChannelMode
  count    : Nat
  e        : Nat
  rate     : Int
  p        : Nat
  ring     : List Nat
  badRun   : Nat
  goodRun  : Nat
  gateGood : Bool
  changed  : Bool
  deriving DecidableEq, Repr

/-- The Demand Stager (chapter 3). -/
structure Stager where
  usable    : Bool
  d         : Nat
  dLine     : Nat
  dPre      : Nat
  dEff      : Nat
  prevDEff  : Nat
  localCall : Bool
  deriving DecidableEq, Repr

/-! ### Duty Controller -/

/-- The pump states (04, 4.1). -/
inductive PumpState where
  | outOfService | faulted | lockedOff | idle | startWait | starting | running | hand
  deriving DecidableEq, Repr

/-- The mode of the pump (R59). -/
inductive PumpMode where
  | auto | hand | off
  deriving DecidableEq, Repr

/-- The fallback delay timer (R86). -/
inductive DelayTimer where
  | stopped | running (ticks : Nat) | expired
  deriving DecidableEq, Repr

/-- The Duty Controller (chapter 4). -/
structure Duty where
  pump              : PumpState
  mode              : PumpMode
  /-- true: closed. -/
  contactor         : Bool
  causes            : List AlarmCode
  /-- none: expired (R63). -/
  minOff            : Timer
  inrush            : Timer
  confirm           : Timer
  runLoss           : Timer
  /-- none while the contactor is closed in an automatic running state: expired (R75). -/
  minRun            : Timer
  confirmed         : Bool
  /-- Ticks since the contactor closed in an automatic running state (R76). -/
  contRun           : Nat
  yielding          : Bool
  /-- Ticks that the changeover timer has counted, to 12000 (R26, R77). -/
  changeover        : Nat
  changeoverBlocked : Bool
  window            : List Seconds
  inhibit           : Bool
  holdsLead         : Bool
  noLead            : Nat
  leadUnusable      : Nat
  unplanned         : Nat
  supplyQuiet       : Nat
  prevRunning       : List Nat
  prevR             : Nat
  prevDEff          : Nat
  /-- At the previous good frame end D_eff was 1 or more or some entry showed RUNNING (R81). -/
  prevBusy          : Bool
  fallbackDelay     : DelayTimer
  /-- Ticks for which the own SUPPLY_LOW input has been inactive, to 500 (R86). -/
  supplyInactive    : Nat
  runSeconds        : Nat
  runMinutes        : Nat
  starts            : Nat
  /-- Availability as formed at the last frame start (R68). -/
  availableAtStart  : Bool
  /-- Availability as formed at the last good frame end (R68, R70). -/
  availableAtEnd    : Bool
  /-- The duty list, current lead, R, W and index of the last good frame end (R69). -/
  dutyList          : List Nat
  lead              : Option Nat
  runningCount      : Nat
  waiting           : List Nat
  index             : Option Nat
  /-- Some fresh entry showed YIELDING at the last good frame end (R71). -/
  peerYielding      : Bool
  deriving DecidableEq, Repr

/-! ### Screen Controller and Overflow Monitor -/

/-- The sensing modes (R89). -/
inductive SensingMode where
  | diff | switch | none
  deriving DecidableEq, Repr

/-- The screen conditions (05, 5.3). -/
inductive ScreenCondition where
  | clear | high | blocked | unknown
  deriving DecidableEq, Repr

/-- The rake states (05, 5.5). -/
inductive RakeState where
  | idle | wait | run | pause | locked
  deriving DecidableEq, Repr

/-- The Screen Controller (chapter 5). -/
structure Screen where
  /-- none: not yet chosen, before the Configuration Loader finishes (R89). -/
  sensing      : Option SensingMode
  delta        : Nat
  condition    : ScreenCondition
  aboveBlocked : Nat
  belowRake    : Nat
  belowBlocked : Nat
  switchClear  : Timer
  postRake     : Timer
  highAlarm    : Timer
  /-- The raw condition of SCREEN_HIGH (R94). -/
  screenHigh   : Bool
  flush        : Bool
  /-- Ticks since the interval timer was last started (R96). -/
  interval     : Nat
  intervalDue  : Bool
  rake         : RakeState
  motor        : Bool
  rakeRun      : Timer
  rakeInrush   : Timer
  pause        : Timer
  jams         : Nat
  cycles       : Nat
  deriving DecidableEq, Repr

/-- The overflow states (06, 6.3). -/
inductive OverflowState where
  | idle | pending | active | tail
  deriving DecidableEq, Repr

/-- The Overflow Monitor with its event record (chapter 6). -/
structure Overflow where
  state         : OverflowState
  head          : Nat
  levelActive   : Bool
  sourceActive  : Bool
  blind         : Bool
  pending       : Timer
  tail          : Timer
  volumeEnabled : Bool
  crestUsable   : Bool
  startStamp    : Seconds
  tailStamp     : Seconds
  peak          : Nat
  accumulator   : Nat
  incomplete    : Bool
  aboveTable    : Bool
  /-- The state at the previous gate end was OVF_ACTIVE or OVF_TAIL in this event (R113). -/
  prevGateOpen  : Bool
  seconds       : Nat
  minutes       : Nat
  deriving DecidableEq, Repr

/-! ### Alarm Table and Panel Output Unit -/

/-- The annunciator states (R117). -/
inductive AlarmState where
  | normal | activeUnack | activeAck | clearedUnack
  deriving DecidableEq, Repr

/-- One alarm record (R117); its code is its place, its class and latching are fixed by the code. -/
structure AlarmRecord where
  enabled     : Bool
  state       : AlarmState
  raw         : Bool
  latched     : Bool
  count       : Nat
  firstMinute : Nat
  deriving DecidableEq, Repr

/-- The Alarm Table: 23 records in order of code, the 1 s pulses of R119, and the ACK assertions of
R125: the Alarm Table's own and the Telemetry Reporter's. -/
structure Alarms where
  records   : List AlarmRecord
  startFail : Timer
  runLost   : Timer
  rakeJam   : Timer
  queueLoss : Timer
  ackPress  : Bool
  ackTown   : Bool
  deriving DecidableEq, Repr

/-- One panel output: its map entry, the last value of its source, its timers (R128, R130). -/
structure OutputState where
  entry   : OutputEntry
  source  : Bool
  stretch : Timer
  pulse   : Timer
  deriving DecidableEq, Repr

/-- The Panel Output Unit: outputs, flash phase, and the pins (bit `n` set: PANELn energised). -/
structure Panel where
  outputs : List OutputState
  phase   : Nat
  pins    : BitVec 8
  deriving DecidableEq, Repr

/-! ### Notice Unit and Telemetry Reporter -/

/-- The kinds of notice, numbered 0 to 6 in this order (R139). -/
inductive NoticeKind where
  | alarm | overflowStart | overflowEnd | overflowTime | summary | command | commandResult
  deriving DecidableEq, Repr

/-- One entry of the outgoing queue (chapter 8). `forContext` marks the COMMAND entry handed for the
command context that is pending now (R165); the manual's fields are the others. -/
structure NoticeEntry where
  kind       : NoticeKind
  subject    : Nat
  code       : Nat
  state      : Nat
  value      : Nat
  urgent     : Bool
  attempts   : Nat
  inFlight   : Bool
  forContext : Bool
  deriving DecidableEq, Repr

/-- The Notice Unit (chapter 8). -/
structure Notices where
  queue      : List NoticeEntry
  lost       : Nat
  checkFail  : Nat
  holdoff    : Bool
  lastHolder : Option Nat
  /-- The code of a valid COMMAND for this bay read at this frame end and not yet applied (R142). -/
  command    : Option Nat
  deriving DecidableEq, Repr

/-- The reporter states (R145). -/
inductive ReporterMode where
  | none | standby | claiming | active
  deriving DecidableEq, Repr

/-- The kinds of report record, numbered 1 to 5 in this order (R177). -/
inductive RecordKind where
  | alarm | overflowStart | overflowEvent | summary | reporterChanged
  deriving DecidableEq, Repr

/-- A report record (09, 9.3); the stamp is day and minute. -/
structure ReportRecord where
  kind    : RecordKind
  station : Nat
  code    : Nat
  state   : Nat
  value1  : Nat
  value2  : Option Nat
  stamp   : Option (Nat × Nat)
  deriving DecidableEq, Repr

/-- A queued report record and its mark "in flight" (R157). -/
structure QueuedRecord where
  record   : ReportRecord
  inFlight : Bool
  deriving DecidableEq, Repr

/-- The in-flight record's particulars (R157, R158). -/
structure Flight where
  urgent    : Bool
  seq       : Nat
  retries   : Nat
  ta        : Timer
  resendDue : Bool
  /-- The REPORT sent carried loss pending. -/
  lossSent  : Bool
  deriving DecidableEq, Repr

/-- An answer owed to town (R151, R152). -/
inductive AnswerKind where
  | poll | done | refused (reason : Nat)
  deriving DecidableEq, Repr

/-- An owed answer with the type and sequence of the message it answers (R151). -/
structure Answer where
  kind : AnswerKind
  type : Nat
  seq  : Nat
  deriving DecidableEq, Repr

/-- An active dump (R162). `requested` is the model's record of the count asked for. -/
structure DumpContext where
  next      : Nat
  remaining : Nat
  gap       : Bool
  sent      : Nat
  seq       : Nat
  suspended : Bool
  requested : Nat
  deriving DecidableEq, Repr

/-- A pending command from town (R165). -/
structure CommandContext where
  target  : Nat
  code    : Nat
  type    : Nat
  seq     : Nat
  carried : Bool
  count   : Nat
  deriving DecidableEq, Repr

/-- A waiting OVERFLOW_END (R153). -/
structure WaitingEnd where
  flags  : Nat
  volume : Nat
  count  : Nat
  deriving DecidableEq, Repr

/-- The reporter's clock (R154): day, minute, and ticks into the minute. -/
structure Clock where
  day    : Nat
  minute : Nat
  ticks  : Nat
  deriving DecidableEq, Repr

/-- The telemetry port's transmitter (R149): TEL_KEY is raised in `keyUp` and `sending`. -/
inductive PortPhase where
  | idle | keyUp (ticks : Nat) | sending (ticks : Nat)
  deriving DecidableEq, Repr

/-- The Telemetry Reporter (chapter 9). -/
structure Reporter where
  mode          : ReporterMode
  holdQuiet     : Nat
  openField     : Nat
  /-- true: UP. -/
  linkUp        : Bool
  downSince     : Bool
  urgentEnable  : Bool
  routineEnable : Bool
  clock         : Option Clock
  pairing       : List (Option WaitingEnd)
  alarmView     : List (List Nat)
  history       : List ReportRecord
  nextNumber    : Nat
  urgentQueue   : List QueuedRecord
  routineQueue  : List QueuedRecord
  flight        : Option Flight
  nextSeq       : Nat
  lossPending   : Bool
  answers       : List Answer
  dump          : Option DumpContext
  command       : Option CommandContext
  badMessages   : Nat
  lostReports   : Nat
  port          : PortPhase
  /-- The message being sent, and whether it is a REPORT. -/
  message       : List Byte
  isReport      : Bool
  /-- Ticks since the stop bit of the last character received; none once the port may be free. -/
  sinceChar     : Timer
  deriving DecidableEq, Repr

/-! ### The whole part -/

/-- The state of the part, with the queue of waiting commands (first in, first out) and the counter
that the free values of Config are read at. -/
structure State where
  time     : TimeBase
  inputs   : List InputState
  straps   : Straps
  loader   : Loader
  cfg      : Settings
  causeCfg : Bool
  line     : Line
  gate     : Nat
  chanA    : LevelChannel
  chanB    : LevelChannel
  stager   : Stager
  duty     : Duty
  screen   : Screen
  ovf      : Overflow
  alarms   : Alarms
  panel    : Panel
  notices  : Notices
  reporter : Reporter
  pending  : List Instr
  free     : Nat
  deriving DecidableEq, Repr

/-! ### Reset -/

/-- A peer table entry after reset (R23); also the own entry of a bay that is not JOINED. -/
def PeerEntry.unheard : PeerEntry where
  heard := false
  age := 15
  lead := false
  available := false
  running := false
  starting := false
  blocked := false
  yielding := false
  lastBeat := false
  beatStuck := 0

/-- The common cells before the first good frame: recessive. -/
def CommonCells.recessive : CommonCells := ⟨false, false, false, false, false, false, false, false⟩

/-- The Configuration Loader after reset (10, head of the chapter). DESIGN CHOICE (log 40): reduced mode
is no until the end of CHECKING decides it. -/
def Loader.reset : Loader where
  phase := .capture
  attempt := 1
  wait := none
  sdaHeld := false
  sclCells := 0
  sent := []
  bus := []
  busDriven := false
  image := none
  ready := Settings.reduced
  checkTicks := none
  reduced := false
  causeFound := false
  overflowOnly := false

/-- The Line Interface after reset (R15). -/
def Line.reset : Line where
  mode := .listen
  driver := .released
  receiver := .searching
  recessiveRun := 0
  frameCells := 0
  frameExpired := false
  silenceCells := 0
  due := false
  syncDriving := false
  goodRun := 0
  ownCount := 0
  syncFail := 0
  presenceFail := 0
  jabber := 0
  stuck := 0
  faultGood := 0
  quiet := 0
  badFrames := 0
  aloneCount := 0
  alone := false
  nextBeat := true
  drive := none
  driven := none
  noticeWon := false
  peers := List.replicate 8 PeerEntry.unheard
  prevGood := false
  common := CommonCells.recessive

/-- A level channel after reset (R38, R39), its strap not yet captured. DESIGN CHOICE (log 36): the gate
and state-changed items of R43 stand at bad and not changed before the first gate end. -/
def LevelChannel.reset : LevelChannel where
  mode := .absent
  count := 0
  e := 0
  rate := 0
  p := 0
  ring := List.replicate 8 0
  badRun := 0
  goodRun := 0
  gateGood := false
  changed := false

/-- The Demand Stager after reset (R44). -/
def Stager.reset : Stager := ⟨false, 0, 0, 0, 0, 0, false⟩

/-- The Duty Controller after reset (R58 and the table of chapter 4). -/
def Duty.reset : Duty where
  pump := .lockedOff
  mode := .auto
  contactor := false
  causes := []
  minOff := some 0
  inrush := none
  confirm := none
  runLoss := none
  minRun := none
  confirmed := false
  contRun := 0
  yielding := false
  changeover := 0
  changeoverBlocked := false
  window := []
  inhibit := false
  holdsLead := false
  noLead := 0
  leadUnusable := 0
  unplanned := 0
  supplyQuiet := 0
  prevRunning := []
  prevR := 0
  prevDEff := 0
  prevBusy := false
  fallbackDelay := .stopped
  supplyInactive := 0
  runSeconds := 0
  runMinutes := 0
  starts := 0
  availableAtStart := false
  availableAtEnd := false
  dutyList := []
  lead := none
  runningCount := 0
  waiting := []
  index := none
  peerYielding := false

/-- The Screen Controller after reset (R88). -/
def Screen.reset : Screen where
  sensing := none
  delta := 0
  condition := .unknown
  aboveBlocked := 0
  belowRake := 0
  belowBlocked := 0
  switchClear := none
  postRake := none
  highAlarm := none
  screenHigh := false
  flush := false
  interval := 0
  intervalDue := false
  rake := .idle
  motor := false
  rakeRun := none
  rakeInrush := none
  pause := none
  jams := 0
  cycles := 0

/-- The Overflow Monitor after reset (R103). DESIGN CHOICE (log 37): volume enabled and crest usable are
no until the loader finishes, and for good on a bay that is no weir bay. -/
def Overflow.reset : Overflow where
  state := .idle
  head := 0
  levelActive := false
  sourceActive := false
  blind := true
  pending := none
  tail := none
  volumeEnabled := false
  crestUsable := false
  startStamp := 0
  tailStamp := 0
  peak := 0
  accumulator := 0
  incomplete := false
  aboveTable := false
  prevGateOpen := false
  seconds := 0
  minutes := 0

/-- An alarm record after reset (R117). -/
def AlarmRecord.reset : AlarmRecord := ⟨true, .normal, false, false, 0, 0⟩

/-- The Alarm Table after reset (R117). -/
def Alarms.reset : Alarms where
  records := List.replicate 23 AlarmRecord.reset
  startFail := none
  runLost := none
  rakeJam := none
  queueLoss := none
  ackPress := false
  ackTown := false

/-- The Panel Output Unit after reset (R128). -/
def Panel.reset : Panel where
  outputs := List.replicate 8 ⟨⟨0, false, .steady, 0⟩, false, none, none⟩
  phase := 0
  pins := 0

/-- The Notice Unit after reset (R133). -/
def Notices.reset : Notices := ⟨[], 0, 0, false, none, none⟩

/-- The Telemetry Reporter after reset (R145 and the table of chapter 9). -/
def Reporter.reset : Reporter where
  mode := .none
  holdQuiet := 0
  openField := 0
  linkUp := true
  downSince := false
  urgentEnable := true
  routineEnable := false
  clock := none
  pairing := List.replicate 8 none
  alarmView := List.replicate 8 []
  history := []
  nextNumber := 0
  urgentQueue := []
  routineQueue := []
  flight := none
  nextSeq := 0
  lossPending := false
  answers := []
  dump := none
  command := none
  badMessages := 0
  lostReports := 0
  port := .idle
  message := []
  isReport := false
  sinceChar := none

/-- The part right after reset (R15, R28, R39, R44, R58, R88, R103, R117, R128, R133, R145, R167);
the values no rule gives are named in log 6 and log 30. -/
def State.reset : State where
  time := ⟨0, 0, false⟩
  inputs := List.replicate 15 ⟨false, 0, false⟩
  straps := ⟨0, false, false, false, false⟩
  loader := Loader.reset
  cfg := Settings.reduced
  causeCfg := false
  line := Line.reset
  gate := 0
  chanA := LevelChannel.reset
  chanB := LevelChannel.reset
  stager := Stager.reset
  duty := Duty.reset
  screen := Screen.reset
  ovf := Overflow.reset
  alarms := Alarms.reset
  panel := Panel.reset
  notices := Notices.reset
  reporter := Reporter.reset
  pending := []
  free := 0

end Sys2Proof.Machine
end

