-- ==== Sys2Proof/Machine/Ops.lean ====
section
/-! DEFINITION. The named readings of the state that every chapter shares: timers, inputs, the
settings' derived figures, the peer table, the holds. -/

namespace Sys2Proof.Machine

open Sys2Proof

/-! ### Timers (R26) -/

/-- One tick more on a running timer. -/
def advance (t : Timer) : Timer := t.map (· + 1)

/-- A running timer that has measured `limit` ticks or more. -/
def reached (t : Timer) (limit : Nat) : Bool :=
  match t with
  | some e => limit ≤ e
  | none => false

/-- Ticks in `n` seconds (R26). -/
def secondsTicks (n : Nat) : Nat := n * 100

/-- Ticks in `n` minutes. -/
def minutesTicks (n : Nat) : Nat := n * 6000

/-- The minute count of the Time Base (R26). -/
def minuteCount (s : State) : Nat := s.time.seconds.toNat / 60

/-! ### Loader and straps -/

/-- The Configuration Loader has finished (R167). -/
def loaded (s : State) : Bool := s.loader.phase == .done

/-- The straps have been captured, so that the Line Interface runs (R166). -/
def captured (s : State) : Bool := s.loader.phase != .capture

/-- The own address (R166). -/
def ownAddress (s : State) : Nat := s.straps.address.val

/-- The loader's cause raises CONFIG (R173). DESIGN CHOICE (log 45): a replacement in the overflow fields
is recorded on every bay (R172); on a bay without WEIR_EN it raises no alarm, as R104 has it of those
fields, and this goes before R173. -/
def loaderRaises (s : State) : Bool :=
  s.loader.causeFound && (s.straps.weirEn || !s.loader.overflowOnly)

/-- The raw condition of CONFIG: the loader's cause from the moment it finishes, or a structural
cause (R173). -/
def configActive (s : State) : Bool := (loaded s && loaderRaises s) || s.causeCfg

/-! ### Discrete inputs (R27, R28) -/

/-- The place of an input in the manual's table. -/
def inputIndex : Input → Nat
  | .runConfirm => 0 | .thermal => 1 | .moisture => 2 | .lowFloat => 3 | .highFloat => 4
  | .modeHand => 5 | .modeOff => 6 | .rakeLimit => 7 | .screenSw => 8 | .weirFloat => 9
  | .tideClosed => 10 | .supplyLow => 11 | .ackBtn => 12 | .lampTest => 13 | .allStop => 14

/-- The inputs by place. -/
def allInputs : List Input :=
  [.runConfirm, .thermal, .moisture, .lowFloat, .highFloat, .modeHand, .modeOff, .rakeLimit,
   .screenSw, .weirFloat, .tideClosed, .supplyLow, .ackBtn, .lampTest, .allStop]

/-- The inputs that guard the plant are active when their contact is open (R28). -/
def activeWhenOpen : Input → Bool
  | .thermal | .lowFloat | .supplyLow | .allStop => true
  | .runConfirm | .moisture | .highFloat | .modeHand | .modeOff | .rakeLimit | .screenSw
  | .weirFloat | .tideClosed | .ackBtn | .lampTest => false

/-- What a pin's level says of its input: a closed contact pulls the pin low (R28). -/
def sampleActive (pins : BitVec 15) (i : Input) : Bool :=
  if activeWhenOpen i then pins.getLsbD (inputIndex i) else !pins.getLsbD (inputIndex i)

/-- The Input Conditioner's record of an input. -/
def inputState (s : State) (i : Input) : InputState := s.inputs.getD (inputIndex i) ⟨false, 0, false⟩

/-- "The input is active": its accepted value (2.2). -/
def isActive (s : State) (i : Input) : Bool := (inputState s i).active

/-! ### Peer table (R23 to R25) -/

/-- The peer table's entry for an address. -/
def peer (s : State) (a : Nat) : PeerEntry := s.line.peers.getD a PeerEntry.unheard

/-- Fresh: heard, age below 3, beat-stuck count below 3 (R25). -/
def entryFresh (e : PeerEntry) : Bool := e.heard && e.age < 3 && e.beatStuck < 3

/-- An address's entry is fresh; the own one exactly while the station is JOINED (R25). -/
def freshAt (s : State) (a : Nat) : Bool :=
  if a = ownAddress s then s.line.mode == .joined else entryFresh (peer s a)

/-- The addresses of a house. -/
def addresses : List Nat := [0, 1, 2, 3, 4, 5, 6, 7]

/-! ### Receiver -/

/-- The line is idle (R4): in step outside a frame with ten recessive cells read. -/
def lineIdleNow (l : Line) : Bool := l.receiver == .outside && 10 ≤ l.recessiveRun

/-- The stuck condition (R20): the stuck count has passed 160 cells. -/
def stuckNow (l : Line) : Bool := 160 < l.stuck

/-! ### The house's cells and the own inputs -/

/-- A common cell as the bay uses it: not in LINE_FAULT (R46, R62, R97, R126, R129). -/
def cellUsed (s : State) (cell : Bool) : Bool := s.line.mode != .lineFault && cell

/-- The tide condition (R46); true: closed. -/
def tideClosed (s : State) : Bool :=
  isActive s .tideClosed || cellUsed s s.line.common.tide

/-- The stop hold (R62). -/
def stopHold (s : State) : Bool :=
  isActive s .allStop || isActive s .lowFloat || isActive s .thermal
    || cellUsed s s.line.common.allStop || cellUsed s s.line.common.dry

/-- The rake stop (R97). -/
def rakeStop (s : State) : Bool :=
  isActive s .allStop || cellUsed s s.line.common.allStop || s.duty.mode == .off

/-- MOISTURE policy 1 or 2 is in force (R79). -/
def moistureBars (s : State) : Bool := 1 ≤ s.cfg.moisturePolicy && isActive s .moisture

/-- The starts window is full (R78). -/
def windowFull (s : State) : Bool :=
  0 < s.cfg.startsPerHour && s.cfg.startsPerHour ≤ s.duty.window.length

/-- The bay is available (R68). -/
def available (s : State) : Bool :=
  (s.duty.pump == .idle || s.duty.pump == .startWait) && s.line.mode == .joined
    && s.screen.condition != .blocked && !windowFull s && !s.duty.inhibit && !moistureBars s

/-- The minimum run timer has expired (R75): it has measured T_minrun, or its expiry was taken. -/
def minRunExpired (s : State) : Bool :=
  match s.duty.minRun with
  | none => true
  | some e => secondsTicks s.cfg.tMinRun ≤ e

/-- The overflow state is OVF_ACTIVE or OVF_TAIL (R115). -/
def overflowOpen (o : Overflow) : Bool := o.state == .active || o.state == .tail

/-- INRUSH is asserted by the Duty Controller or the Screen Controller (R10). -/
def inrushAsserted (s : State) : Bool := s.duty.inrush.isSome || s.screen.rakeInrush.isSome

/-- The pump drives RUNNING (R60). -/
def runningAsserted (s : State) : Bool :=
  s.duty.pump == .starting || s.duty.pump == .running || s.duty.pump == .hand

/-- YIELDING is driven (R60). -/
def yieldingAsserted (s : State) : Bool := s.duty.yielding && s.duty.pump == .running

/-! ### Level channels -/

/-- Channel A or B is HEALTHY or SUSPECT: it offers a level (R43). -/
def offersLevel (c : LevelChannel) : Bool := c.mode == .healthy || c.mode == .suspect

/-- The own stage as published (R51): D while the table is usable and channel A offers a level. -/
def publishedStage (s : State) : Nat :=
  if s.stager.usable && offersLevel s.chanA then s.stager.d else 0

/-- A calibration is usable (R32). -/
def calibrationUsable (c : Calibration) : Bool := c.z + 500 ≤ c.f

end Sys2Proof.Machine
end

