-- ==== Sys2Proof/Machine/Levels.lean ====
section
/-! DEFINITION. The level channels at a gate end (chapter 2): classification, conversion, filter,
rate, prediction, states. -/

namespace Sys2Proof.Machine

open Sys2Proof

/-- The over-range limit of a calibration (R32). -/
def overLimit (c : Calibration) : Nat := c.f + (c.f - c.z) / 4

/-- The level of a good gate between zero head and span, rounded half up (R34). -/
def convert (c : Calibration) (count : Nat) : Nat :=
  ((count - c.z) * c.h + (c.f - c.z) / 2) / (c.f - c.z)

/-- The outcome of a gate: none for a bad gate (OPEN, OVER), else its level (R33). -/
def classify (c : Calibration) (count : Nat) : Option Nat :=
  if count = 0 then none
  else if overLimit c < count then none
  else if count ≤ c.z then some 0
  else if c.f ≤ count then some c.h
  else some (convert c count)

/-- `d` divided by 2^k, rounded to the nearest integer, half away from zero (R35). -/
def roundShift (d : Int) (k : Nat) : Int :=
  let m := (d.natAbs + 2 ^ k / 2) / 2 ^ k
  if d < 0 then -(m : Int) else m

/-- The filtered level after a good gate (R35). -/
def filterLevel (k e level : Nat) : Nat := ((e : Int) + roundShift ((level : Int) - e) k).toNat

/-- A signed value clamped. -/
def clampInt (lo hi v : Int) : Int := max lo (min hi v)

/-- The rate from the new E and the value the ring gives up, clamped to ±2047 (R36). -/
def rateOf (e oldest : Nat) : Int := clampInt (-2047) 2047 ((e : Int) - oldest)

/-- The predicted level, clamped to the span (R37). -/
def predict (c : Calibration) (q e : Nat) (rate : Int) : Nat :=
  (clampInt 0 c.h ((e : Int) + rate * q)).toNat

/-- The update of a good gate (R40): filter, rate and ring, prediction. -/
def updateLevel (c : Calibration) (q level : Nat) (ch : LevelChannel) : LevelChannel :=
  let e := filterLevel c.k ch.e level
  let rate := rateOf e (ch.ring.headD 0)
  { ch with e := e, rate := rate, ring := ch.ring.drop 1 ++ [e], p := predict c q e rate }

/-- An initialisation (R39, R41): E takes the level, the ring holds it eight times, R is 0, P is E. -/
def initialise (level : Nat) (ch : LevelChannel) : LevelChannel :=
  { ch with
    e := level, ring := List.replicate 8 level, rate := 0, p := level, badRun := 0, goodRun := 0
    mode := .healthy }

/-- A good gate with its level, by state (R39 to R41). -/
def goodGate (c : Calibration) (q level : Nat) (ch : LevelChannel) : LevelChannel :=
  match ch.mode with
  | .starting => initialise level ch
  | .healthy => { updateLevel c q level ch with badRun := 0, mode := .healthy }
  | .suspect => { updateLevel c q level ch with badRun := 0, mode := .healthy }
  | .faulted =>
    if ch.goodRun + 1 < 3 then { ch with goodRun := ch.goodRun + 1 } else initialise level ch
  | .absent => ch

/-- A bad gate, by state (R39 to R41). -/
def badGate (ch : LevelChannel) : LevelChannel :=
  match ch.mode with
  | .starting =>
    if ch.badRun + 1 < 3 then { ch with badRun := ch.badRun + 1 }
    else { ch with badRun := 3, goodRun := 0, mode := .faulted }
  | .healthy => { ch with badRun := ch.badRun + 1, mode := .suspect }
  | .suspect =>
    if ch.badRun + 1 < 3 then { ch with badRun := ch.badRun + 1 }
    else { ch with badRun := 3, goodRun := 0, mode := .faulted }
  | .faulted => { ch with goodRun := 0 }
  | .absent => ch

/-- A channel's work at a gate end: its count classified and taken, the next gate's count at 0, and
what it hands to its readers (R31, R38, R43). DESIGN CHOICE (log 36): an ABSENT channel, whose count R33
does not classify, hands its gate as bad. -/
def gateChannel (c : Calibration) (q : Nat) (ch : LevelChannel) : LevelChannel :=
  let outcome := if ch.mode = .absent then none else classify c ch.count
  let ch' := match outcome with
    | some level => goodGate c q level ch
    | none => badGate ch
  { ch' with count := 0, gateGood := outcome.isSome, changed := ch'.mode != ch.mode }

end Sys2Proof.Machine
end

