-- ==== Sys2Proof/Machine/Codec.lean ====
section
/-! DEFINITION. The checks and the fields of Formats (chapter 11): CRC-8 of a notice, CRC-16 of the
port and the image, numeric fields of the line, the notice body, records and messages as bytes. -/

namespace Sys2Proof.Machine

open Sys2Proof

/-! ### The two checks -/

/-- One digit into the notice check's register, polynomial x^8 + x^2 + x + 1 (R139). -/
def crc8Digit (r : BitVec 8) (b : Bool) : BitVec 8 :=
  if r.msb != b then (r <<< 1) ^^^ 7#8 else r <<< 1

/-- The digits of a `n`-digit number, most significant first. -/
def digits (n v : Nat) : List Bool := (List.range n).map fun j => v.testBit (n - 1 - j)

/-- The check of a 32-digit notice body (R139). -/
def crc8 (body : Nat) : Nat := ((digits 32 body).foldl crc8Digit 0#8).toNat

/-- One digit into the CRC-16 register, polynomial x^16 + x^12 + x^5 + 1 (R150). -/
def crc16Digit (r : BitVec 16) (b : Bool) : BitVec 16 :=
  if r.msb != b then (r <<< 1) ^^^ 0x1021#16 else r <<< 1

/-- The CRC-16 of bytes, each most significant bit first, from FFFFh (R150, R170). R170 gives that bit
order for the image; DESIGN CHOICE (log 38): the characters of the telemetry port enter in it too. -/
def crc16 (bytes : List Byte) : Nat :=
  (bytes.foldl (fun r b => (digits 8 b.toNat).foldl crc16Digit r) 0xFFFF#16).toNat

/-! ### Cells of a frame (R2, R175) -/

/-- The numeric field of `n` cells from cell `at`, most significant first; dominant is 0 (R2). -/
def numericField (c : Cells) (start : Nat) : Nat → Nat
  | 0 => 0
  | n + 1 => 2 * numericField c start n + (if c.getLsbD (start + n) then 0 else 1)

/-- The first cell of the claim field that a cell lies in: start, reporter or notice claim (R175). -/
def claimStart (k : Nat) : Option Nat :=
  if 12 ≤ k ∧ k < 19 then some 12
  else if 20 ≤ k ∧ k < 24 then some 20
  else if 28 ≤ k ∧ k < 32 then some 28
  else none

/-- A key has been lost before cell `k`: in an earlier cell of its claim field the station drove
recessive and read dominant (R12). -/
def lostBefore (key read : Cells) (k : Nat) : Bool :=
  match claimStart k with
  | some start => (List.range (k - start)).any fun j =>
      !key.getLsbD (start + j) && read.getLsbD (start + j)
  | none => false

/-- The cells of a numeric field as driven; true is dominant, which is the digit 0 (R2). -/
def fieldCells (n v : Nat) : List Bool := (digits n v).map (! ·)

/-- Cells not driven. -/
def recessive (n : Nat) : List Bool := List.replicate n false

/-- Cells from a list, cell 0 first. -/
def cellsNat : List Bool → Nat
  | [] => 0
  | b :: rest => (if b then 1 else 0) + 2 * cellsNat rest

/-- The frame's cells from a list of 136. -/
def toCells (bs : List Bool) : Cells := BitVec.ofNat 136 (cellsNat bs)

/-- The cells that come to be driven of those meant: a key that loses drives recessive from the next
cell of its field to the last (R12). -/
def releaseLost (meant read : Cells) : Cells :=
  toCells ((List.range 136).map fun k => meant.getLsbD k && !lostBefore meant read k)

/-- The first cell of the station field of an address (R175). -/
def stationCell (a : Nat) : Nat := 32 + 8 * a

/-- What a station field shows, taken as a heard entry of age 0 (R11, R24, R175). -/
def shownEntry (c : Cells) (a beatStuck : Nat) : PeerEntry where
  heard := true
  age := 0
  lead := c.getLsbD (stationCell a + 1)
  available := c.getLsbD (stationCell a + 2)
  running := c.getLsbD (stationCell a + 3)
  starting := c.getLsbD (stationCell a + 4)
  blocked := c.getLsbD (stationCell a + 5)
  yielding := c.getLsbD (stationCell a + 6)
  lastBeat := c.getLsbD (stationCell a + 7)
  beatStuck := beatStuck

/-- The start claim field as read: priority, position, address (R12, R175). -/
def startField (c : Cells) : Nat := numericField c 12 7

/-- The reporter claim field as read. -/
def reportField (c : Cells) : Nat := numericField c 20 4

/-- The notice claim field as read. -/
def noticeField (c : Cells) : Nat := numericField c 28 4

/-- The notice body and the notice check as read. -/
def bodyField (c : Cells) : Nat := numericField c 96 32
def checkField (c : Cells) : Nat := numericField c 128 8

/-- The body and check of a notice in their cells, the others not driven. -/
def noticeCells (body check : Nat) : Cells :=
  toCells (recessive 96 ++ fieldCells 32 body ++ fieldCells 8 check)

/-- The common flag cells as read (R175). -/
def commonOf (c : Cells) : CommonCells where
  dry := c.getLsbD 8
  overflow := c.getLsbD 9
  unack := c.getLsbD 10
  inrush := c.getLsbD 19
  supplyLow := c.getLsbD 24
  tide := c.getLsbD 25
  highFloat := c.getLsbD 26
  allStop := c.getLsbD 27

/-- D_line: the highest k from 1 to 8 whose DEMAND cell k - 1 read dominant (R52). -/
def demandRead (c : Cells) : Nat → Nat
  | 0 => 0
  | k + 1 => if c.getLsbD k then k + 1 else demandRead c k

/-! ### Notice bodies (R139, 11.1) -/

/-- The number of a kind (R139). -/
def noticeKindNumber : NoticeKind → Nat
  | .alarm => 0 | .overflowStart => 1 | .overflowEnd => 2 | .overflowTime => 3 | .summary => 4
  | .command => 5 | .commandResult => 6

/-- The kind of a number; 7 to 15 are not valid (R140). -/
def noticeKindOf : Nat → Option NoticeKind
  | 0 => some .alarm | 1 => some .overflowStart | 2 => some .overflowEnd | 3 => some .overflowTime
  | 4 => some .summary | 5 => some .command | 6 => some .commandResult | _ => none

/-- The 32 digits of an entry's body: kind 4, subject 4, code 5, state 3, value 16 (11.1). -/
def bodyOf (e : NoticeEntry) : Nat :=
  noticeKindNumber e.kind * 2 ^ 28 + e.subject * 2 ^ 24 + e.code * 2 ^ 19 + e.state * 2 ^ 16 + e.value

/-- A notice as received. -/
structure Received where
  kind    : NoticeKind
  subject : Nat
  code    : Nat
  state   : Nat
  value   : Nat
  deriving DecidableEq, Repr

/-- The ranges of a kind's code and state (R140). -/
def fieldsInRange (k : NoticeKind) (code state : Nat) : Bool :=
  match k with
  | .alarm => 1 ≤ code && code ≤ 23 && state ≤ 3
  | .overflowStart => code == 0 && state == 0
  | .overflowEnd => code == 0 && state ≤ 7
  | .overflowTime => code ≤ 31 && state == 0
  | .summary => code ≤ 6 && state == 0
  | .command => code ≤ 31 && state == 0
  | .commandResult => code ≤ 31 && state ≤ 1

/-- The notice a body spells, when its fields lie in the ranges of its kind (R140). -/
def receivedOf (body : Nat) : Option Received :=
  match noticeKindOf (body / 2 ^ 28 % 16) with
  | none => none
  | some k =>
    let subject := body / 2 ^ 24 % 16
    let code := body / 2 ^ 19 % 32
    let state := body / 2 ^ 16 % 8
    if subject ≤ 7 && fieldsInRange k code state then
      some ⟨k, subject, code, state, body % 65536⟩
    else none

/-! ### Records and messages as bytes (11.2, 11.3) -/

/-- A value of one byte, and one of two bytes, high byte first. -/
def byte1 (v : Nat) : List Byte := [BitVec.ofNat 8 v]
def byte2 (v : Nat) : List Byte := [BitVec.ofNat 8 (v / 256), BitVec.ofNat 8 v]

/-- The number of a record kind (R177). -/
def recordKindNumber : RecordKind → Nat
  | .alarm => 1 | .overflowStart => 2 | .overflowEvent => 3 | .summary => 4 | .reporterChanged => 5

/-- A report record as carried in REPORT and DUMP_RECORD; absent fields close up (R176, R177). -/
def recordBytes (r : ReportRecord) : List Byte :=
  byte1 (recordKindNumber r.kind) ++ byte1 r.station ++ byte1 r.code ++ byte1 r.state ++ byte2 r.value1
    ++ (match r.value2 with | some v => byte2 v | none => [])
    ++ (match r.stamp with | some (d, m) => byte2 d ++ byte2 m | none => [])

/-- Bits 4 and 5 of byte 4: value2 present, stamp present (11.2). -/
def recordFlags (r : ReportRecord) : Nat :=
  (if r.value2.isSome then 16 else 0) + (if r.stamp.isSome then 32 else 0)

/-- A house message: start, L, house number, type, sequence with flags, body, CRC (11.2, R176). -/
def houseMessage (house type seqFlags : Nat) (body : List Byte) : List Byte :=
  let inner := byte1 (3 + body.length) ++ byte1 house ++ byte1 type ++ byte1 seqFlags ++ body
  byte1 0x5A ++ inner ++ byte2 (crc16 inner)

/-- A town message that has passed the checks of R150. -/
structure TownMessage where
  type : Nat
  seq  : Nat
  len  : Nat
  body : List Byte
  deriving DecidableEq, Repr

/-- The characters after the length form the rest of a message of length `l` for this house: `l`
characters from the house number on, and the CRC of length to body, high character first. -/
def restValid (house l : Nat) (rest : List Byte) : Bool :=
  rest.length == l + 2
    && byte2 (crc16 (byte1 l ++ rest.take l)) == rest.drop l
    && (rest.headD 0).toNat == house

/-- A valid town message (R150): start 5Ah, L 3 to 40, length, CRC and house number right. The low
half of byte 4 is its sequence (R176). -/
def parseTown (house : Nat) (chars : List Byte) : Option TownMessage :=
  match chars with
  | start :: len :: rest =>
    let l := len.toNat
    if start == 0x5A#8 && 3 ≤ l && l ≤ 40 && restValid house l rest then
      some ⟨(rest.getD 1 0).toNat, (rest.getD 2 0).toNat % 16, l, (rest.drop 3).take (l - 3)⟩
    else none
  | _ => none

/-- The last of these characters is one at which R150 discards the message: a character other than
5Ah while waiting, a length out of range, a wrong CRC, or another house number. -/
def foundInvalid (house : Nat) (chars : List Byte) : Bool :=
  match chars with
  | [] => false
  | [c] => c != 0x5A#8
  | start :: len :: rest =>
    let l := len.toNat
    if start != 0x5A#8 then false
    else if l < 3 || 40 < l then rest.isEmpty
    else rest.length == l + 2 && !restValid house l rest

/-- These characters are a message begun and not ended, with nothing yet found wrong (R150). -/
def partialMessage (chars : List Byte) : Bool :=
  match chars with
  | [] => false
  | [c] => c == 0x5A#8
  | start :: len :: rest =>
    start == 0x5A#8 && 3 ≤ len.toNat && len.toNat ≤ 40 && rest.length < len.toNat + 2

/-- The number of a body byte, and of two bytes high byte first. -/
def bodyByte (m : TownMessage) (i : Nat) : Nat := (m.body.getD i 0).toNat
def bodyWord (m : TownMessage) (i : Nat) : Nat := bodyByte m i * 256 + bodyByte m (i + 1)

end Sys2Proof.Machine
end

