-- ==== Sys2Proof/Machine/Flags.lean ====
section
/-! DEFINITION. Every flag computation: the fixed properties of the alarm codes, the raw condition of
each code (R119 and the owners' rules), the panel's sources (R129) and the energised state (R132). -/

namespace Sys2Proof.Machine

open Sys2Proof

/-! ### Alarm codes (07, 7.1) -/

/-- The codes in order, lowest first. -/
def allCodes : List AlarmCode :=
  [.thermalTrip, .moisture, .startFail, .runLost, .startsLimit, .changeoverBlocked, .screenHigh,
   .screenBlocked, .rakeJam, .levelAFault, .levelBFault, .dryRun, .highFloat, .overflow, .lineFault,
   .isolated, .config, .supplyLow, .alone, .telemetryDown, .queueLoss, .outOfService, .handMode]

/-- The number of a code. -/
def codeNumber : AlarmCode → Nat
  | .thermalTrip => 1 | .moisture => 2 | .startFail => 3 | .runLost => 4 | .startsLimit => 5
  | .changeoverBlocked => 6 | .screenHigh => 7 | .screenBlocked => 8 | .rakeJam => 9
  | .levelAFault => 10 | .levelBFault => 11 | .dryRun => 12 | .highFloat => 13 | .overflow => 14
  | .lineFault => 15 | .isolated => 16 | .config => 17 | .supplyLow => 18 | .alone => 19
  | .telemetryDown => 20 | .queueLoss => 21 | .outOfService => 22 | .handMode => 23

/-- The class of a code; true: urgent. -/
def urgentCode : AlarmCode → Bool
  | .thermalTrip | .startFail | .runLost | .screenBlocked | .rakeJam | .levelAFault | .highFloat
  | .overflow | .lineFault | .isolated | .supplyLow | .telemetryDown => true
  | .moisture | .startsLimit | .changeoverBlocked | .screenHigh | .levelBFault | .dryRun | .config
  | .alone | .queueLoss | .outOfService | .handMode => false

/-- The class of an alarm code by its number, as a receiver of its notice knows it (R153). -/
def urgentNumber (n : Nat) : Bool := (allCodes[n - 1]?.map urgentCode).getD false

/-- The codes that latch. -/
def latching : AlarmCode → Bool
  | .thermalTrip | .moisture | .startFail | .runLost | .rakeJam | .isolated | .config | .queueLoss => true
  | .startsLimit | .changeoverBlocked | .screenHigh | .screenBlocked | .levelAFault | .levelBFault
  | .dryRun | .highFloat | .overflow | .lineFault | .supplyLow | .alone | .telemetryDown
  | .outOfService | .handMode => false

/-- The codes whose enable is forced (R118). -/
def enableForced : AlarmCode → Bool
  | .thermalTrip | .startFail | .runLost | .rakeJam | .isolated | .config => true
  | .moisture | .startsLimit | .changeoverBlocked | .screenHigh | .screenBlocked | .levelAFault
  | .levelBFault | .dryRun | .highFloat | .overflow | .lineFault | .supplyLow | .alone
  | .telemetryDown | .queueLoss | .outOfService | .handMode => false

/-- The number of a record's state (R117). -/
def stateNumber : AlarmState → Nat
  | .normal => 0 | .activeUnack => 1 | .activeAck => 2 | .clearedUnack => 3

/-- The raw condition of each code, by the rule of its owner (the table of 7.1). -/
def rawCondition (s : State) : AlarmCode → Bool
  | .thermalTrip => isActive s .thermal
  | .moisture => isActive s .moisture
  | .startFail => s.alarms.startFail.isSome
  | .runLost => s.alarms.runLost.isSome
  | .startsLimit => windowFull s
  | .changeoverBlocked => s.duty.changeoverBlocked
  | .screenHigh => s.screen.screenHigh
  | .screenBlocked => s.screen.condition == .blocked
  | .rakeJam => s.alarms.rakeJam.isSome
  | .levelAFault => s.chanA.mode == .faulted
  | .levelBFault => s.chanB.mode == .faulted
  | .dryRun => isActive s .lowFloat && 1 ≤ s.stager.dPre
  | .highFloat => isActive s .highFloat
  | .overflow => overflowOpen s.ovf
  | .lineFault => s.line.mode == .lineFault
  | .isolated => s.line.mode == .isolated
  | .config => configActive s
  | .supplyLow => isActive s .supplyLow
  | .alone => s.line.alone
  | .telemetryDown => s.reporter.mode == .active && !s.reporter.linkUp
  | .queueLoss => s.alarms.queueLoss.isSome
  | .outOfService => s.duty.pump == .outOfService
  | .handMode => s.duty.pump == .hand

/-! ### Records -/

/-- The record of a code. -/
def recordOf (s : State) (c : AlarmCode) : AlarmRecord :=
  s.alarms.records.getD (codeNumber c - 1) AlarmRecord.reset

/-- The record of a code replaced. -/
def setRecord (s : State) (c : AlarmCode) (r : AlarmRecord) : State :=
  { s with alarms := { s.alarms with records := s.alarms.records.set (codeNumber c - 1) r } }

/-- Not yet acknowledged. -/
def unacknowledged (r : AlarmRecord) : Bool := r.state == .activeUnack || r.state == .clearedUnack

/-- The UNACK assertion (R126). -/
def unackAsserted (s : State) : Bool :=
  allCodes.any fun c => (recordOf s c).enabled && unacknowledged (recordOf s c)

/-- The house UNACK (R126). -/
def houseUnack (s : State) : Bool := unackAsserted s || cellUsed s s.line.common.unack

/-- An enabled record not in NORMAL, of all codes or of the urgent ones (R129, sources 10 and 12). -/
def standing (s : State) (urgentOnly : Bool) : Bool :=
  allCodes.any fun c =>
    (recordOf s c).enabled && (recordOf s c).state != .normal && (!urgentOnly || urgentCode c)

/-! ### Panel sources (R129) -/

/-- Whether a source is on. -/
def sourceOn (s : State) (n : Nat) : Bool :=
  match n with
  | 1 => s.duty.contactor
  | 2 => s.duty.availableAtStart
  | 3 => s.duty.pump == .faulted
  | 4 => s.duty.holdsLead
  | 5 => s.duty.inrush.isSome
  | 6 => s.screen.motor
  | 7 => s.screen.condition == .blocked
  | 8 => s.screen.condition == .high
  | 9 => overflowOpen s.ovf || cellUsed s s.line.common.overflow
  | 10 => standing s false
  | 11 => houseUnack s
  | 12 => standing s true
  | 13 => s.line.mode != .joined
  | 14 => s.reporter.mode == .active
  | 15 => rawCondition s .telemetryDown
  | 24 => isActive s .highFloat || cellUsed s s.line.common.highFloat
  | 25 => isActive s .lowFloat || cellUsed s s.line.common.dry
  | 26 => isActive s .supplyLow || cellUsed s s.line.common.supplyLow
  | 27 => isActive s .tideClosed || cellUsed s s.line.common.tide
  | n => 16 ≤ n && n ≤ 23 && n - 15 ≤ s.stager.dEff

/-- An alarm source (R129). -/
def alarmSource (n : Nat) : Bool := n == 10 || n == 12

/-- Some covered record stands in a state. -/
def coveredIn (s : State) (urgentOnly : Bool) (st : AlarmState) : Bool :=
  allCodes.any fun c =>
    (recordOf s c).enabled && (recordOf s c).state == st && (!urgentOnly || urgentCode c)

/-- The shown value of an annunciated output on an alarm source: fast flash, slow flash, on or off,
by the worst state and the flash phase (R131). -/
def annunciated (s : State) (urgentOnly : Bool) : Bool :=
  if coveredIn s urgentOnly .activeUnack then s.panel.phase % 100 < 50
  else if coveredIn s urgentOnly .clearedUnack then s.panel.phase < 100
  else coveredIn s urgentOnly .activeAck

/-- The shown value of an output (R130, R131). -/
def shownValue (s : State) (o : OutputState) : Bool :=
  match o.entry.mode with
  | .steady => o.source || o.stretch.isSome
  | .pulse => o.pulse.isSome
  | .annunciated =>
    if alarmSource o.entry.source then annunciated s (o.entry.source == 12) else o.source

/-- The energised state of an output (R128, R132). -/
def energised (s : State) (o : OutputState) : Bool :=
  loaded s && (isActive s .lampTest || (shownValue s o != o.entry.invert))

end Sys2Proof.Machine
end

