-- ==== Sys2Proof/Machine/Pump.lean ====
section
/-! DEFINITION. The Duty Controller's operations on the pump (chapter 4): contactor, pump states,
mode, inhibit, starts and stops, the stop hold. -/

namespace Sys2Proof.Machine

open Sys2Proof

/-- A change of the Duty Controller alone. -/
def setDuty (s : State) (d : Duty) : State := { s with duty := d }

/-- The pump state alone. -/
def setPump (s : State) (p : PumpState) : State := setDuty s { s.duty with pump := p }

/-- The 120 s at which the changeover timer stops (R77), in ticks (R26). -/
def changeoverLimit : Nat := secondsTicks 120

/-- Yielding clears; the changeover timer stops at 0 and CHANGEOVER_BLOCKED ends (R76, R77). -/
def clearYielding (d : Duty) : Duty :=
  { d with yielding := false, changeover := 0, changeoverBlocked := false }

/-- The minimum off timer as started; at a T_minoff of 0 it expires as it starts (R63). -/
def startedMinOff (s : State) : Timer := if s.cfg.tMinOff = 0 then none else some 0

/-- The contactor opens, if closed (R62): the minimum off timer starts, the inrush, confirm, run-loss
and minimum run timers stop, the continuous run time goes to 0, yielding clears. -/
def openContactor (s : State) : State :=
  if s.duty.contactor then
    setDuty s (clearYielding { s.duty with
      contactor := false, minOff := startedMinOff s, inrush := none, confirm := none
      runLoss := none, minRun := none, contRun := 0, confirmed := false })
  else s

/-- The fallback delay timer as started: address × (T_inrush + 1 s), at once for address 0 (R86). -/
def startedDelay (s : State) : DelayTimer := if ownAddress s = 0 then .expired else .running 0

/-- Entry to IDLE; with the local call on the fallback delay timer starts (R86). -/
def enterIdle (s : State) : State :=
  setDuty s { s.duty with
    pump := .idle
    fallbackDelay := if s.stager.localCall then startedDelay s else s.duty.fallbackDelay }

/-- Entry to LOCKED_OFF; with the minimum off timer expired it passes to IDLE at the same moment,
once the loader has finished (R58, R63). -/
def enterLockedOff (s : State) : State :=
  let s := openContactor s
  if s.duty.minOff.isNone && loaded s then enterIdle s else setPump s .lockedOff

/-- Entry to OUT_OF_SERVICE; a closed contactor opens (R59). -/
def enterOutOfService (s : State) : State := setPump (openContactor s) .outOfService

/-- A hand closure (R61). -/
def handClosure (s : State) : State :=
  setDuty s { s.duty with
    contactor := true, inrush := some 0, starts := satSucc 65535 s.duty.starts }

/-- In HAND the contactor is closed while the stop hold is not in force; before the loader finishes
it is held open (R58, R61). -/
def closeInHand (s : State) : State :=
  if s.duty.pump == .hand && !s.duty.contactor && loaded s && !stopHold s then handClosure s else s

/-- Entry to HAND (R61): from STARTING or RUNNING the contactor stays closed and only the automatic
run's timers stop; from any other state it closes, unless held. -/
def enterHand (s : State) : State :=
  if s.duty.contactor then
    setDuty s (clearYielding { s.duty with
      pump := .hand, confirm := none, runLoss := none, minRun := none, contRun := 0
      confirmed := false })
  else closeInHand (setPump s .hand)

/-- A cause joins the set once (R64). -/
def addCause (causes : List AlarmCode) (c : AlarmCode) : List AlarmCode :=
  if causes.contains c then causes else causes ++ [c]

/-- Entry to FAULTED, or a second cause there (R64). -/
def enterFaulted (c : AlarmCode) (s : State) : State :=
  let s := openContactor s
  setDuty s (clearYielding { s.duty with pump := .faulted, causes := addCause s.duty.causes c })

/-- The mode formed from the two inputs (R59). -/
def modeOf (offActive handActive : Bool) : PumpMode :=
  if offActive then .off else if handActive then .hand else .auto

/-- The pump's answer to a changed mode (R59). -/
def answerMode (s : State) : State :=
  match s.duty.mode with
  | .off =>
    if s.duty.pump == .faulted || s.duty.pump == .outOfService then s else enterOutOfService s
  | .hand => if s.duty.pump == .faulted || s.duty.pump == .hand then s else enterHand s
  | .auto =>
    if s.duty.pump == .hand || s.duty.pump == .outOfService then
      if s.duty.inhibit then enterOutOfService s else enterLockedOff s
    else s

/-- The mode re-formed at an accepted change of MODE_OFF or MODE_HAND (R59). -/
def reformMode (s : State) : State :=
  let m := modeOf (isActive s .modeOff) (isActive s .modeHand)
  if m = s.duty.mode then s else answerMode (setDuty s { s.duty with mode := m })

/-- A pump in STARTING or RUNNING stops and enters LOCKED_OFF (R62, R79, R80, R85). -/
def stopAutomatic (s : State) : State :=
  if s.duty.pump == .starting || s.duty.pump == .running then enterLockedOff s else s

/-- Entry to RUNNING; yielding is set if the continuous run time has already reached T_maxrun (R76). -/
def enterRunning (s : State) : State :=
  setDuty s { s.duty with
    pump := .running
    yielding := s.duty.yielding
      || (0 < s.cfg.tMaxRun && minutesTicks s.cfg.tMaxRun ≤ s.duty.contRun) }

/-- The starts window with a stamp more; with N_s = 0 it is not kept (R78). -/
def stamped (s : State) : List Seconds :=
  if s.cfg.startsPerHour = 0 then s.duty.window else s.duty.window ++ [s.time.seconds]

/-- Entry to STARTING (R66): the contactor closes, the inrush, confirm and minimum run timers and
the continuous run time start, a stamp and a start are added; already confirmed if RUN_CONFIRM is
active. -/
def startPump (s : State) : State :=
  let confirmed := isActive s .runConfirm
  setDuty s { s.duty with
    pump := .starting, contactor := true, inrush := some 0
    confirm := if confirmed then none else some 0
    confirmed := confirmed, runLoss := none, minRun := some 0, contRun := 0
    window := stamped s, starts := satSucc 65535 s.duty.starts }

/-- The stop hold applied (R62): in force, a pump in STARTING or RUNNING goes to LOCKED_OFF and one
in HAND opens; lifted, one in HAND closes again. -/
def applyHold (s : State) : State :=
  if stopHold s then
    if s.duty.pump == .starting || s.duty.pump == .running then enterLockedOff s else openContactor s
  else closeInHand s

/-- The exit from FAULTED (R64). -/
def leaveFaulted (s : State) : State :=
  let s := setDuty s { s.duty with causes := [] }
  match s.duty.mode with
  | .off => enterOutOfService s
  | .hand => enterHand s
  | .auto => if s.duty.inhibit then enterOutOfService s else enterLockedOff s

/-- The inhibit flag set (R84). -/
def setInhibit (s : State) : State :=
  let s := setDuty s { s.duty with inhibit := true }
  if s.duty.mode == .auto && (s.duty.pump == .idle || s.duty.pump == .startWait
      || s.duty.pump == .lockedOff || s.duty.pump == .starting || s.duty.pump == .running)
  then enterOutOfService s else s

/-- The inhibit flag cleared (R84). -/
def clearInhibit (s : State) : State :=
  let s := setDuty s { s.duty with inhibit := false }
  if s.duty.mode == .auto && s.duty.pump == .outOfService then enterLockedOff s else s

/-- THERMAL's accepted activation (R65): FAULTED, or a cause more in FAULTED. -/
def thermalTrip (s : State) : State := enterFaulted .thermalTrip s

/-- RUN_CONFIRM's accepted activation (R66, R67): it confirms a start whose confirm timer runs, and
stops the run-loss timer. -/
def confirmActivated (s : State) : State :=
  if s.duty.pump == .starting && s.duty.confirm.isSome then
    let s := setDuty s { s.duty with confirmed := true, confirm := none }
    if s.duty.inrush.isNone then enterRunning s else s
  else setDuty s { s.duty with runLoss := none }

/-- RUN_CONFIRM's accepted release on a confirmed pump (R67). -/
def confirmReleased (s : State) : State :=
  if s.duty.confirmed && (s.duty.pump == .starting || s.duty.pump == .running) then
    setDuty s { s.duty with runLoss := some 0 }
  else s

/-- MOISTURE's accepted activation under policy 2 (R79). -/
def moistureActivated (s : State) : State :=
  if s.cfg.moisturePolicy = 2 then stopAutomatic s else s

/-- The fallback stop (R86): in LINE_FAULT a RUNNING pump whose local call is off and whose minimum
run has passed. -/
def fallbackStop (s : State) : State :=
  if s.line.mode == .lineFault && s.duty.pump == .running && !s.stager.localCall && minRunExpired s
  then enterLockedOff s else s

/-- Every condition of a fallback start (R86). -/
def fallbackReady (s : State) : Bool :=
  s.line.mode == .lineFault && s.duty.pump == .idle && s.stager.localCall
    && s.duty.fallbackDelay == .expired && 500 ≤ s.duty.supplyInactive && !stopHold s
    && s.screen.condition != .blocked && !windowFull s && !s.duty.inhibit && !moistureBars s
    && loaded s

end Sys2Proof.Machine
end

