-- ==== Sys2Proof/Machine/Stagers.lean ====
section
/-! DEFINITION. The Demand Stager's operations (chapter 3). -/

namespace Sys2Proof.Machine

open Sys2Proof

def setStager (s : State) (g : Stager) : State := { s with stager := g }

/-- S_k and T_k, numbered from 1. -/
def startLevel (c : Settings) (k : Nat) : Nat := c.startLevels.getD (k - 1) 0
def stopLevel (c : Settings) (k : Nat) : Nat := c.stopLevels.getD (k - 1) 0

/-- The stages 1 to `n` all satisfy `p`. -/
def allStages (n : Nat) (p : Nat → Bool) : Bool := (List.range n).all fun i => p (i + 1)

/-- The stage table is usable (R45). -/
def tableUsable (c : Settings) : Bool :=
  1 ≤ c.stageCount && c.stageCount ≤ 8 && 0 < stopLevel c 1
    && allStages c.stageCount (fun k => stopLevel c k < startLevel c k)
    && allStages (c.stageCount - 1) (fun k =>
        startLevel c k < startLevel c (k + 1) && stopLevel c k < stopLevel c (k + 1))
    && startLevel c c.stageCount ≤ c.calA.h

/-- The start level of stage k under the tide condition (R47). -/
def adjustedStart (c : Settings) (closed : Bool) (k : Nat) : Nat :=
  if closed then max (startLevel c k - c.tideOffset) (stopLevel c k + 1) else startLevel c k

/-- The largest stage from 1 to `n` that satisfies `p`, or 0. -/
def largestStage (p : Nat → Bool) : Nat → Nat
  | 0 => 0
  | n + 1 => if p (n + 1) then n + 1 else largestStage p n

/-- The stage that the up step reaches from `d` on a level: the largest k above d whose start level
the level has reached, or 0 if there is none (R48). -/
def upStage (c : Settings) (closed : Bool) (d level : Nat) : Nat :=
  largestStage (fun k => decide (d < k) && decide (adjustedStart c closed k ≤ level)) c.stageCount

/-- The stage that the down step lands on: the largest j below d with E above T_j, or 0 (R48). -/
def downStage (c : Settings) (d e : Nat) : Nat :=
  largestStage (fun j => decide (stopLevel c j < e)) (d - 1)

/-- The evaluation of the own stage: up on P first, else down on E, else kept (R48). -/
def evaluateStage (c : Settings) (closed : Bool) (d e p : Nat) : Nat :=
  let up := upStage c closed d p
  if up ≠ 0 then up
  else if 0 < d ∧ e ≤ stopLevel c d then downStage c d e
  else d

/-- The own stage after a gate end at which channel A hands its state; `before` is the state it
handed at the gate end before (the table of 3.3). -/
def stageAfterGate (s : State) (before : ChannelMode) : Nat :=
  if !s.stager.usable then 0
  else match s.chanA.mode with
    | .healthy =>
      if before == .starting || before == .faulted then upStage s.cfg (tideClosed s) 0 s.chanA.e
      else evaluateStage s.cfg (tideClosed s) s.stager.d s.chanA.e s.chanA.p
    | .suspect => s.stager.d
    | .starting => 0
    | .faulted => 0
    | .absent => 0

/-- The local D_pre and D_eff from the own floats and the own stage (R56). -/
def localDPre (s : State) : Nat :=
  if isActive s .highFloat then max s.stager.d s.cfg.highFloatStage else s.stager.d
def localDEff (s : State) : Nat :=
  if isActive s .allStop || isActive s .lowFloat then 0 else localDPre s

/-- The fallback delay timer at a change of the local call (R86): it starts when the call goes on in
IDLE, and stops when the call goes off. -/
def delayAtCall (s : State) (call : Bool) : DelayTimer :=
  if !call then .stopped
  else if !s.stager.localCall && s.duty.pump == .idle then startedDelay s
  else s.duty.fallbackDelay

/-- The local values re-formed in LINE_FAULT, the call re-taken and handed to the Duty Controller,
which may stop (R56, R86). Before the loader finishes the Stager acts on no event (R44). -/
def reformLocal (s : State) : State :=
  if s.line.mode == .lineFault && loaded s then
    let eff := localDEff s
    let call : Bool := decide (ownAddress s + 1 ≤ eff)
    let s1 := setDuty s { s.duty with fallbackDelay := delayAtCall s call }
    fallbackStop (setStager s1 { s1.stager with
      prevDEff := s.stager.dEff, dEff := eff, dPre := localDPre s, localCall := call })
  else s

/-- The demand formed at a good frame end outside LINE_FAULT: D_line, D_pre, and D_eff by its first
row that applies (R52, R53). Before the loader finishes D_eff is 0 (R44). -/
def formDemand (c : Cells) (s : State) : State :=
  if s.line.mode == .lineFault then s
  else if !loaded s then setStager s { s.stager with prevDEff := s.stager.dEff, dEff := 0 }
  else
    let cells := commonOf c
    let dl := demandRead c 8
    let pre := if cells.highFloat then max dl s.cfg.highFloatStage else dl
    let eff := if cells.allStop then 0 else if cells.dry then 0 else pre
    setStager s { s.stager with dLine := dl, dPre := pre, prevDEff := s.stager.dEff, dEff := eff }

end Sys2Proof.Machine
end

