-- ==== Sys2Proof/Machine/Duties.lean ====
section
/-! DEFINITION. The Duty Controller's frame-end work (R69 to R77, R81 to R83, R85) and its start key. -/

namespace Sys2Proof.Machine

open Sys2Proof

/-! ### The duty list (R69) -/

/-- The current lead: the lowest address whose entry is fresh and shows LEAD. -/
def currentLead (s : State) : Option Nat :=
  addresses.find? fun a => freshAt s a && (peer s a).lead

/-- The duty list: the fresh entries in order from the current lead, or from address 0. -/
def dutyListOf (s : State) : List Nat :=
  (addresses.map fun i => ((currentLead s).getD 0 + i) % 8).filter (freshAt s)

/-- An entry that counts in R: RUNNING and not YIELDING. -/
def counted (e : PeerEntry) : Bool := e.running && !e.yielding

/-- The stop candidates in duty order (R75); their number is R. -/
def candidates (s : State) : List Nat := s.duty.dutyList.filter fun a => counted (peer s a)

/-- The values of R69 formed; W is empty outside JOINED (R77). -/
def formDutyList (s : State) : State :=
  let list := dutyListOf s
  let w := if s.line.mode == .joined then
      list.filter fun a => (peer s a).available && !(peer s a).running
    else []
  setDuty s { s.duty with
    dutyList := list
    lead := currentLead s
    runningCount := (list.filter fun a => counted (peer s a)).length
    waiting := w
    index := w.idxOf? (ownAddress s)
    peerYielding := list.any fun a => (peer s a).yielding }

/-! ### The unplanned stop (R71) -/

/-- An address of the previous running set has stopped. -/
def someStopped (s : State) : Bool :=
  s.duty.prevRunning.any fun a => !freshAt s a || !(peer s a).running

/-- The test of R71, and its previous values replaced by those of this frame end. -/
def testUnplanned (s : State) : State :=
  let seen := someStopped s && decide (s.duty.prevR ≤ s.duty.prevDEff)
  setDuty s { s.duty with
    unplanned := if seen then 600 else s.duty.unplanned - 1
    prevRunning := (candidates s).filter (· != ownAddress s)
    prevR := s.duty.runningCount
    prevDEff := s.stager.dEff }

/-! ### The lead (R81 to R83) -/

/-- The addresses L + 1 to L + 7, modulo 8. -/
def addressesAfter (l : Nat) : List Nat := [1, 2, 3, 4, 5, 6, 7].map fun i => (l + i) % 8

/-- The next lead: the first address after the current lead that is fresh and shows AVAILABLE. -/
def nextLead (s : State) : Option Nat :=
  match s.duty.lead with
  | none => none
  | some l => (addressesAfter l).find? fun a => freshAt s a && (peer s a).available

/-- Some entry of the duty list shows RUNNING (R81). -/
def someRunning (s : State) : Bool := s.duty.dutyList.any fun a => (peer s a).running

/-- The house is busy: D_eff is 1 or more, or some entry shows RUNNING (R81). -/
def busyNow (s : State) : Bool := decide (1 ≤ s.stager.dEff) || someRunning s

/-- The lead-unusable count (R82): the current lead's entry shows neither AVAILABLE nor RUNNING. -/
def leadUnusableAfter (s : State) : Nat :=
  match s.duty.lead with
  | none => 0
  | some l =>
    if (peer s l).available || (peer s l).running then 0 else satSucc 50 s.duty.leadUnusable

/-- The counts of R82, R83 and R74 at a good frame end, in every line state; `supplyLow` is the
SUPPLY_LOW cell. -/
def countDuty (supplyLow : Bool) (s : State) : State :=
  setDuty s { s.duty with
    leadUnusable := leadUnusableAfter s
    noLead := if s.duty.lead.isSome then 0 else satSucc 3 s.duty.noLead
    supplyQuiet := if supplyLow then 0 else satSucc 51 s.duty.supplyQuiet }

/-- A fresh entry of lower address shows LEAD (R83). -/
def lowerLead (s : State) : Bool :=
  match s.duty.lead with
  | none => false
  | some l => decide (l < ownAddress s)

/-- Holds lead after a handover: the bay takes the lead when it is the next lead, gives it up when
another is, and keeps what `held` says where there is none (R81). -/
def leadAfter (held : Bool) (s : State) : Bool :=
  match nextLead s with
  | none => held
  | some n => n == ownAddress s

/-- A handover (R81). -/
def handOver (s : State) : State :=
  setDuty s { s.duty with holdsLead := leadAfter s.duty.holdsLead s }

/-- The lead at a good frame end in JOINED, decided once: given up where two bays show it (R83), unless
a cycle end names the next lead (R81). Which of the two decides where both apply is the model's choice
(log 9). -/
def leadWork (s : State) : State :=
  let kept := s.duty.holdsLead && !lowerLead s
  setDuty s { s.duty with
    holdsLead := if s.duty.prevBusy && !busyNow s then leadAfter kept s else kept }

/-! ### Starting and stopping (R72 to R76, R85) -/

/-- The start condition (R72). -/
def startCondition (s : State) : Bool :=
  decide (s.duty.runningCount < s.stager.dEff) &&
    (match s.duty.index with
    | none => false
    | some i => decide (i < s.stager.dEff - s.duty.runningCount))

/-- The cells and counts that must be clear for a won claim to start a pump (R74). -/
def startClear (c : CommonCells) (s : State) : Bool :=
  !c.inrush && !c.supplyLow && !c.allStop && !c.dry && s.duty.supplyQuiet == 51 && !stopHold s

/-- START_WAIT: the start test and the claim result (R72, R74). -/
def startWork (won : Bool) (c : CommonCells) (s : State) : State :=
  if startCondition s && s.duty.availableAtEnd then
    if won && startClear c s then startPump s else s
  else enterIdle s

/-- RUNNING: the stop choice, or with yielding set the yielding stop (R75, R76). -/
def stopWork (s : State) : State :=
  if s.duty.yielding then
    if s.stager.dEff ≤ s.duty.runningCount ∨ s.stager.dEff = 0 then enterLockedOff s else s
  else if ((candidates s).drop s.stager.dEff).contains (ownAddress s) && minRunExpired s then
    enterLockedOff s
  else s

/-- The pump's decisions at a good frame end in JOINED (R70, items 5 to 7). -/
def pumpWork (won : Bool) (c : CommonCells) (s : State) : State :=
  match s.duty.pump with
  | .startWait => startWork won c s
  | .idle => if startCondition s && s.duty.availableAtEnd then setPump s .startWait else s
  | .running => stopWork s
  | .outOfService => s
  | .faulted => s
  | .lockedOff => s
  | .starting => s
  | .hand => s

/-- The stop of a pump in LISTEN at a good frame end with no demand (R85). -/
def listenStop (s : State) : State :=
  if s.stager.dEff = 0 ∧ minRunExpired s then stopAutomatic s else s

/-- The changeover timer at a good frame end at which W is not empty (R77). -/
def holdChangeover (s : State) : State :=
  if !s.duty.waiting.isEmpty && decide (s.duty.changeover < changeoverLimit) then
    setDuty s { s.duty with changeover := 0 }
  else s

/-- The Duty Controller's part of a good frame end (R70, R85), with whether its start claim won. -/
def dutyFrame (won : Bool) (c : CommonCells) (s : State) : State :=
  let s := countDuty c.supplyLow (testUnplanned (formDutyList s))
  let s := holdChangeover s
  let s := setDuty s { s.duty with availableAtEnd := available s }
  let busy := busyNow s
  let s := match s.line.mode with
    | .joined => pumpWork won c (leadWork s)
    | .listen => listenStop s
    | .isolated => s
    | .lineFault => s
  setDuty s { s.duty with prevBusy := busy }

/-- The start key of a pump in START_WAIT (R73). -/
def pumpKey (s : State) : Nat :=
  let place := min 7 (s.duty.index.getD 7)
  let position := if ownAddress s = 7 ∧ place = 7 then 6 else place
  (if 0 < s.duty.unplanned || s.duty.peerYielding then 0 else 64) + position * 8 + ownAddress s

end Sys2Proof.Machine
end

