-- ==== Sys2Proof/Machine/Notices.lean ====
section
/-! DEFINITION. The Notice Unit's outgoing queue (chapter 8): joining, merging, discarding, the
result of a claim, the drop; and the fate of a COMMAND entry for the Telemetry Reporter (R165). -/

namespace Sys2Proof.Machine

open Sys2Proof

/-- An unsent ALARM entry of a code: in the queue, not in flight, not spent at 8 attempts. -/
def waitingAlarm (code : Nat) (x : NoticeEntry) : Bool :=
  x.kind == .alarm && x.code == code && !x.inFlight && x.attempts < 8

/-- A new entry merges into a waiting one: an ALARM whose code waits (R135). -/
def mergeable (q : List NoticeEntry) (e : NoticeEntry) : Bool :=
  e.kind == .alarm && q.any (waitingAlarm e.code)

/-- The waiting entry takes the state, value and class of the new one and keeps its place and its
attempts (R135). -/
def mergeInto (q : List NoticeEntry) (e : NoticeEntry) : List NoticeEntry :=
  q.map fun x =>
    if waitingAlarm e.code x then { x with state := e.state, value := e.value, urgent := e.urgent }
    else x

/-- Joining (R134): urgent behind the last urgent entry, routine at the tail. -/
def joinQueue (q : List NoticeEntry) (e : NoticeEntry) : List NoticeEntry :=
  if e.urgent then q.takeWhile (·.urgent) ++ e :: q.dropWhile (·.urgent) else q ++ [e]

/-- The entry a full queue discards: the oldest routine not in flight, else the oldest urgent not in
flight (R136). -/
def discarded (q : List NoticeEntry) : Option NoticeEntry :=
  match q.find? (fun x => !x.urgent && !x.inFlight) with
  | some x => some x
  | none => q.find? (fun x => x.urgent && !x.inFlight)

/-- The queue without that entry. -/
def afterDiscard (q : List NoticeEntry) : List NoticeEntry :=
  if q.any (fun x => !x.urgent && !x.inFlight) then q.eraseP (fun x => !x.urgent && !x.inFlight)
  else q.eraseP (fun x => x.urgent && !x.inFlight)

/-- Changes of the two units the queue touches. -/
def setQueue (s : State) (q : List NoticeEntry) : State :=
  { s with notices := { s.notices with queue := q } }

/-- A loss counted (R133): the lost-notice counter, and QUEUE_LOSS's 1 s from this loss (R119). -/
def countLoss (s : State) : State :=
  { s with
    notices := { s.notices with lost := satSucc 255 s.notices.lost }
    alarms := { s.alarms with queueLoss := some 0 } }

/-- The pending command ends with an answer on the answer list (R165). Entries it handed are
passed over from now on. -/
def endCommand (k : AnswerKind) (s : State) : State :=
  match s.reporter.command with
  | none => s
  | some c =>
    { s with
      reporter := { s.reporter with
        command := none, answers := s.reporter.answers ++ [⟨k, c.type, c.seq⟩] }
      notices := { s.notices with
        queue := s.notices.queue.map fun x => { x with forContext := false } } }

/-- An entry lost by discard or drop: counted, and its fate handed to the reporter (R133, R165). -/
def loseEntry (e : NoticeEntry) (s : State) : State :=
  let s := countLoss s
  if e.forContext then endCommand (.refused 4) s else s

/-- Room for one more: a queue of 16 entries first discards one (R136). DESIGN CHOICE (log 29): a spent
entry that waits for NOTICE_DROP fills a place until then, and can itself be the one discarded. -/
def makeRoom (s : State) : State :=
  if s.notices.queue.length < 16 then s
  else match discarded s.notices.queue with
    | none => s
    | some v => loseEntry v (setQueue s (afterDiscard s.notices.queue))

/-- An entry handed to the Notice Unit: merged, or joining a queue with room (R134 to R136). -/
def handNotice (s : State) (e : NoticeEntry) : State :=
  if mergeable s.notices.queue e then setQueue s (mergeInto s.notices.queue e)
  else
    let s := makeRoom s
    setQueue s (joinQueue s.notices.queue e)

/-- A new entry: attempts 0, not in flight (R134). -/
def newEntry (kind : NoticeKind) (subject code state value : Nat) (urgent : Bool) : NoticeEntry :=
  ⟨kind, subject, code, state, value, urgent, 0, false, false⟩

/-- Entries handed together join in the order handed (R134). -/
def handAll (s : State) (es : List NoticeEntry) : State := es.foldl handNotice s

/-! ### Results (R138) -/

/-- The results of a notice claim (R13). -/
inductive NoticeResult where
  | lost | carried | notCarried
  deriving DecidableEq, Repr

/-- The entry in flight stops being in flight, with these attempts; a fresh entry of its code folds
into it (R135), unless it is spent at its eighth attempt. -/
def releaseEntry (q : List NoticeEntry) (e : NoticeEntry) (attempts : Nat) : List NoticeEntry :=
  let fresh := if e.kind == .alarm && attempts < 8 then q.find? (waitingAlarm e.code) else none
  match fresh with
  | none => q.map fun x => if x.inFlight then { x with inFlight := false, attempts := attempts } else x
  | some f =>
    (q.filter fun x => !waitingAlarm e.code x).map fun x =>
      if x.inFlight then
        { x with
          inFlight := false, attempts := attempts, state := f.state, value := f.value
          urgent := f.urgent }
      else x

/-- The pending command's COMMAND was carried (R165). -/
def commandCarried (s : State) : State :=
  { s with reporter := { s.reporter with
    command := s.reporter.command.map fun c => { c with carried := true } } }

/-- The result of the claim acts on the entry in flight (R138). -/
def noticeResult (r : NoticeResult) (s : State) : State :=
  match s.notices.queue.find? (·.inFlight) with
  | none => s
  | some e =>
    match r with
    | .lost => setQueue s (releaseEntry s.notices.queue e e.attempts)
    | .notCarried => setQueue s (releaseEntry s.notices.queue e (satSucc 8 e.attempts))
    | .carried =>
      let s := setQueue s (s.notices.queue.filter (!·.inFlight))
      if e.forContext then commandCarried s else s

/-- An entry spent: 8 attempts, to be dropped (R138). -/
def spent (x : NoticeEntry) : Bool := 8 ≤ x.attempts && !x.inFlight

/-- The drop of a spent entry (R138). -/
def dropSpent (s : State) : State :=
  match s.notices.queue.find? spent with
  | none => s
  | some e => loseEntry e (setQueue s (s.notices.queue.eraseP spent))

/-- The key of the bay's notice claim for a head entry: class 0 for urgent, 1 for routine, and 0
always at address 7 (R137). -/
def noticeKey (s : State) (e : NoticeEntry) : Nat :=
  (if e.urgent || ownAddress s == 7 then 0 else 8) + ownAddress s

/-- The head entry with which the Notice Unit contends at a frame start: JOINED, queue not empty,
holdoff clear (R137). A head that is spent waits for its drop (log 29). -/
def contendingHead (s : State) : Option NoticeEntry :=
  if s.line.mode == .joined && !s.notices.holdoff then
    match s.notices.queue with
    | e :: _ => if spent e then none else some e
    | [] => none
  else none

/-- The head becomes in flight (R135, R137). -/
def headInFlight : List NoticeEntry → List NoticeEntry
  | [] => []
  | e :: rest => { e with inFlight := true } :: rest

end Sys2Proof.Machine
end

