-- ==== Sys2Proof/Machine/Panels.lean ====
section
/-! DEFINITION. The Panel Output Unit (7.4): rises of the sources, the output map, the pins. -/

namespace Sys2Proof.Machine

open Sys2Proof

/-- An output follows its source; a rise starts its stretch timer (steady, a stretch above 0) or its
pulse timer (pulse) (R130). DESIGN CHOICE (log 49): the stretch runs from the rise, by the text of R130. The
worked panel example of chapter 7 has PANEL1, its source on for 10 s and its stretch 3 s, energised 3 s more
after the source goes off; here the stretch has passed by then, and PANEL1 goes off with its source. -/
def followSource (on : Bool) (o : OutputState) : OutputState :=
  let o' := { o with source := on }
  if on && !o.source then
    match o.entry.mode with
    | .steady => { o' with stretch := if o.entry.stretch = 0 then none else some 0 }
    | .pulse => { o' with pulse := some 0 }
    | .annunciated => o'
  else o'

/-- The pins from the outputs (R128, R132). -/
def pinsOf (s : State) (outputs : List OutputState) : BitVec 8 :=
  BitVec.ofNat 8 ((outputs.map (energised s)).foldr (fun b n => (if b then 1 else 0) + 2 * n) 0)

/-- Every output follows its source, and the pins take their energised states. Until the loader
finishes no map is in use and every output is de-energised (R128). -/
def settlePanel (s : State) : State :=
  if loaded s then
    let outputs := s.panel.outputs.map fun o => followSource (sourceOn s o.entry.source) o
    { s with panel := { s.panel with outputs := outputs, pins := pinsOf s outputs } }
  else { s with panel := { s.panel with pins := 0 } }

/-- The map taken into use; each output's first value of its source, which is no rise, is the one in
`before` (R128). -/
def takeMap (before : State) (s : State) : State :=
  { s with panel := { s.panel with
    outputs := s.cfg.outputs.map fun e => ⟨e, sourceOn before e.source, none, none⟩ } }

end Sys2Proof.Machine
end

