-- ==== Sys2Proof/Machine/Alarms.lean ====
section
/-! DEFINITION. The Alarm Table (chapter 7): a record's move at a change of its raw condition, the
acknowledgment, and what waits on a record's return to NORMAL. -/

namespace Sys2Proof.Machine

open Sys2Proof

/-- The ALARM notice of a record's state (R123). -/
def alarmEntry (s : State) (c : AlarmCode) (r : AlarmRecord) : NoticeEntry :=
  newEntry .alarm (ownAddress s) (codeNumber c) (stateNumber r.state) r.count (urgentCode c)

/-- The effective condition becomes active (R121). -/
def recordActivated (minute : Nat) (r : AlarmRecord) : AlarmRecord :=
  match r.state with
  | .normal => { r with state := .activeUnack, count := satSucc 255 r.count, firstMinute := minute }
  | .clearedUnack => { r with state := .activeUnack, count := satSucc 255 r.count }
  | .activeUnack => r
  | .activeAck => r

/-- The effective condition becomes inactive (R121). -/
def recordCleared (r : AlarmRecord) : AlarmRecord :=
  match r.state with
  | .activeUnack => { r with state := .clearedUnack }
  | .activeAck => { r with state := .normal }
  | .normal => r
  | .clearedUnack => r

/-- A record at a change of its raw condition (R120, R121). A latching record's effective condition
is its latch, set by an activation; a disabled record only keeps the raw condition (R118). -/
def recordRaw (latches : Bool) (minute : Nat) (raw : Bool) (r : AlarmRecord) : AlarmRecord :=
  let r := { r with raw := raw }
  if !r.enabled then r
  else if latches then
    if raw && !r.latched then recordActivated minute { r with latched := true } else r
  else if raw then recordActivated minute r
  else recordCleared r

/-- A record's move taken: the record kept, and one ALARM notice if its state changed (R123). -/
def takeRecord (s : State) (c : AlarmCode) (r : AlarmRecord) : State :=
  let old := recordOf s c
  let s := setRecord s c r
  if r.state = old.state then s else handNotice s (alarmEntry s c r)

/-- A code's raw condition compared with the one on record, and its change taken. Before the loader
finishes the Alarm Table does not act; the raw condition is only kept (R117). -/
def settleCode (s : State) (c : AlarmCode) : State :=
  let raw := rawCondition s c
  let old := recordOf s c
  if raw = old.raw then s
  else if loaded s then takeRecord s c (recordRaw (latching c) (minuteCount s) raw old)
  else setRecord s c { old with raw := raw }

/-- The codes but QUEUE_LOSS in the order in which the changes of one moment are taken: those that
activate before those that clear, each in order of code (the model's choice, log 28). -/
def otherCodes (s : State) : List AlarmCode :=
  allCodes.filter (fun c => c != .queueLoss && rawCondition s c)
    ++ allCodes.filter (fun c => c != .queueLoss && !rawCondition s c)

/-- The changes of these codes taken (R121), and the panel with them (R129). DESIGN CHOICE (log 28): the
panel sees the cells of a frame end and the record moves of that moment together. Where the UNACK cell
falls recessive as an own record enters ACTIVE_UNACK, source 11 stays on (R126, R130), unless an
acknowledgment is taken there before the change (R124). -/
def takeCodes (codes : List AlarmCode) (s : State) : State := settlePanel (codes.foldl settleCode s)

/-- The changes of the codes to take (R121): QUEUE_LOSS last, since a notice handed on the way may
discard an entry and so activate it (log 28). The panel follows before that too: a last alarm that has
cleared leaves its source off when QUEUE_LOSS turns it on again, which is a rise (R130). -/
def takeChanges (take : AlarmCode → Bool) (s : State) : State :=
  takeCodes ([.queueLoss].filter take) (takeCodes ((otherCodes s).filter take) s)

/-- The changes made so far in a step handed on to the alarm records and to the panel (R94, R121, R130):
by the closing work, and before it for a value that the same step changes again. -/
def handOn (s : State) : State := takeChanges (fun _ => true) s

/-! ### Acknowledgment (R122) -/

/-- The two steps of an acknowledgment on an enabled record: acknowledge, then release. -/
def recordAcknowledged (latches : Bool) (r : AlarmRecord) : AlarmRecord :=
  if !r.enabled then r
  else
    let r := match r.state with
      | .activeUnack => { r with state := .activeAck }
      | .clearedUnack => { r with state := .normal }
      | .normal => r
      | .activeAck => r
    if latches && r.latched && !r.raw then recordCleared { r with latched := false } else r

/-- One record acknowledged, with its one notice. -/
def acknowledgeCode (s : State) (c : AlarmCode) : State :=
  takeRecord s c (recordAcknowledged (latching c) (recordOf s c))

/-- The alarm that keeps the pump FAULTED has just been brought to NORMAL, the last of its cause set
(R64). DESIGN CHOICE (log 42): where no record of the set has left NORMAL, as after a THERMAL accepted and
released before the loader finishes (R117), no change brings one there, and the pump stays FAULTED until a
later trip of a code of the set has been acknowledged. -/
def faultReleased (before after : State) : Bool :=
  after.duty.pump == .faulted
    && after.duty.causes.all (fun c => (recordOf after c).state == .normal)
    && after.duty.causes.any (fun c => (recordOf before c).state != .normal)

/-- RAKE_JAM has just been brought to NORMAL while the rake is in RK_LOCKED (R101). -/
def rakeReleased (before after : State) : Bool :=
  after.screen.rake == .locked && (recordOf after .rakeJam).state == .normal
    && (recordOf before .rakeJam).state != .normal

/-- The rake leaves RK_LOCKED (R101). -/
def unlockRake (s : State) : State := { s with screen := { s.screen with rake := .idle, jams := 0 } }

/-- The blocks that wait on a record's return to NORMAL (R123). -/
def releaseWaiting (before after : State) : State :=
  let s := if faultReleased before after then leaveFaulted after else after
  if rakeReleased before after then unlockRake s else s

/-- An acknowledgment taken (R122), once the loader has finished (R117): every enabled record in
order of code, the panel with them, then the pump and the rake that wait. DESIGN CHOICE (log 51): a notice
that it hands may discard an entry and so activate QUEUE_LOSS (R133); QUEUE_LOSS's own record is still
released by the raw condition it has on record, and the activation is taken after the acknowledgment. -/
def acknowledge (s : State) : State :=
  if loaded s then releaseWaiting s (settlePanel (allCodes.foldl acknowledgeCode s)) else s

/-! ### Refresh (R127) -/

/-- Standing records in order of first-active minute, oldest first, then of code: an insertion that
keeps equal minutes in the order inserted. -/
def insertByMinute (x : AlarmCode × AlarmRecord) :
    List (AlarmCode × AlarmRecord) → List (AlarmCode × AlarmRecord)
  | [] => [x]
  | y :: rest =>
    if y.2.firstMinute ≤ x.2.firstMinute then y :: insertByMinute x rest else x :: y :: rest

/-- The enabled records not in NORMAL, in the order of R127. -/
def refreshOrder (s : State) : List (AlarmCode × AlarmRecord) :=
  ((allCodes.map fun c => (c, recordOf s c)).filter fun x =>
    x.2.enabled && x.2.state != .normal).foldl (fun acc x => insertByMinute x acc) []

/-- The refresh's ALARM entries (R144). -/
def refreshEntries (s : State) : List NoticeEntry :=
  (refreshOrder s).map fun x => alarmEntry s x.1 x.2

end Sys2Proof.Machine
end

