-- ==== Sys2Proof/Machine/Operands.lean ====
section
/-! DEFINITION. The operand forms: the configuration image as 256 bytes, its fields (R178), its
check (R170) and its clamping (R172). -/

namespace Sys2Proof.Machine

open Sys2Proof

/-- The byte at an address of the image, and the two-byte value there, high byte first (11.4). -/
def imageByte (img : List Byte) (i : Nat) : Nat := (img.getD i 0).toNat
def imageWord (img : List Byte) (i : Nat) : Nat := imageByte img i * 256 + imageByte img (i + 1)
def imageBit (img : List Byte) (i bit : Nat) : Bool := (imageByte img i).testBit bit

/-- The image is good (R170): version 1, and the CRC of bytes 0 to 253 stands in 254 and 255. -/
def imageGood (img : List Byte) : Bool :=
  img.length == 256 && imageByte img 0 == 1 && crc16 (img.take 254) == imageWord img 254

/-- A numeric field brought into its range (R172). -/
def clamp (lo hi v : Nat) : Nat := if v < lo then lo else if hi < v then hi else v

/-- The Δr of an image as clamped, on which the range of Δb rests (R172). -/
def imageDeltaR (img : List Byte) : Nat := clamp 20 1000 (imageWord img 70)

/-- The numeric fields of a channel's calibration: lower limit, upper limit, value read. -/
def calibrationFields (img : List Byte) (base : Nat) : List (Nat × Nat × Nat) :=
  [(1000, 30000, imageWord img base), (1500, 30000, imageWord img (base + 2)),
   (500, 15000, imageWord img (base + 4)), (0, 4, imageByte img (base + 6))]

/-- The numeric fields of the overflow group with their ranges: the crest, T_od, T_ot, the spill table
(10.6, R178). -/
def overflowFields (img : List Byte) : List (Nat × Nat × Nat) :=
  [(0, 15000, imageWord img 82), (5, 120, imageByte img 84), (1, 60, imageByte img 85)]
  ++ (List.range 9).map (fun k => (0, 2000, imageWord img (86 + 2 * k)))
  ++ (List.range 9).map (fun k => (0, 65535, imageWord img (104 + 2 * k)))

/-- The numeric fields of every other group with their ranges (10.6, R178). -/
def otherFields (img : List Byte) : List (Nat × Nat × Nat) :=
  [(1, 250, imageByte img 1), (0, 3, imageByte img 2), (0, 50, imageByte img 3),
   (2, 30, imageByte img 4), (0, 5, imageByte img 5), (1, 25, imageByte img 7)]
  ++ calibrationFields img 8 ++ calibrationFields img 16
  ++ [(0, 15, imageByte img 23), (1, 8, imageByte img 24), (1, 8, imageByte img 25),
      (0, 1000, imageWord img 26)]
  ++ (List.range 8).map (fun k => (0, 15000, imageWord img (28 + 2 * k)))
  ++ (List.range 8).map (fun k => (0, 15000, imageWord img (44 + 2 * k)))
  ++ [(1, 30, imageByte img 60), (1, 60, imageByte img 61), (0, 600, imageWord img 62),
      (0, 600, imageWord img 64), (0, 720, imageWord img 66), (0, 12, imageByte img 68),
      (0, 2, imageByte img 69), (20, 1000, imageWord img 70),
      (imageDeltaR img + 10, 2000, imageWord img 72), (5, 300, imageWord img 74),
      (0, 240, imageByte img 76), (0, 60, imageByte img 77), (0, 2047, imageWord img 78),
      (10, 600, imageWord img 80)]
  ++ (List.range 8).map (fun n => (0, 27, imageByte img (125 + 2 * n)))
  ++ (List.range 8).map (fun n => (0, 2, imageByte img (126 + 2 * n) / 16 % 4))

/-- Some field of these stood outside its range and was replaced (R172). -/
def someClamped (fields : List (Nat × Nat × Nat)) : Bool :=
  fields.any fun f => f.2.2 < f.1 || f.2.1 < f.2.2

/-- Some numeric field of the image stood outside its range and was replaced (R172). -/
def imageClamped (img : List Byte) : Bool :=
  someClamped (otherFields img) || someClamped (overflowFields img)

/-- Replacements stood in the overflow group alone (R104, R172). -/
def overflowClamped (img : List Byte) : Bool :=
  !someClamped (otherFields img) && someClamped (overflowFields img)

/-- A channel's calibration as clamped. -/
def calibrationOf (img : List Byte) (base : Nat) : Calibration where
  z := clamp 1000 30000 (imageWord img base)
  f := clamp 1500 30000 (imageWord img (base + 2))
  h := clamp 500 15000 (imageWord img (base + 4))
  k := clamp 0 4 (imageByte img (base + 6))

/-- An output's mode from its code; a code of 3 clamps to 2 (11.4). -/
def outputModeOf (code : Nat) : OutputMode :=
  match code with
  | 0 => .steady
  | 1 => .annunciated
  | _ => .pulse

/-- PANELn's entry of the output map (11.4). -/
def outputEntryOf (img : List Byte) (n : Nat) : OutputEntry where
  source := clamp 0 27 (imageByte img (125 + 2 * n))
  invert := imageBit img (126 + 2 * n) 6
  mode := outputModeOf (imageByte img (126 + 2 * n) / 16 % 4)
  stretch := imageByte img (126 + 2 * n) % 16

/-- The settings of an image, each field from its bytes (R178) and clamped (R172). -/
def settingsOf (img : List Byte) : Settings where
  house := clamp 1 250 (imageByte img 1)
  baudCode := clamp 0 3 (imageByte img 2)
  keyUp := clamp 0 50 (imageByte img 3)
  ta := clamp 2 30 (imageByte img 4)
  retryLimit := clamp 0 5 (imageByte img 5)
  routineDefault := imageBit img 6 0
  calA := calibrationOf img 8
  calB := calibrationOf img 16
  q := clamp 0 15 (imageByte img 23)
  stageCount := clamp 1 8 (imageByte img 24)
  startLevels := (List.range 8).map fun k => clamp 0 15000 (imageWord img (28 + 2 * k))
  stopLevels := (List.range 8).map fun k => clamp 0 15000 (imageWord img (44 + 2 * k))
  tideOffset := clamp 0 1000 (imageWord img 26)
  highFloatStage := clamp 1 8 (imageByte img 25)
  tConfirm := clamp 1 30 (imageByte img 60)
  tInrush := clamp 1 60 (imageByte img 61)
  tMinRun := clamp 0 600 (imageWord img 62)
  tMinOff := clamp 0 600 (imageWord img 64)
  tMaxRun := clamp 0 720 (imageWord img 66)
  startsPerHour := clamp 0 12 (imageByte img 68)
  moisturePolicy := clamp 0 2 (imageByte img 69)
  screenSwitchFitted := imageBit img 6 1
  deltaR := imageDeltaR img
  deltaB := clamp (imageDeltaR img + 10) 2000 (imageWord img 72)
  dwell := clamp 5 300 (imageWord img 74)
  rakeInterval := clamp 0 240 (imageByte img 76)
  flushInterval := clamp 0 60 (imageByte img 77)
  flushThreshold := clamp 0 2047 (imageWord img 78)
  tRake := clamp 10 600 (imageWord img 80)
  weirFloatFitted := imageBit img 6 2
  crest := clamp 0 15000 (imageWord img 82)
  tOd := clamp 5 120 (imageByte img 84)
  tOt := clamp 1 60 (imageByte img 85)
  spillHeads := (List.range 9).map fun k => clamp 0 2000 (imageWord img (86 + 2 * k))
  spillRates := (List.range 9).map fun k => clamp 0 65535 (imageWord img (104 + 2 * k))
  enableMask := (List.range 23).map fun n => imageBit img (122 + n / 8) (n % 8)
  debounce := clamp 1 25 (imageByte img 7)
  outputs := (List.range 8).map (outputEntryOf img)

/-- The telemetry port's speed from its code, in bit per second (R172). -/
def baudOf (code : Nat) : Nat :=
  match code with
  | 0 => 1200
  | 1 => 2400
  | 2 => 4800
  | _ => 9600

end Sys2Proof.Machine
end

