-- ==== Sys2Proof/Machine/Reporters.lean ====
section
/-! DEFINITION. The Telemetry Reporter's operations (chapter 9): the role, records and history,
report queues, town messages, the port. -/

namespace Sys2Proof.Machine

open Sys2Proof

def setReporter (s : State) (r : Reporter) : State := { s with reporter := r }

/-! ### Records and the history ring (R153 to R155) -/

/-- A record appended to the history ring (R155). -/
def appendHistory (r : ReportRecord) (s : State) : State :=
  let h := if 64 ≤ s.reporter.history.length then s.reporter.history.drop 1 else s.reporter.history
  setReporter s { s.reporter with
    history := h ++ [r], nextNumber := (s.reporter.nextNumber + 1) % 65536 }

/-- An unsent ALARM record of a station and code (R156). -/
def waitingRecord (r : ReportRecord) (x : QueuedRecord) : Bool :=
  r.kind == .alarm && x.record.kind == .alarm && x.record.station == r.station
    && x.record.code == r.code && !x.inFlight

/-- A record joining a report queue that holds up to `cap` (R156): the queue after, and whether a
record was discarded. -/
def joinReports (cap : Nat) (q : List QueuedRecord) (r : ReportRecord) : List QueuedRecord × Bool :=
  if q.any (waitingRecord r) then
    (q.map fun x =>
      if waitingRecord r x then
        { x with record := { x.record with state := r.state, value1 := r.value1, stamp := r.stamp } }
      else x, false)
  else if q.length < cap then (q ++ [⟨r, false⟩], false)
  else (q.eraseP (!·.inFlight) ++ [⟨r, false⟩], true)

/-- A discarded record counted (R156). -/
def countLostReport (r : Reporter) : Reporter :=
  { r with lostReports := satSucc 255 r.lostReports, lossPending := true }

/-- A record joins the queue of its class on the ACTIVE reporter (R154, R156). -/
def enqueueReport (urgent : Bool) (r : ReportRecord) (s : State) : State :=
  if s.reporter.mode = .active then
    let (q, lost) :=
      if urgent then joinReports 16 s.reporter.urgentQueue r
      else joinReports 32 s.reporter.routineQueue r
    let rep := if urgent then { s.reporter with urgentQueue := q }
      else { s.reporter with routineQueue := q }
    setReporter s (if lost then countLostReport rep else rep)
  else s

/-- A record stamped at the moment it is built (R154). -/
def stampRecord (s : State) (r : ReportRecord) : ReportRecord :=
  { r with stamp := s.reporter.clock.map fun c => (c.day, c.minute) }

/-- A record built: stamped, appended to the history ring, and queued on the ACTIVE reporter. -/
def buildRecord (urgent : Bool) (r : ReportRecord) (s : State) : State :=
  let r := stampRecord s r
  enqueueReport urgent r (appendHistory r s)

/-- The alarm view of a station with a code joined or left (R153). -/
def viewAfter (codes : List Nat) (code state : Nat) : List Nat :=
  if state = 1 ∨ state = 3 then (if codes.contains code then codes else codes ++ [code])
  else codes.filter (· != code)

/-- The waiting OVERFLOW_END of a subject. -/
def waitingEndOf (s : State) (a : Nat) : Option WaitingEnd := s.reporter.pairing.getD a none

def setPairing (a : Nat) (w : Option WaitingEnd) (s : State) : State :=
  setReporter s { s.reporter with pairing := s.reporter.pairing.set a w }

/-- The OVERFLOW_EVENT of a waiting end, with its duration or, timed out, without (R153). -/
def buildOverflowEvent (a : Nat) (w : WaitingEnd) (code : Nat) (duration : Option Nat) (s : State) :
    State :=
  buildRecord true ⟨.overflowEvent, a, code, w.flags, w.volume, duration, none⟩ (setPairing a none s)

/-- The reporter's part of a valid notice: its record, the pairing, the alarm view (R153). -/
def recordNotice (n : Received) (s : State) : State :=
  match n.kind with
  | .alarm =>
    let s := buildRecord (urgentNumber n.code) ⟨.alarm, n.subject, n.code, n.state, n.value, none, none⟩ s
    setReporter s { s.reporter with
      alarmView := s.reporter.alarmView.modify n.subject fun v => viewAfter v n.code n.state }
  | .overflowStart => buildRecord true ⟨.overflowStart, n.subject, 0, 0, n.value, none, none⟩ s
  | .overflowEnd =>
    let s := match waitingEndOf s n.subject with
      | some w => buildOverflowEvent n.subject w 0 none s
      | none => s
    setPairing n.subject (some ⟨n.state, n.value, 0⟩) s
  | .overflowTime =>
    match waitingEndOf s n.subject with
    | some w => if w.count < 20 then buildOverflowEvent n.subject w n.code (some n.value) s else s
    | none => s
  | .summary => buildRecord false ⟨.summary, n.subject, n.code, 0, n.value, none, none⟩ s
  | .command => s
  | .commandResult =>
    match s.reporter.command with
    | some c =>
      if c.carried ∧ c.count < 20 ∧ n.subject = c.target ∧ n.code = c.code then
        endCommand (if n.state = 0 then .done else .refused 4) s
      else s
    | none => s

/-- Every waiting OVERFLOW_END counts the frame end (R153). -/
def countPairing (s : State) : State :=
  setReporter s { s.reporter with
    pairing := s.reporter.pairing.map (Option.map fun w => { w with count := satSucc 20 w.count }) }

/-- The pending command counts a good frame end after its carriage (R165). -/
def countCommand (s : State) : State :=
  setReporter s { s.reporter with
    command := s.reporter.command.map fun c =>
      if c.carried then { c with count := satSucc 20 c.count } else c }

/-! ### The role (R145 to R148) -/

/-- The reporter receives notices (R141, R145). -/
def takesNotices (r : Reporter) : Bool := r.mode != .none

/-- Entry to STANDBY from ACTIVE or CLAIMING: the queues, the flight, the answers and the contexts
end, the port stops, TEL_KEY drops (R147). -/
def departReporter (s : State) : State :=
  setQueue
    (setReporter s { s.reporter with
      mode := .standby, holdQuiet := 0, openField := 0, urgentQueue := [], routineQueue := []
      flight := none, answers := [], dump := none, command := none, port := .idle, message := []
      isReport := false, sinceChar := none })
    (s.notices.queue.map fun x => { x with forContext := false })

/-- Entry to ACTIVE (R148). -/
def enterActive (s : State) : State :=
  let s := setReporter s { s.reporter with
    mode := .active, urgentQueue := [], routineQueue := [], flight := none, answers := []
    clock := none, linkUp := true, downSince := false, urgentEnable := true
    routineEnable := s.cfg.routineDefault, dump := none, command := none, nextSeq := 0
    lossPending := false, port := .idle, message := [], isReport := false, sinceChar := none }
  buildRecord true
    ⟨.reporterChanged, ownAddress s, 0, 0, s.notices.lastHolder.getD 15, none, none⟩ s

/-- The reporter claim's key: holder 0, claimant 1 (R146, R147). -/
def reportKeyOf (s : State) : Option Nat :=
  match s.reporter.mode with
  | .active => some (ownAddress s)
  | .claiming => some (8 + ownAddress s)
  | .standby => none
  | .none => none

/-- The reporter's counts in STANDBY at a good frame end (R146). -/
def countField (own field : Nat) (r : Reporter) : Reporter :=
  if own = 7 then { r with openField := if field = 15 then satSucc 6 r.openField else 0 }
  else { r with holdQuiet := if 8 ≤ field then satSucc 3 r.holdQuiet else 0 }

/-- The claim result at a good frame end at which the station is JOINED (R146, R147). -/
def reporterFrame (field : Nat) (key : Option Nat) (s : State) : State :=
  match s.reporter.mode with
  | .none => s
  | .standby => setReporter s (countField (ownAddress s) field s.reporter)
  | .claiming =>
    match key with
    | none => s
    | some k =>
      if field = k then enterActive s
      else setReporter s { s.reporter with mode := .standby, holdQuiet := 0, openField := 0 }
  | .active =>
    match key with
    | none => s
    | some k => if field = k then s else departReporter s

/-- Leaving JOINED (R146, R147). -/
def reporterLeaves (s : State) : State :=
  match s.reporter.mode with
  | .active => departReporter s
  | .claiming => departReporter s
  | .standby => setReporter s { s.reporter with holdQuiet := 0, openField := 0 }
  | .none => s

/-! ### Town messages (R150, R151, R158) -/

/-- The receiver takes characters: ACTIVE, and TEL_KEY not raised (R149). -/
def listening (s : State) : Bool := s.reporter.mode == .active && s.reporter.port == .idle

/-- A valid message's own effect: the link is UP, and a record in flight on a link that was DOWN is
due again, unless the message is a POLL (R158); a character has just been received. DESIGN CHOICE
(log 44): a POLL that is dropped for a full answer list or refused for its length makes no resend due
either, though its answer will not be that resend. -/
def validTaken (isPoll : Bool) (s : State) : State :=
  let r := s.reporter
  setReporter s { r with
    linkUp := true
    flight :=
      if r.linkUp || isPoll then r.flight
      else r.flight.map fun f => { f with resendDue := true, retries := 0 }
    sinceChar := some 0 }

/-- Room on the answer list, one place being kept for a pending command (R151). -/
def answerRoom (s : State) : Bool :=
  s.reporter.answers.length < (if s.reporter.command.isSome then 3 else 4)

/-- An answer owed, at the tail of the list (R151). -/
def owe (k : AnswerKind) (m : TownMessage) (s : State) : State :=
  setReporter s { s.reporter with answers := s.reporter.answers ++ [⟨k, m.type, m.seq⟩] }

/-- A message other than an ACK taken by R151: dropped when the list has no room, refused for its
length or its values, else acted on. -/
def answering (m : TownMessage) (len : Nat) (inRange : Bool) (act : State → State) (s : State) :
    State :=
  if !answerRoom s then s
  else if m.len ≠ len then owe (.refused 2) m s
  else if !inRange then owe (.refused 6) m s
  else act s

/-- A message discarded (R150). -/
def countBadMessage (since : Timer) (s : State) : State :=
  setReporter s { s.reporter with
    badMessages := satSucc 255 s.reporter.badMessages, sinceChar := since }

/-- The in-flight record leaves its queue and its flight ends; a dump suspended for it resumes
(R158, R164). -/
def endFlight (s : State) : State :=
  let r := s.reporter
  setReporter s { r with
    flight := none
    urgentQueue := r.urgentQueue.filter (!·.inFlight)
    routineQueue := r.routineQueue.filter (!·.inFlight)
    dump := r.dump.map fun d => { d with suspended := false } }

/-- An ACK taken (R158): the matching record is removed, loss pending clears if its REPORT carried
it; the alarm flag asserts ACK for the next frame start, whatever the sequence. -/
def takeAck (m : TownMessage) (s : State) : State :=
  if m.len ≠ 4 then s
  else
    let s := match s.reporter.flight with
      | some f =>
        if f.seq = m.seq then
          let s := endFlight s
          if f.lossSent then setReporter s { s.reporter with lossPending := false } else s
        else s
      | none => s
    if bodyByte m 0 ≠ 0 then { s with alarms := { s.alarms with ackTown := true } } else s

/-! ### History numbers and the dump (R155, R162) -/

/-- The distance of a history number from the newest (R155). -/
def numberDistance (r : Reporter) (x : Nat) : Nat := (r.nextNumber + 65535 + 65536 - x) % 65536

/-- The oldest held number; with the ring empty, the number one past the newest (R155, R162). -/
def oldestNumber (r : Reporter) : Nat := (r.nextNumber + 65536 - r.history.length) % 65536

/-- Held, older than the ring, newer than the ring (R155). -/
def numberHeld (r : Reporter) (x : Nat) : Bool := numberDistance r x < r.history.length
def numberNewer (r : Reporter) (x : Nat) : Bool := !numberHeld r x && 32768 ≤ numberDistance r x
def numberOlder (r : Reporter) (x : Nat) : Bool := !numberHeld r x && numberDistance r x < 32768

/-- The record of a held number. -/
def recordNumbered (r : Reporter) (x : Nat) : Option ReportRecord :=
  r.history[r.history.length - 1 - numberDistance r x]?

/-- A DUMP acted on (R162). DESIGN CHOICE (log 39): a dump that replaces a suspended one, while the
report it was suspended for is in flight, is not suspended itself. -/
def startDump (m : TownMessage) (s : State) : State :=
  let first := bodyWord m 0
  let n := bodyByte m 2 + 1
  let r := s.reporter
  if numberNewer r first then owe (.refused 5) m (setReporter s { r with dump := none })
  else
    let older := numberOlder r first
    setReporter s { r with
      dump := some ⟨if older then oldestNumber r else first, n, older, 0, m.seq, false, n⟩ }

/-- An INHIBIT or RELEASE acted on (R165). DEDUCED (log 50): on a link that was DOWN the COMMAND entry is
handed before the ALARM notice of TELEMETRY_DOWN, which clears at the same message (R158). -/
def relayCommand (code : Nat) (m : TownMessage) (s : State) : State :=
  let target := bodyByte m 0
  if !freshAt s target then owe (.refused 3) m s
  else if s.reporter.command.isSome then owe (.refused 7) m s
  else
    let s := setReporter s { s.reporter with
      command := some ⟨target, code, m.type, m.seq, false, 0⟩ }
    handNotice s { newEntry .command target code 0 0 true with forContext := true }

/-! ### The port (R149, R152, R157 to R164) -/

/-- The port is free (R149). -/
def portFree (r : Reporter) : Bool := r.port == .idle && r.sinceChar.isNone

/-- An urgent report is sendable during a dump (R164). -/
def urgentSendable (r : Reporter) : Bool :=
  !r.urgentQueue.isEmpty && r.urgentEnable && r.linkUp && r.flight.isNone

/-- The uses that wait for the port (R152). -/
inductive PortUse where
  | answer (a : Answer) | resend | suspendingReport | dump (d : DumpContext) | report (urgent : Bool)
  deriving DecidableEq, Repr

/-- The first use that is ready, in the order of R152. -/
def portUse (r : Reporter) : Option PortUse :=
  match r.answers with
  | a :: _ => some (.answer a)
  | [] =>
    if r.flight.any (·.resendDue) then some .resend
    else match r.dump with
      | some d =>
        if d.suspended then none
        else if urgentSendable r then some .suspendingReport
        else some (.dump d)
      | none =>
        if r.linkUp && r.flight.isNone then
          if r.urgentEnable && !r.urgentQueue.isEmpty then some (.report true)
          else if r.routineEnable && !r.routineQueue.isEmpty then some (.report false)
          else none
        else none

/-- A message given to the port: TEL_KEY is raised (R149). -/
def sendMessage (msg : List Byte) (isReport : Bool) (s : State) : State :=
  setReporter s { s.reporter with port := .keyUp 0, message := msg, isReport := isReport }

/-- A house message of this house (R176). -/
def formMessage (s : State) (type seqFlags : Nat) (body : List Byte) : List Byte :=
  houseMessage s.cfg.house type seqFlags body

/-- A REPORT's message: its sequence, the present flags, loss while pending (R157, R176). -/
def reportMessage (s : State) (seq : Nat) (r : ReportRecord) : List Byte :=
  formMessage s 0x81 (seq + recordFlags r + (if s.reporter.lossPending then 64 else 0)) (recordBytes r)

/-- The oldest record of a queue marked in flight. -/
def markFirst : List QueuedRecord → List QueuedRecord
  | [] => []
  | x :: rest => { x with inFlight := true } :: rest

/-- The first sending of the oldest record of a queue: it becomes the in-flight record (R157). -/
def sendFirst (urgent : Bool) (s : State) : State :=
  let r := s.reporter
  match (if urgent then r.urgentQueue else r.routineQueue) with
  | [] => s
  | x :: _ =>
    let flight : Flight := ⟨urgent, r.nextSeq, 0, none, false, r.lossPending⟩
    let msg := reportMessage s r.nextSeq x.record
    sendMessage msg true (setReporter s { r with
      flight := some flight
      nextSeq := (r.nextSeq + 1) % 16
      urgentQueue := if urgent then markFirst r.urgentQueue else r.urgentQueue
      routineQueue := if urgent then r.routineQueue else markFirst r.routineQueue })

/-- The record in flight, in its queue. -/
def flightRecord (r : Reporter) (f : Flight) : Option QueuedRecord :=
  (if f.urgent then r.urgentQueue else r.routineQueue).find? (·.inFlight)

/-- The in-flight record sent again, as it then stands (R158); `retries` are those used after. DESIGN
CHOICE (log 52): a resend that was due already when a POLL's answer sends the record again (R159) counts as
made with that sending, and is due no more. -/
def resendFlight (f : Flight) (retries : Nat) (s : State) : State :=
  match flightRecord s.reporter f with
  | none => s
  | some x =>
    sendMessage (reportMessage s f.seq x.record) true (setReporter s { s.reporter with
      flight := some { f with
        retries := retries, ta := none, resendDue := false
        lossSent := f.lossSent || s.reporter.lossPending } })

/-- A flag as a bit of a byte. -/
def bitValue (b : Bool) (v : Nat) : Nat := if b then v else 0

/-- A station byte of STATUS (R161). -/
def stationByte (s : State) (a : Nat) : Nat :=
  let e := peer s a
  bitValue (freshAt s a) 1 + bitValue e.lead 2 + bitValue e.available 4 + bitValue e.running 8
    + bitValue e.starting 16 + bitValue e.blocked 32 + bitValue e.yielding 64
    + bitValue (!(s.reporter.alarmView.getD a []).isEmpty) 128

/-- The flags of STATUS (11.2). -/
def statusFlags (r : Reporter) : Nat :=
  bitValue r.clock.isNone 1 + bitValue r.urgentEnable 2 + bitValue r.routineEnable 4
    + bitValue r.downSince 8

/-- The STATUS body (R161, 11.2); its line state is 1, JOINED. -/
def statusBody (s : State) : List Byte :=
  byte1 (ownAddress s) ++ byte1 1 ++ byte1 s.stager.dEff
    ++ (addresses.map fun a => BitVec.ofNat 8 (stationByte s a))
    ++ byte2 (if offersLevel s.chanA then s.chanA.e else 65535)
    ++ byte1 (statusFlags s.reporter) ++ byte1 s.reporter.badMessages ++ byte1 s.reporter.lostReports

/-- STATUS sent: down-since-status and both counters are taken into it and set to 0 (R161). -/
def sendStatus (seq : Nat) (s : State) : State :=
  sendMessage (formMessage s 0x82 seq (statusBody s)) false (setReporter s { s.reporter with
    downSince := false, badMessages := 0, lostReports := 0 })

/-- A POLL answered (R159): the record in flight again, else the oldest record, else STATUS. -/
def answerPoll (a : Answer) (s : State) : State :=
  match s.reporter.flight with
  | some f => resendFlight f 0 s
  | none =>
    if !s.reporter.urgentQueue.isEmpty then sendFirst true s
    else if !s.reporter.routineQueue.isEmpty then sendFirst false s
    else sendStatus a.seq s

/-- An owed answer formed and sent; it leaves the list (R152). -/
def sendAnswer (a : Answer) (s : State) : State :=
  let s := setReporter s { s.reporter with answers := s.reporter.answers.drop 1 }
  match a.kind with
  | .poll => answerPoll a s
  | .done => sendMessage (formMessage s 0x85 a.seq (byte1 a.type)) false s
  | .refused reason => sendMessage (formMessage s 0x86 a.seq (byte1 a.type ++ byte1 reason)) false s

/-- The next message of a dump (R163): a jump forward on a gap, DUMP_END, or DUMP_RECORD. -/
def sendDump (d : DumpContext) (s : State) : State :=
  let r := s.reporter
  let older := numberOlder r d.next
  let next := if older then oldestNumber r else d.next
  let gap := d.gap || older
  let finish := sendMessage (formMessage s 0x84 d.seq (byte1 (bitValue gap 1) ++ byte1 d.sent)) false
    (setReporter s { r with dump := none })
  if d.remaining = 0 ∨ numberNewer r next then finish
  else match recordNumbered r next with
    | none => finish
    | some rec =>
      sendMessage (formMessage s 0x83 (d.seq + recordFlags rec) (byte2 next ++ recordBytes rec)) false
        (setReporter s { r with
          dump := some { d with
            next := (next + 1) % 65536, remaining := d.remaining - 1, sent := d.sent + 1, gap := gap } })

/-- The port given to a use (R152). -/
def givePort (u : PortUse) (s : State) : State :=
  match u with
  | .answer a => sendAnswer a s
  | .resend =>
    match s.reporter.flight with
    | some f => resendFlight f f.retries s
    | none => s
  | .suspendingReport =>
    sendFirst true (setReporter s { s.reporter with
      dump := s.reporter.dump.map fun d => { d with suspended := true } })
  | .dump d => sendDump d s
  | .report urgent => sendFirst urgent s

/-- The last stop bit has been sent (R149, R158): TEL_KEY drops, and a REPORT's T_a timer starts. -/
def endTransmit (s : State) : State :=
  let r := s.reporter
  setReporter s { r with
    port := .idle, message := [], isReport := false
    flight := if r.isReport then r.flight.map fun f => { f with ta := some 0 } else r.flight }

/-- T_a has expired (R158): a resend, or at the limit the link goes DOWN, which ends a suspension. -/
def expireTa (f : Flight) (s : State) : State :=
  let r := s.reporter
  if f.retries < s.cfg.retryLimit then
    setReporter s { r with
      flight := some { f with retries := f.retries + 1, resendDue := true, ta := none } }
  else
    setReporter s { r with
      linkUp := false, downSince := true, flight := some { f with ta := none }
      dump := r.dump.map fun d => { d with suspended := false } }

end Sys2Proof.Machine
end

