-- ==== Sys2Proof/Machine/Screens.lean ====
section
/-! DEFINITION. The Screen Controller's operations (chapter 5): sensing, condition, requests, rake. -/

namespace Sys2Proof.Machine

open Sys2Proof

def setScreen (s : State) (c : Screen) : State := { s with screen := c }

/-- A dwell in ticks, and twice the dwell in gate ends (R91). -/
def dwellTicks (s : State) : Nat := secondsTicks s.cfg.dwell
def dwellGates (s : State) : Nat := 2 * s.cfg.dwell

/-- The screen condition changes (R94): the high-alarm timer starts at each entry to HIGH and stops,
with SCREEN_HIGH, on leaving it; at the change to BLOCKED a pump in STARTING or RUNNING stops at
once (R80). -/
def setCondition (c : ScreenCondition) (s : State) : State :=
  if s.screen.condition = c then s
  else
    let s := setScreen s { s.screen with
      condition := c, highAlarm := if c = .high then some 0 else none, screenHigh := false }
    if c = .blocked then stopAutomatic s else s

/-- The sensing mode that the channels and the setting give (R89). -/
def sensingOf (s : State) : SensingMode :=
  if offersLevel s.chanA && offersLevel s.chanB then .diff
  else if s.cfg.screenSwitchFitted then .switch
  else .none

/-- SCREEN_SW as found at a mode change to SWITCH, and as accepted there (the first two rows of R92):
active stops the switch-clear timer and makes UNKNOWN or CLEAR HIGH; inactive starts the switch-clear
timer and stops the post-rake timer. -/
def findSwitch (s : State) : State :=
  if isActive s .screenSw then
    let s := setScreen s { s.screen with switchClear := none }
    if s.screen.condition = .unknown ∨ s.screen.condition = .clear then setCondition .high s
    else s
  else setScreen s { s.screen with switchClear := some 0, postRake := none }

/-- An accepted change of SCREEN_SW in SWITCH (R92): accepted active while the rake is in RK_LOCKED it
makes any condition BLOCKED (the last row); otherwise as found. -/
def takeSwitch (s : State) : State :=
  if isActive s .screenSw ∧ s.screen.rake = .locked then
    setCondition .blocked (setScreen s { s.screen with switchClear := none })
  else findSwitch s

/-- The condition decided in DIFF, by the first row that applies (R91). -/
def diffCondition (s : State) : ScreenCondition :=
  let g := s.screen
  if g.rake = .locked ∧ s.cfg.deltaR ≤ g.delta then .blocked
  else if dwellGates s ≤ g.belowRake then .clear
  else match g.condition with
    | .unknown => if s.cfg.deltaR ≤ g.delta then .high else .unknown
    | .clear => if s.cfg.deltaR ≤ g.delta then .high else .clear
    | .high => if dwellGates s ≤ g.aboveBlocked then .blocked else .high
    | .blocked => if dwellGates s ≤ g.belowBlocked ∧ g.rake ≠ .locked then .high else .blocked

/-- A gate end in DIFF: Δ formed (R90), the three runs brought up to date, the condition decided. -/
def diffGate (s : State) : State :=
  let delta := s.chanB.e - s.chanA.e
  let g := s.screen
  let s := setScreen s { g with
    delta := delta
    aboveBlocked := if s.cfg.deltaB ≤ delta then g.aboveBlocked + 1 else 0
    belowRake := if delta < s.cfg.deltaR then g.belowRake + 1 else 0
    belowBlocked := if delta < s.cfg.deltaB then g.belowBlocked + 1 else 0 }
  setCondition (diffCondition s) s

/-- The first part of a mode change (R89): the condition becomes UNKNOWN, the runs go to 0, the timers
stop. -/
def leaveSensing (s : State) : State :=
  let s := setCondition .unknown s
  setScreen s { s.screen with
    aboveBlocked := 0, belowRake := 0, belowBlocked := 0
    switchClear := none, postRake := none, highAlarm := none, screenHigh := false }

/-- The second part of a mode change (R89): the new mode, and in SWITCH the accepted value of SCREEN_SW
taken at once. -/
def enterSensing (m : SensingMode) (s : State) : State :=
  let s := setScreen s { s.screen with sensing := some m }
  if m = .switch then findSwitch s else s

/-- The sensing mode chosen again at a gate end (R89). Its change to UNKNOWN is handed on like any other
(R94) before the new mode judges the screen. -/
def chooseSensing (s : State) : State :=
  let m := sensingOf s
  if s.screen.sensing = some m then s else enterSensing m (handOn (leaveSensing s))

/-- In flush (R95). -/
def inFlush (s : State) : Bool :=
  (0 < s.cfg.flushThreshold && offersLevel s.chanA
      && decide ((s.cfg.flushThreshold : Int) ≤ s.chanA.rate))
    || cellUsed s s.line.common.overflow

/-- The interval in use, in ticks; none: the timer cannot expire (R96). -/
def intervalInUse (s : State) : Option Nat :=
  if s.screen.flush && 0 < s.cfg.flushInterval then some (minutesTicks s.cfg.flushInterval)
  else if 0 < s.cfg.rakeInterval then some (minutesTicks s.cfg.rakeInterval)
  else none

/-- The interval timer has reached the interval in use and is not yet due (R96). -/
def intervalReached (s : State) : Bool :=
  match intervalInUse s with
  | some limit => !s.screen.intervalDue && decide (limit ≤ s.screen.interval)
  | none => false

/-- The interval timer's expiry, where its interval has passed (R96). -/
def expireInterval (s : State) : State :=
  if intervalReached s then setScreen s { s.screen with intervalDue := true } else s

/-- The flush state re-taken (R95); a shorter interval already passed expires at once (R96). -/
def retakeFlush (s : State) : State := expireInterval (setScreen s { s.screen with flush := inFlush s })

/-- The Screen Controller's work at a gate end (R89 to R91, R95). -/
def screenGate (s : State) : State :=
  let s := if s.chanA.changed || s.chanB.changed then chooseSensing s else s
  let s := if s.screen.sensing = some .diff then diffGate s else s
  retakeFlush s

/-- A rake request stands (R97). -/
def rakeRequested (s : State) : Bool :=
  s.screen.condition == .high || s.screen.condition == .blocked || s.screen.intervalDue

/-- A rake in RK_IDLE with a request standing enters RK_WAIT while the rake stop is not in force and
the loader has finished (R88, R97). -/
def serveRequest (s : State) : State :=
  if s.screen.rake == .idle && rakeRequested s && !rakeStop s && loaded s then
    setScreen s { s.screen with rake := .wait }
  else s

/-- The motor off and the run's timers stopped. -/
def motorOff (g : Screen) : Screen := { g with motor := false, rakeRun := none, rakeInrush := none }

/-- The rake stop applied (R102): RK_RUN, RK_WAIT and RK_PAUSE go to RK_IDLE; no cycle is counted
and the jam count is kept. -/
def applyRakeStop (s : State) : State :=
  if rakeStop s then
    match s.screen.rake with
    | .run => setScreen s { motorOff s.screen with rake := .idle }
    | .wait => setScreen s { s.screen with rake := .idle }
    | .pause => setScreen s { s.screen with rake := .idle, pause := none }
    | .idle => s
    | .locked => s
  else s

/-- Entry to RK_RUN (R99). -/
def startRake (s : State) : State :=
  setScreen s { s.screen with rake := .run, motor := true, rakeRun := some 0, rakeInrush := some 0 }

/-- A completed cycle (R99), with the post-rake timer of R92. -/
def completeCycle (s : State) : State :=
  let g := motorOff s.screen
  setScreen s { g with
    rake := .idle, cycles := satSucc 65535 g.cycles, interval := 0, intervalDue := false, jams := 0
    postRake :=
      if g.sensing = some .switch ∧ isActive s .screenSw ∧ g.postRake = none then some 0
      else g.postRake }

/-- RAKE_LIMIT's accepted activation (R99): watched in RK_RUN only. -/
def limitActivated (s : State) : State := if s.screen.rake = .run then completeCycle s else s

/-- The screen judged at the moment the rake enters RK_LOCKED (R91, R92). -/
def judgeLocked (s : State) : State :=
  match s.screen.sensing with
  | some .diff => if s.cfg.deltaR ≤ s.screen.delta then setCondition .blocked s else s
  | some .switch => if isActive s .screenSw then setCondition .blocked s else s
  | some .none => s
  | none => s

/-- A jam (R100): the first rests the rake in RK_PAUSE, the second locks it (R101). -/
def jamRake (s : State) : State :=
  let g := motorOff s.screen
  let s := { s with alarms := { s.alarms with rakeJam := some 0 } }
  if g.jams + 1 < 2 then
    setScreen s { g with jams := g.jams + 1, rake := .pause, pause := some 0 }
  else judgeLocked (setScreen s { g with jams := 2, rake := .locked })

/-- The rake's start key: priority 1, position 7, or 6 at address 7 (R98). -/
def rakeKey (s : State) : Nat :=
  64 + (if ownAddress s == 7 then 6 else 7) * 8 + ownAddress s

end Sys2Proof.Machine
end

