-- ==== Sys2Proof/Machine/Settle.lean ====
section
/-! DEFINITION. What follows every event within the same step: the holds (R62, R102), the rake
request (R97), the alarm records (R121), the panel (R129). -/

namespace Sys2Proof.Machine

open Sys2Proof

/-- The stop hold and the rake stop re-taken, and a standing rake request served. -/
def serve (s : State) : State := serveRequest (applyRakeStop (applyHold s))

/-- The closing work of every event. -/
def settle (s : State) : State := handOn (serve s)

/-- The outcome of an event: its effect and the closing work where the part can be at that event, and
nothing where it cannot: such an event is passed over (log 1). -/
def taken (can : Bool) (effect : State → State) (s : State) : Host.Outcome State Fault Refusal :=
  .next (if can then settle (effect s) else s)

end Sys2Proof.Machine
end

