-- ==== Sys2Proof/Machine/Lines.lean ====
section
/-! DEFINITION. The Line Interface's operations (chapter 1): the drive of a frame, changes of line
state, the end of a bad frame. -/

namespace Sys2Proof.Machine

open Sys2Proof

def setLine (s : State) (l : Line) : State := { s with line := l }

/-- The driver let go, unless it is cut (R22). -/
def releasedDriver (d : Driver) : Driver := if d = .cut then .cut else .released

/-! ### The end of a bad frame (R8, R9, R23) -/

/-- The own entry at a frame end: as driven while JOINED, absent otherwise (R23). DESIGN CHOICE (log 34):
for a station that is not JOINED the rule gives heard, age and flags; last BEAT recessive and beat-stuck
0 are the model's. DESIGN CHOICE (log 41): at the end of a frame that proves bad at its sync a JOINED
station's entry takes the values it took at the frame start, though it drove no data cell of them. -/
def ownEntry (s : State) : PeerEntry :=
  match s.line.mode, s.line.drive with
  | .joined, some d => shownEntry d.cells (ownAddress s) 0
  | _, _ => PeerEntry.unheard

/-- The result of the notice claim at a bad frame end (R13). -/
def badNotice (s : State) : State :=
  match s.line.drive with
  | none => s
  | some d =>
    if d.noticeKey.isSome then noticeResult (if s.line.noticeWon then .notCarried else .lost) s else s

/-- A frame found bad: counted, the receiver searching, the runs of good frames at 0, the notice
claim's result handed, and the own entry written as at every frame end (R8, R13, R15, R21, R23, R24);
DESIGN CHOICE (log 41): also where no data cell of the frame was driven. `quiet`: the recessive cells read
last, up to the one at which the frame is found bad (R21). -/
def badFrameEnd (quiet : Nat) (s : State) : State :=
  let s := badNotice s
  setLine s { s.line with
    badFrames := satSucc 255 s.line.badFrames
    prevGood := false
    receiver := .searching
    recessiveRun := 0
    goodRun := 0
    faultGood := 0
    quiet := quiet
    peers := s.line.peers.set (ownAddress s) (ownEntry s)
    drive := none
    noticeWon := false
    driver := releasedDriver s.line.driver }

/-- A frame in progress when the station enters ISOLATED or LINE_FAULT, or when the line is found stuck
there, is bad (R8, log 17). -/
def breakFrame (s : State) : State :=
  if s.line.receiver = .inside then badFrameEnd 0 s else s

/-! ### Line states (1.5) -/

/-- ACK assertions that still wait are withdrawn and taken as a local acknowledgment (R125). -/
def withdrawAck (s : State) : State :=
  let waits := s.alarms.ackPress || s.alarms.ackTown
  let s := { s with alarms := { s.alarms with ackPress := false, ackTown := false } }
  if waits then acknowledge s else s

/-- The alarm view of a station emptied (R153). -/
def emptyView (a : Nat) (s : State) : State :=
  setReporter s { s.reporter with alarmView := s.reporter.alarmView.set a [] }

/-- Leaving JOINED (R6, R25, R77, R83, R85, R125, R137, R147, R153). -/
def leaveJoined (s : State) : State :=
  let s := withdrawAck s
  let s := if s.duty.pump = .startWait then enterIdle s else s
  let s := setDuty s { s.duty with holdsLead := false, waiting := [], index := none }
  let s := emptyView (ownAddress s) (reporterLeaves s)
  let s := { s with notices := { s.notices with holdoff := false } }
  setLine s { s.line with due := false, syncDriving := false, aloneCount := 0, alone := false }

/-- JOINED left, if the station is JOINED. -/
def leaveIfJoined (s : State) : State := if s.line.mode = .joined then leaveJoined s else s

/-- Entry to LINE_FAULT (R8, R20, R21, R57). -/
def enterLineFault (s : State) : State :=
  let s := leaveIfJoined s
  let s := breakFrame (setLine s { s.line with
    mode := .lineFault, driver := .released, due := false, syncDriving := false })
  reformLocal (setLine s { s.line with goodRun := 0, faultGood := 0, quiet := 0 })

/-- The local call off and its delay stopped, on leaving LINE_FAULT (R57, R86). -/
def endLocalCall (s : State) : State :=
  let s := setStager s { s.stager with localCall := false }
  setDuty s { s.duty with fallbackDelay := .stopped }

/-- Entry to ISOLATED (R8, R22, R85). -/
def enterIsolated (s : State) : State :=
  let s := leaveIfJoined s
  let s := if s.line.mode = .lineFault then endLocalCall s else s
  stopAutomatic (breakFrame (setLine s { s.line with
    mode := .isolated, driver := .cut, due := false, syncDriving := false }))

/-- Return from LINE_FAULT to LISTEN (R15, R21). -/
def enterListen (s : State) : State :=
  endLocalCall (setLine s { s.line with
    mode := .listen, driver := .released, silenceCells := 0, goodRun := 0, ownCount := 0
    syncFail := 0, presenceFail := 0, jabber := 0, stuck := 0, faultGood := 0, quiet := 0
    aloneCount := 0, alone := false })

/-- Entry to JOINED; joining alone the station is due at once (R11, R16). -/
def enterJoined (due : Bool) (s : State) : State :=
  setLine s { s.line with mode := .joined, due := due, nextBeat := true }

/-! ### The frame start (R9 to R14) -/

/-- The start key driven, and the block that wants it: the Duty Controller's before the Screen
Controller's (R14, R73, R98). -/
def startKeyOf (s : State) : Option (Claimant × Nat) :=
  if s.duty.pump = .startWait then some (.duty, pumpKey s)
  else if s.screen.rake = .wait then some (.screen, rakeKey s)
  else none

/-- A claim field of `n` cells as driven: the key, or recessive throughout (R12). -/
def claimCells (n : Nat) (key : Option Nat) : List Bool :=
  match key with
  | some k => fieldCells n k
  | none => recessive n

/-- The own station field (R11). -/
def ownField (s : State) : List Bool :=
  [true, s.duty.holdsLead, available s, runningAsserted s, s.duty.inrush.isSome,
   s.screen.condition == .blocked, yieldingAsserted s, s.line.nextBeat]

/-- The DEMAND cells: a thermometer of the published stage (R51). -/
def demandCells (stage : Nat) : List Bool := (List.range 8).map fun k => decide (k < stage)

/-- The cells a JOINED station drives from a frame start, in the order of R175; the notice body and
check are driven only once the notice claim is won (R13). -/
def driveCells (s : State) (start report notice : Option Nat) : Cells :=
  toCells (demandCells (publishedStage s)
    ++ [isActive s .lowFloat, overflowOpen s.ovf, unackAsserted s,
        s.alarms.ackPress || s.alarms.ackTown]
    ++ claimCells 7 start
    ++ [inrushAsserted s]
    ++ claimCells 4 report
    ++ [isActive s .supplyLow, isActive s .tideClosed, isActive s .highFloat, isActive s .allStop]
    ++ claimCells 4 notice
    ++ recessive (8 * ownAddress s) ++ ownField s ++ recessive (8 * (7 - ownAddress s))
    ++ recessive 40)

/-- Everything a JOINED station takes at a frame start: its cells, its keys, the head notice. -/
def driveOf (s : State) : Drive :=
  let start := startKeyOf s
  let report := reportKeyOf s
  let head := contendingHead s
  let notice := head.map (noticeKey s)
  let body := (head.map bodyOf).getD 0
  { cells := driveCells s (start.map (·.2)) report notice
    startKey := start
    reportKey := report
    noticeKey := notice
    body := body
    check := crc8 body }

/-- A JOINED station's drive taken (R9): the head it contends with goes in flight, the holdoff clears,
the ACK assertions are driven and withdrawn, BEAT is inverted for the next frame. DESIGN CHOICE (log 35):
BEAT is inverted here, whatever becomes of the frame, also where it proves bad at its sync. -/
def takeDrive (s : State) : State :=
  let d := driveOf s
  let s := if d.noticeKey.isSome then setQueue s (headInFlight s.notices.queue) else s
  { s with
    notices := { s.notices with holdoff := false }
    alarms := { s.alarms with ackPress := false, ackTown := false }
    line := { s.line with drive := some d, driver := .driving, nextBeat := !s.line.nextBeat } }

/-- The leading edge of a sync taken (R4 to R7, R9, R16): timers restart, the station ceases to be
due, an own sync read back whole clears the sync failures. The frame timer of an own sync was restarted
at its leading edge, when SYNC_DRIVE drove it, and runs on (R5, log 10). -/
def takeEdge (s : State) : State :=
  setLine s { s.line with
    receiver := .inside
    recessiveRun := 0
    frameCells := if s.line.syncDriving then s.line.frameCells else 0
    frameExpired := false
    silenceCells := 0
    due := false
    quiet := 0
    syncFail := if s.line.syncDriving then 0 else s.line.syncFail
    syncDriving := false
    noticeWon := false
    drive := none }

/-- The frame start (R9), with availability as formed there (R68). -/
def frameStart (s : State) : State :=
  let s := takeEdge s
  let s := setDuty s { s.duty with availableAtStart := available s }
  if s.line.mode = .joined then takeDrive s else s

/-- The notice claim won (R13, R137): the body and check are driven, and the holdoff is set. -/
def winNotice (s : State) : State :=
  match s.line.drive with
  | none => s
  | some d =>
    { s with
      notices := { s.notices with holdoff := true }
      line := { s.line with
        noticeWon := true
        drive := some { d with cells := d.cells ||| noticeCells d.body d.check } } }

/-- A failed own sync attempt (R5, R7): the frame timer, restarted at the attempt's start, runs. -/
def failSync (s : State) : State :=
  let s := setLine s { s.line with
    frameExpired := false, due := false, syncDriving := false, driver := .released
    syncFail := satSucc 3 s.line.syncFail }
  if 3 ≤ s.line.syncFail then enterLineFault s else s

/-! ### One cell of the line -/

/-- A cell with no event counts as recessive for LINE_FAULT's quiet count (R21): outside a frame, once no
stuck condition stands. The cells of a frame are known at its end. -/
def quietCell (l : Line) : Bool :=
  l.mode == .lineFault && !stuckNow l && l.receiver != .inside

/-- One cell of 100 µs passes with no event: the frame timer and the silence timer count it (R5, R16),
as does the quiet count of LINE_FAULT (R21), and with the driver released the jabber count is 0
(R19). -/
def cellStep (s : State) : State :=
  setLine s { s.line with
    frameCells := s.line.frameCells + 1
    silenceCells := s.line.silenceCells + 1
    quiet := if quietCell s.line then s.line.quiet + 1 else s.line.quiet
    jabber := if s.line.driver = .driving then s.line.jabber else 0 }

end Sys2Proof.Machine
end

