-- ==== Sys2Proof/Machine/Overflows.lean ====
section
/-! DEFINITION. The Overflow Monitor's operations (chapter 6). -/

namespace Sys2Proof.Machine

open Sys2Proof

def setOvf (s : State) (o : Overflow) : State := { s with ovf := o }

/-- Neighbours of a list all related. -/
def climbs (p : Nat → Nat → Bool) : List Nat → Bool
  | a :: b :: rest => p a b && climbs p (b :: rest)
  | _ => true

/-- The spill table is usable (R104). -/
def spillUsable (c : Settings) : Bool :=
  c.spillHeads.headD 1 == 0 && c.spillRates.headD 1 == 0
    && climbs (fun a b => decide (a < b)) c.spillHeads
    && climbs (fun a b => decide (a ≤ b)) c.spillRates

/-- The spill rate of a head between the points of the table, and whether the head is above the
table (R112). The two lists are the points from the present one on. -/
def spillRate (h : Nat) : List Nat → List Nat → Nat × Bool
  | h0 :: h1 :: hs, q0 :: q1 :: qs =>
    if h < h1 then (q0 + (q1 - q0) * (h - h0) / (h1 - h0), false)
    else spillRate h (h1 :: hs) (q1 :: qs)
  | _, q :: _ => (q, true)
  | _, [] => (0, true)

/-- The head source as it stands now (R106). -/
def headSource (s : State) : Bool :=
  s.ovf.levelActive || (s.cfg.weirFloatFitted && isActive s .weirFloat)

/-- The overflow state's answer to a changed head source (R108, R110). -/
def answerSource (s : State) : State :=
  if s.ovf.sourceActive then
    match s.ovf.state with
    | .idle => setOvf s { s.ovf with state := .pending, pending := some 0 }
    | .tail => setOvf s { s.ovf with state := .active, tail := none }
    | .pending => s
    | .active => s
  else
    match s.ovf.state with
    | .pending => setOvf s { s.ovf with state := .idle, pending := none }
    | .active =>
      setOvf s { s.ovf with state := .tail, tail := some 0, tailStamp := s.time.seconds }
    | .idle => s
    | .tail => s

/-- The head source re-taken (R106). -/
def retakeSource (s : State) : State :=
  let now := headSource s
  if now = s.ovf.sourceActive then s
  else answerSource (setOvf s { s.ovf with sourceActive := now })

/-- The monitor is blind (R107). -/
def blindNow (s : State) : Bool := !s.cfg.weirFloatFitted && !offersLevel s.chanA

/-- The head and the level indication from the state channel A handed (R105). -/
def formHead (s : State) : State :=
  match s.chanA.mode with
  | .healthy =>
    let h := s.chanA.e - s.cfg.crest
    setOvf s { s.ovf with head := h, levelActive := decide (0 < h) && s.ovf.crestUsable }
  | .suspect => s
  | .starting => setOvf s { s.ovf with head := 0, levelActive := false }
  | .faulted => setOvf s { s.ovf with head := 0, levelActive := false }
  | .absent => setOvf s { s.ovf with head := 0, levelActive := false }

/-- The gate's spill added to the accumulator, or the event marked incomplete (R113). -/
def integrate (s : State) : State :=
  if !s.ovf.volumeEnabled then setOvf s { s.ovf with incomplete := true }
  else if s.chanA.mode = .healthy then
    let (q, above) := spillRate s.ovf.head s.cfg.spillHeads s.cfg.spillRates
    setOvf s { s.ovf with
      accumulator := min (2 ^ 32 - 1) (s.ovf.accumulator + q)
      aboveTable := s.ovf.aboveTable || above }
  else setOvf s { s.ovf with incomplete := true }

/-- The event record brought up to date (R113): the peak, and the integration when the gate lies
wholly within the event. DESIGN CHOICE (log 43): the peak takes a greater h only, also at the gate end
right after the pending timer's expiry, where R113 has it take the gate end's h in either order. -/
def updateEvent (s : State) : State :=
  if overflowOpen s.ovf then
    let s := if s.chanA.mode = .healthy then setOvf s { s.ovf with peak := max s.ovf.peak s.ovf.head }
      else s
    if s.ovf.prevGateOpen then integrate s else s
  else s

/-- The monitor's work at a gate end (R105 to R107, R113), on a weir bay. -/
def overflowGate (s : State) : State :=
  if !s.straps.weirEn then s
  else
    let s := formHead s
    let blind := blindNow s
    let s := setOvf s { s.ovf with
      blind := blind
      incomplete := s.ovf.incomplete || (blind && !s.ovf.blind && overflowOpen s.ovf) }
    let s := if blind then s else updateEvent (retakeSource s)
    setOvf s { s.ovf with prevGateOpen := overflowOpen s.ovf }

/-- The opening of an event (R109). The next gate end does not integrate, by the text of R113, also where
a gate end has been taken before at the same moment. DESIGN CHOICE (log 46): the worked example of chapter
6 has integration begin there in either order. -/
def openEvent (s : State) : State :=
  let s := setOvf s { s.ovf with
    state := .active, pending := none, startStamp := s.time.seconds, tailStamp := s.time.seconds
    peak := s.ovf.head, accumulator := 0, aboveTable := false
    incomplete := !s.ovf.volumeEnabled, prevGateOpen := false }
  handNotice s (newEntry .overflowStart (ownAddress s) 0 0 s.ovf.head true)

/-- The volume of a closing event in m³, and whether it saturates (R114). -/
def eventVolume (o : Overflow) : Nat × Bool :=
  let v := if o.volumeEnabled then o.accumulator / 2000 else 0
  if 65535 < v then (65535, true) else (v, false)

/-- The flags of a closing event (R111, R114). -/
def eventFlags (o : Overflow) : Nat :=
  (if o.incomplete then 1 else 0) + (if o.aboveTable then 2 else 0)
    + (if (eventVolume o).2 then 4 else 0)

/-- The duration of a closing event in minutes, a part-minute counting whole (R111). -/
def eventDuration (o : Overflow) : Nat := min 65535 (((o.tailStamp - o.startStamp).toNat + 59) / 60)

/-- The close of an event (R111): OVERFLOW_END, then OVERFLOW_TIME, then OVF_IDLE. -/
def closeEvent (s : State) : State :=
  let o := s.ovf
  let s := handNotice s (newEntry .overflowEnd (ownAddress s) 0 (eventFlags o) (eventVolume o).1 true)
  let s := handNotice s
    (newEntry .overflowTime (ownAddress s) (min 31 (o.peak / 100)) 0 (eventDuration o) true)
  setOvf s { s.ovf with state := .idle, tail := none, prevGateOpen := false }

end Sys2Proof.Machine
end

