-- ==== Sys2Proof/Machine/Ticks.lean ====
section
/-! DEFINITION. The Time Base, the Input Conditioner and the hourly and minute events (R26 to R28, R58,
R78, R87, R116, R143, R154), with the meanings of their commands. -/

namespace Sys2Proof.Machine

open Sys2Proof

/-! ### The first tick after reset (R28, R58, R166) -/

/-- The straps from their pins: a pin that is LOW is fitted (R166). -/
def strapsOf (pins : BitVec 7) : Straps where
  address := ⟨(~~~pins).toNat % 8, Nat.mod_lt _ (by decide)⟩
  telEn := !pins.getLsbD 3
  lvaEn := !pins.getLsbD 4
  lvbEn := !pins.getLsbD 5
  weirEn := !pins.getLsbD 6

/-- Every sample taken as accepted, without debounce (R28). -/
def firstInputs (pins : BitVec 15) : List InputState :=
  allInputs.map fun i => ⟨sampleActive pins i, 0, false⟩

/-- The pump state that the first mode gives (R58). -/
def firstPump : PumpMode → PumpState
  | .off => .outOfService
  | .hand => .hand
  | .auto => .lockedOff

/-- A channel's state by its strap (R38, R39). -/
def strappedMode (fitted : Bool) : ChannelMode := if fitted then .starting else .absent

/-- An attempt begins with its bus-free step (R169): with SDA low the loader clocks SCL until SDA reads
high, up to nine cells; `sdaCells` is the number of cells after which it does, 0 for at once. -/
def beginAttempt (sdaCells : Nat) (l : Loader) : Loader :=
  { l with
    busDriven := true, sent := [], bus := []
    sclCells := min 9 sdaCells, sdaHeld := decide (9 < sdaCells) }

/-- Strap capture, the first accepted values, and what is taken from them (R28, R58, R166, R167); the
first read attempt begins (R169). -/
def capture (pins : BitVec 15) (straps : CaptureReadings) (s : State) : State :=
  let t := strapsOf straps.levels
  let s := { s with straps := t, inputs := firstInputs pins }
  let mode := modeOf (isActive s .modeOff) (isActive s .modeHand)
  { s with
    loader := beginAttempt straps.sdaCells { s.loader with phase := .reading }
    duty := { s.duty with mode := mode, pump := firstPump mode }
    chanA := { s.chanA with mode := strappedMode t.lvaEn }
    chanB := { s.chanB with mode := strappedMode t.lvbEn } }

/-! ### Every tick (R26, R27) -/

/-- One input at a tick (R27): its change count, and whether it has reached N. -/
def sampleInput (n : Nat) (sample : Bool) (x : InputState) : InputState :=
  if sample = x.active then { x with count := 0, due := false }
  else { x with count := x.count + 1, due := decide (n ≤ x.count + 1) }

/-- Every input at a tick (R27). -/
def sampleInputs (pins : BitVec 15) (s : State) : State :=
  { s with inputs :=
    allInputs.map fun i => sampleInput s.cfg.debounce (sampleActive pins i) (inputState s i) }

/-- The changeover timer at a tick: it counts while yielding is set and W is empty, and stops at 120 s
(R77). DEDUCED (log 47): its seconds pass in ticks from its start, as R26 has them, and not with the
seconds count. -/
def tickChangeover (d : Duty) : Nat :=
  if d.yielding && d.waiting.isEmpty then satSucc changeoverLimit d.changeover else d.changeover

/-- The Duty Controller's timers at a tick. -/
def tickDuty (supplyLow : Bool) (d : Duty) : Duty :=
  { d with
    minOff := advance d.minOff
    inrush := advance d.inrush
    confirm := advance d.confirm
    runLoss := advance d.runLoss
    minRun := advance d.minRun
    contRun := if d.pump = .starting ∨ d.pump = .running then d.contRun + 1 else d.contRun
    changeover := tickChangeover d
    fallbackDelay := match d.fallbackDelay with
      | .running t => .running (t + 1)
      | .stopped => .stopped
      | .expired => .expired
    supplyInactive := if supplyLow then 0 else satSucc 500 d.supplyInactive }

/-- The Screen Controller's timers at a tick. -/
def tickScreen (g : Screen) : Screen :=
  { g with
    switchClear := advance g.switchClear
    postRake := advance g.postRake
    highAlarm := advance g.highAlarm
    interval := g.interval + 1
    rakeRun := advance g.rakeRun
    rakeInrush := advance g.rakeInrush
    pause := advance g.pause }

/-- The Overflow Monitor's timers at a tick; while blind they keep their time (R107). -/
def tickOvf (o : Overflow) : Overflow :=
  if o.blind then o else { o with pending := advance o.pending, tail := advance o.tail }

/-- The pulse conditions at a tick (R119). -/
def tickAlarms (a : Alarms) : Alarms :=
  { a with
    startFail := advance a.startFail
    runLost := advance a.runLost
    rakeJam := advance a.rakeJam
    queueLoss := advance a.queueLoss }

/-- The outputs' timers and the flash phase at a tick (R130, R131). -/
def tickPanel (p : Panel) : Panel :=
  { p with
    outputs := p.outputs.map fun o =>
      { o with stretch := advance o.stretch, pulse := advance o.pulse }
    phase := (p.phase + 1) % 400 }

/-- The time since the last character: from 20 ms, two ticks, the port may be free (R149). -/
def tickSince (t : Timer) : Timer :=
  match t with
  | some e => if 2 ≤ e + 1 then none else some (e + 1)
  | none => none

/-- The reporter's timers at a tick (R149, R154, R158). -/
def tickReporter (r : Reporter) : Reporter :=
  { r with
    clock := r.clock.map fun c => { c with ticks := c.ticks + 1 }
    flight := r.flight.map fun f => { f with ta := advance f.ta }
    port := match r.port with
      | .keyUp t => .keyUp (t + 1)
      | .sending t => .sending (t + 1)
      | .idle => .idle
    sinceChar := tickSince r.sinceChar }

/-- Every timer and count of ticks (R26). -/
def advanceTimers (s : State) : State :=
  { s with
    time := { s.time with subTicks := s.time.subTicks + 1 }
    loader := { s.loader with
      wait := advance s.loader.wait, checkTicks := advance s.loader.checkTicks }
    gate := if loaded s then s.gate + 1 else s.gate
    duty := tickDuty (isActive s .supplyLow) s.duty
    screen := tickScreen s.screen
    ovf := tickOvf s.ovf
    alarms := tickAlarms s.alarms
    panel := tickPanel s.panel
    reporter := tickReporter s.reporter }

/-- A tick: the inputs sampled, or at the first tick taken with the straps; then every timer. -/
def tickStep (pins : BitVec 15) (straps : CaptureReadings) (s : State) : State :=
  advanceTimers (if captured s then sampleInputs pins s else capture pins straps s)

/-! ### Accepted changes (R27, R29) -/

/-- The accepted value of an input takes the sample's value, and its count goes to 0 (R27). -/
def accept (i : Input) (s : State) : State :=
  { s with inputs := s.inputs.set (inputIndex i) ⟨!isActive s i, 0, false⟩ }

/-- An acknowledge press (R125); before the loader finishes the Alarm Table takes none (R117). -/
def pressAck (s : State) : State :=
  if !loaded s then s
  else if s.line.mode = .joined then { s with alarms := { s.alarms with ackPress := true } }
  else acknowledge s

/-- The weir float re-taken, on a weir bay where it is fitted (R103, R106). -/
def weirChanged (s : State) : State :=
  if s.straps.weirEn && s.cfg.weirFloatFitted && loaded s then retakeSource s else s

/-- The first answer of the block that uses an input to its accepted change; the holds, the alarms
and the panel follow with the closing work. -/
def answerInput (i : Input) (s : State) : State :=
  match i with
  | .runConfirm => if isActive s .runConfirm then confirmActivated s else confirmReleased s
  | .thermal => if isActive s .thermal then thermalTrip s else s
  | .moisture => if isActive s .moisture then moistureActivated s else s
  | .lowFloat => reformLocal s
  | .highFloat => reformLocal s
  | .allStop => reformLocal s
  | .modeHand => reformMode s
  | .modeOff => reformMode s
  | .rakeLimit => if isActive s .rakeLimit then limitActivated s else s
  | .screenSw => if s.screen.sensing = some .switch then takeSwitch s else s
  | .weirFloat => weirChanged s
  | .supplyLow =>
    if isActive s .supplyLow then setDuty s { s.duty with supplyInactive := 0 } else s
  | .ackBtn => if isActive s .ackBtn then pressAck s else s
  | .tideClosed => s
  | .lampTest => s

/-! ### Seconds, minutes, hours -/

/-- A count of seconds that rises to a minute: the seconds and the saturating minutes after. -/
def countSecond (running : Bool) (seconds minutes : Nat) : Nat × Nat :=
  if !running then (seconds, minutes)
  else if seconds + 1 < 60 then (seconds + 1, minutes)
  else (0, satSucc 65535 minutes)

/-- A Time Base second (R26, R87, R116, R143). -/
def secondStep (s : State) : State :=
  let now := s.time.seconds + 1
  let run := countSecond s.duty.contactor s.duty.runSeconds s.duty.runMinutes
  let spill := countSecond (s.ovf.state == .active) s.ovf.seconds s.ovf.minutes
  { s with
    time := { s.time with
      seconds := now
      subTicks := s.time.subTicks - 100
      hourlyDue := s.time.hourlyDue || (now != 0 && now.toNat % 3600 == 0) }
    duty := { s.duty with runSeconds := run.1, runMinutes := run.2 }
    ovf := { s.ovf with seconds := spill.1, minutes := spill.2 } }

/-- The values of the seven SUMMARY counters, codes 0 to 6 (R143). -/
def summaryValues (s : State) : List Nat :=
  [s.duty.runMinutes, s.duty.starts, s.screen.cycles, s.ovf.minutes, s.notices.checkFail,
   s.line.badFrames, s.notices.lost]

/-- The seven counters set to 0. -/
def clearCounters (s : State) : State :=
  { s with
    time := { s.time with hourlyDue := false }
    duty := { s.duty with runMinutes := 0, starts := 0 }
    screen := { s.screen with cycles := 0 }
    ovf := { s.ovf with minutes := 0 }
    notices := { s.notices with checkFail := 0, lost := 0 }
    line := { s.line with badFrames := 0 } }

/-- The seven SUMMARY entries (R143). -/
def summaryEntries (s : State) : List NoticeEntry :=
  (summaryValues s).mapIdx fun code v => newEntry .summary (ownAddress s) code 0 v false

/-- An hourly point: the counters taken and cleared, then the entries join (R143). -/
def hourStep (s : State) : State := handAll (clearCounters s) (summaryEntries s)

/-- A minute of the reporter's clock has passed (R154). -/
def clockDue (s : State) : Bool := s.reporter.clock.any fun c => decide (6000 ≤ c.ticks)

/-- The clock advanced by a minute (R154). -/
def nextMinute (c : Clock) : Clock :=
  if c.minute < 1439 then { c with minute := c.minute + 1, ticks := c.ticks - 6000 }
  else { day := (c.day + 1) % 65536, minute := 0, ticks := c.ticks - 6000 }

def minuteStep (s : State) : State :=
  setReporter s { s.reporter with clock := s.reporter.clock.map nextMinute }

/-- The oldest stamp is 3600 s old (R78). -/
def stampDue (s : State) : Bool :=
  match s.duty.window with
  | oldest :: _ => decide (3600 ≤ (s.time.seconds - oldest).toNat)
  | [] => false

def dropStamp (s : State) : State := setDuty s { s.duty with window := s.duty.window.drop 1 }

/-! ### The meanings -/

/-- RESET (R167): every block at its reset values; the queue of commands is not the part's. -/
def execReset (s : State) : Host.Outcome State Fault Refusal :=
  .next { State.reset with pending := s.pending, free := s.free }

/-- TICK (R26 to R28, R166). -/
def execTick (pins : BitVec 15) (straps : CaptureReadings) (s : State) :
    Host.Outcome State Fault Refusal :=
  taken true (tickStep pins straps) s

/-- INPUT_ACCEPTED_CHANGE (R27, R29). -/
def execInputAcceptedChange (i : Input) (s : State) : Host.Outcome State Fault Refusal :=
  taken (inputState s i).due (fun s => answerInput i (accept i s)) s

/-- TIME_BASE_SECOND (R26). -/
def execTimeBaseSecond (s : State) : Host.Outcome State Fault Refusal :=
  taken (decide (100 ≤ s.time.subTicks)) secondStep s

/-- HOURLY_POINT (R143). -/
def execHourlyPoint (s : State) : Host.Outcome State Fault Refusal := taken s.time.hourlyDue hourStep s

/-- CLOCK_MINUTE (R154). -/
def execClockMinute (s : State) : Host.Outcome State Fault Refusal := taken (clockDue s) minuteStep s

/-- STARTS_WINDOW_STAMP_EXPIRY (R78). -/
def execStartsWindowStampExpiry (s : State) : Host.Outcome State Fault Refusal :=
  taken (stampDue s) dropStamp s

end Sys2Proof.Machine
end

