-- ==== Sys2Proof/WellFormed.lean ====
section
/-! DEFINITION. Which operands a command can carry at all. The meanings make these checks themselves
and pass an ill-formed command over (log 1); `WellFormed` names them in one place. -/

namespace Sys2Proof

/-- The lengths of a sync's dominant run in a good frame (R8). -/
def goodRun (run : Nat) : Bool := 4 ≤ run && run ≤ 6

/-- The lengths at which a sync's run is found bad: a short run, or the seventh cell (R8). -/
def badRun (run : Nat) : Bool := (1 ≤ run && run ≤ 3) || run == 7

/-- A point that a read can have reached: at most 256 data bytes (R168). -/
def readPoint : ReadPoint → Bool
  | .sending _ => true
  | .reading data => data.length ≤ 256

/-- A condition comes next: the start, the repeated start or the stop (R168). -/
def beforeCondition : ReadPoint → Bool
  | .sending n => n == 0 || n == 4
  | .reading data => data.length == 256

/-- A failure that a read attempt can have (R169). -/
def readFailure : ReadFailure → Bool
  | .noAcknowledge _ => true
  | .stretchTooLong p => readPoint p
  | .busBusy p => beforeCondition p

/-- The characters of a whole town message: start, length, body, CRC; L is 3 to 40 (11.2). -/
def wholeMessage (chars : List Byte) : Bool := 7 ≤ chars.length && chars.length ≤ 44

/-- The well-formed commands. -/
def Instr.wellFormed : Instr → Bool
  | .configReadComplete image => image.length == 256
  | .goodFrameEnd run _ => goodRun run
  | .badFrame run => badRun run
  | .lineIdle cells => 0 < cells
  | .receiverInStep cells => 0 < cells
  | .jabberTrip cells => 0 < cells
  | .stuckCondition cells => 0 < cells
  | .lineFaultQuietRecover cells => 0 < cells
  | .townMessageInvalid chars => 0 < chars.length && chars.length ≤ 44
  | .characterGapTimeout chars => 0 < chars.length && chars.length ≤ 43
  | .townPoll chars => wholeMessage chars
  | .townAck chars => wholeMessage chars
  | .townDump chars => wholeMessage chars
  | .townInhibit chars => wholeMessage chars
  | .townRelease chars => wholeMessage chars
  | .townClock chars => wholeMessage chars
  | .townReporting chars => wholeMessage chars
  | .townUnknownType chars => wholeMessage chars
  | .reset => true
  | .tick _ _ => true
  | .inputAcceptedChange _ => true
  | .timeBaseSecond => true
  | .hourlyPoint => true
  | .clockMinute => true
  | .startsWindowStampExpiry => true
  | .attemptFail cause => readFailure cause
  | .retryWaitExpiry _ => true
  | .loaderFinish => true
  | .frameTimerExpiry => true
  | .syncDrive => true
  | .syncAttemptFail => true
  | .syncLeadingEdge => true
  | .noticeClaimWon _ => true
  | .join => true
  | .ownAddressIsolate => true
  | .presenceFault => true
  | .silenceTimerExpiry => true
  | .lineFaultFramesRecover => true
  | .aloneDetect => true
  | .leadUnusableHandover => true
  | .noLeadTake => true
  | .noticeDrop => true
  | .commandSetInhibit => true
  | .commandClearInhibit => true
  | .commandOtherCode => true
  | .pairingTimeout _ => true
  | .holdQuietClaim => true
  | .openFieldActive => true
  | .commandTimeout => true
  | .gateEnd => true
  | .minOffExpiry => true
  | .inrushTimerExpiry => true
  | .confirmTimerExpiry => true
  | .runLossExpiry => true
  | .maxrunReached => true
  | .changeoverTimerExpiry => true
  | .minRunExpiry => true
  | .fallbackDelayExpiry => true
  | .fallbackStart => true
  | .switchClearExpiry => true
  | .postRakeExpiry => true
  | .highAlarmExpiry => true
  | .intervalTimerExpiry => true
  | .rakeInrushExpiry => true
  | .rakeJam => true
  | .pauseTimerExpiry => true
  | .pendingTimerExpiry => true
  | .tailTimerExpiry => true
  | .pulseConditionEnd _ => true
  | .stretchTimerExpiry _ => true
  | .pulseTimerExpiry _ => true
  | .portSend => true
  | .keyUpDelayExpiry => true
  | .transmitEnd => true
  | .tAExpiry => true
  | .dominantCellBeforeIdle => true
  | .stuckConditionClear => true
  | .levelPulseEdge _ => true

end Sys2Proof
end

