-- ==== Sys2Proof/Machine/Loading.lean ====
section
/-! DEFINITION. The Configuration Loader (chapter 10) and what every block does at the moment it
finishes, with the meanings of its commands. -/

namespace Sys2Proof.Machine

open Sys2Proof

/-! ### Reading (R167 to R172) -/

/-- The bytes the loader sends in one attempt: the memory address for writing, the byte address, the
memory address for reading (R168). -/
def readRequest : List Byte := [0xA0#8, 0x00#8, 0x00#8, 0xA1#8]

/-- An attempt is in progress (R167, R169). -/
def attempting (s : State) : Bool := s.loader.phase == .reading && s.loader.wait.isNone

/-- CHECKING entered with an image that is unread or not good: reduced mode (R170, R171). -/
def checkBad (l : Loader) : Loader :=
  { l with
    phase := .checking, checkTicks := some 0, busDriven := false
    reduced := true, causeFound := true, overflowOnly := false, ready := Settings.reduced }

/-- CHECKING entered with a good image: its fields clamped, each replacement a cause found, and whether
they lie in the overflow group alone (R104, R170, R172). -/
def checkGood (image : List Byte) (l : Loader) : Loader :=
  { l with
    phase := .checking, checkTicks := some 0, busDriven := false
    reduced := false, causeFound := imageClamped image, overflowOnly := overflowClamped image
    ready := settingsOf image }

/-- The bytes that the loader sends, on the bus: a start before the first and before the fourth (R168);
`acked n`: the memory acknowledged the `n`-th. -/
def sendItems (acked : Nat → Bool) (bytes : List Byte) : List BusItem :=
  (bytes.mapIdx fun n b =>
    if n = 0 ∨ n = 3 then [.start, .sent b (acked n)] else [.sent b (acked n)]).flatten

/-- Data bytes on the bus, from the first: the loader acknowledges each but the 256th (R168). -/
def readItems (data : List Byte) : List BusItem := data.mapIdx fun n b => .read b (n + 1 != 256)

/-- What has passed on the bus where a read has come so far, every byte sent acknowledged (R168). -/
def itemsTo : ReadPoint → List BusItem
  | .sending n => (sendItems (fun _ => true) readRequest).take n.val
  | .reading data => sendItems (fun _ => true) readRequest ++ readItems data

/-- A complete random read on the bus, from the first start condition to the stop condition (R168). -/
def completeRead (image : List Byte) : List BusItem := itemsTo (.reading image) ++ [.stop]

/-- A complete read (R168, R170). -/
def readDone (image : List Byte) (s : State) : State :=
  let l := { s.loader with image := some image, sent := readRequest, bus := completeRead image }
  { s with loader := if imageGood image then checkGood image l else checkBad l }

/-- A failed attempt on the bus (R169). A byte left unacknowledged ends it, and the stop condition
follows. With SCL or SDA held low by the memory the bus allows no stop condition, and what had passed is
all there is; the cells of a byte cut off are not held (log 15). -/
def failedRead : ReadFailure → List BusItem
  | .noAcknowledge n => sendItems (fun k => k != n.val) (readRequest.take (n.val + 1)) ++ [.stop]
  | .stretchTooLong p => itemsTo p
  | .busBusy p => itemsTo p

/-- The byte of an item that the loader sent. -/
def sentByte : BusItem → Option Byte
  | .sent b _ => some b
  | .start => none
  | .read _ _ => none
  | .stop => none

/-- The bytes that the loader sent in a failed attempt (R168, R169). -/
def sentBy (cause : ReadFailure) : List Byte := (failedRead cause).filterMap sentByte

/-- The failure comes before the first start condition, in or after the bus-free step (R169): the only
one left where SDA is still low after that step, or is held in it. -/
def beforeStart (cause : ReadFailure) : Bool :=
  cause == .busBusy (.sending 0) || cause == .stretchTooLong (.sending 0)

/-- A failed attempt (R169): the wait, or at the fourth the image cannot be read. -/
def attemptStep (cause : ReadFailure) (s : State) : State :=
  let l := { s.loader with busDriven := false, sent := sentBy cause, bus := failedRead cause }
  { s with loader :=
    if s.loader.attempt < 4 then { l with wait := some 0 } else checkBad { l with image := none } }

/-- The next attempt and its bus-free step (R169). -/
def retryStep (sdaCells : Nat) (s : State) : State :=
  { s with loader := beginAttempt sdaCells { s.loader with
    attempt := s.loader.attempt + 1, wait := none } }

/-! ### The moment the loader finishes (R167) -/

/-- A structural cause of CONFIG (R173). -/
def noteCause (found : Bool) (s : State) : State := { s with causeCfg := s.causeCfg || found }

/-- A channel after the checks: STARTING when strapped with a usable calibration in normal mode,
ABSENT otherwise (R32, R38, R39). -/
def finishedMode (reduced fitted : Bool) (c : Calibration) : ChannelMode :=
  if fitted && !reduced && calibrationUsable c then .starting else .absent

/-- The Level Channels at the loader's finish (R31, R32, R38). -/
def finishChannels (s : State) : State :=
  let r := s.loader.reduced
  let bad (fitted : Bool) (c : Calibration) : Bool := fitted && !r && !calibrationUsable c
  noteCause (bad s.straps.lvaEn s.cfg.calA || bad s.straps.lvbEn s.cfg.calB)
    { s with
      gate := 0
      chanA := { s.chanA with mode := finishedMode r s.straps.lvaEn s.cfg.calA, count := 0 }
      chanB := { s.chanB with mode := finishedMode r s.straps.lvbEn s.cfg.calB, count := 0 } }

/-- The Demand Stager at the loader's finish (R45): the table is checked when channel A is there. -/
def finishStager (s : State) : State :=
  if s.chanA.mode = .absent then s
  else
    noteCause (!tableUsable s.cfg) (setStager s { s.stager with usable := tableUsable s.cfg })

/-- The Overflow Monitor at the loader's finish, on a weir bay (R103, R104, R106, R107). DESIGN CHOICE
(log 37): with channel A ABSENT crest usable is no, where R104 has the crest neither checked nor used; a
bay without a weir keeps its reset values for good, volume enabled and crest usable no and blind yes. -/
def finishOverflow (s : State) : State :=
  if !s.straps.weirEn then s
  else
    let r := s.loader.reduced
    let absent := s.chanA.mode == .absent
    let crest := !absent && decide (s.cfg.crest ≤ s.cfg.calA.h)
    let s := noteCause ((!r && !spillUsable s.cfg) || (!absent && !crest)
        || (absent && !s.cfg.weirFloatFitted))
      (setOvf s { s.ovf with
        volumeEnabled := !r && spillUsable s.cfg, crestUsable := crest, blind := blindNow s })
    if s.ovf.blind then s else retakeSource s

/-- The Duty Controller at the loader's finish (R58, R63, R65). -/
def finishDuty (s : State) : State :=
  let s := setDuty s { s.duty with
    minOff := if reached s.duty.minOff (secondsTicks s.cfg.tMinOff) then none else s.duty.minOff }
  let s := closeInHand s
  let s := if s.duty.pump = .lockedOff ∧ s.duty.minOff = none then enterIdle s else s
  if isActive s .thermal then thermalTrip s else s

/-- The Screen Controller at the loader's finish (R88, R89): the first choice of the sensing mode is a
mode change from no mode. -/
def finishScreen (s : State) : State :=
  expireInterval (enterSensing (sensingOf s) (leaveSensing s))

/-- The Telemetry Reporter at the loader's finish (R145). -/
def finishReporter (s : State) : State :=
  setReporter s { s.reporter with
    mode := if s.straps.telEn && !s.loader.reduced then .standby else .none
    routineEnable := s.cfg.routineDefault }

/-- A record at the loader's finish (R117, R118): its enable, and its raw condition taken as inactive,
so that one that is active is taken through an activation by the closing work. -/
def finishRecord (s : State) (c : AlarmCode) : AlarmRecord :=
  { recordOf s c with
    enabled := s.loader.reduced || enableForced c || s.cfg.enableMask.getD (codeNumber c - 1) true
    raw := false }

/-- The Alarm Table at the loader's finish (R117, R118). -/
def finishAlarms (s : State) : State :=
  { s with alarms := { s.alarms with records := allCodes.map (finishRecord s) } }

/-- DONE entered: the settings handed over, and every block's own part (R167, R174). DESIGN CHOICE (log
48): the fresh evaluation of R117 comes with the closing work, after every block's own part, and the spec
gives no order. So it finds a pump whose active THERMAL takes it from OUT_OF_SERVICE or HAND at this moment
in FAULTED (R58), and neither OUT_OF_SERVICE nor HAND_MODE activates (R59). -/
def finishStep (s : State) : State :=
  let t := { s with
    loader := { s.loader with phase := .done, checkTicks := none, busDriven := false }
    cfg := s.loader.ready }
  let t := takeMap s t
  let t := finishOverflow (finishStager (finishChannels t))
  finishAlarms (finishReporter (finishScreen (finishDuty t)))

/-! ### The meanings -/

/-- CONFIG_READ_COMPLETE (R168, R170). -/
def execConfigReadComplete (image : List Byte) (s : State) : Host.Outcome State Fault Refusal :=
  taken (attempting s && !s.loader.sdaHeld && image.length == 256) (readDone image) s

/-- ATTEMPT_FAIL (R169); with SDA still held after the bus-free step nothing is sent. -/
def execAttemptFail (cause : ReadFailure) (s : State) : Host.Outcome State Fault Refusal :=
  taken (attempting s && readFailure cause && (!s.loader.sdaHeld || beforeStart cause))
    (attemptStep cause) s

/-- RETRY_WAIT_EXPIRY (R169). -/
def execRetryWaitExpiry (sdaCells : Nat) (s : State) : Host.Outcome State Fault Refusal :=
  taken (s.loader.phase == .reading && reached s.loader.wait 1) (retryStep sdaCells) s

/-- LOADER_FINISH (R167). -/
def execLoaderFinish (s : State) : Host.Outcome State Fault Refusal :=
  taken (s.loader.phase == .checking && reached s.loader.checkTicks 1) finishStep s

end Sys2Proof.Machine
end

