-- ==== Sys2Proof/Machine/Plant.lean ====
section
/-! DEFINITION. The meanings of the commands of the plant: gates and pulses, pump, screen, rake, weir,
alarms and panel (chapters 2 to 7). -/

namespace Sys2Proof.Machine

open Sys2Proof

/-! ### Level channels (chapter 2) -/

/-- Both channels' gates ended (R31). -/
def endGates (s : State) : State :=
  { s with
    gate := s.gate - 50
    chanA := gateChannel s.cfg.calA s.cfg.q s.chanA
    chanB := gateChannel s.cfg.calB s.cfg.q s.chanB }

/-- The own stage taken, and in LINE_FAULT the local values re-formed (R48 to R50, R56). -/
def stageGate (before : ChannelMode) (s : State) : State :=
  reformLocal (setStager s { s.stager with d := stageAfterGate s before })

/-- A gate end, and its readers in turn (R31, R43). -/
def gateStep (s : State) : State :=
  overflowGate (screenGate (stageGate s.chanA.mode (endGates s)))

/-- GATE_END (R31). -/
def execGateEnd (s : State) : Host.Outcome State Fault Refusal :=
  taken (loaded s && decide (50 ≤ s.gate)) gateStep s

/-- One more pulse in the open gate (R31). -/
def pulse (c : LevelChannel) : LevelChannel := { c with count := satSucc 65535 c.count }

/-- A rising edge counted in its channel. -/
def pulseOn (c : Channel) (s : State) : State :=
  match c with
  | .a => { s with chanA := pulse s.chanA }
  | .b => { s with chanB := pulse s.chanB }

/-- LEVEL_PULSE_EDGE (R31). -/
def execLevelPulseEdge (channel : Channel) (s : State) : Host.Outcome State Fault Refusal :=
  taken (loaded s) (pulseOn channel) s

/-! ### Pump (chapter 4) -/

/-- The minimum off timer expires (R63). -/
def minOffStep (s : State) : State :=
  let s := setDuty s { s.duty with minOff := none }
  if s.duty.pump = .lockedOff ∧ loaded s then enterIdle s else s

/-- MIN_OFF_EXPIRY (R63). -/
def execMinOffExpiry (s : State) : Host.Outcome State Fault Refusal :=
  taken (reached s.duty.minOff (secondsTicks s.cfg.tMinOff)) minOffStep s

/-- The inrush timer expires (R61, R66). -/
def inrushStep (s : State) : State :=
  let s := setDuty s { s.duty with inrush := none }
  if s.duty.pump = .starting ∧ s.duty.confirmed then enterRunning s else s

/-- INRUSH_TIMER_EXPIRY (R66). -/
def execInrushTimerExpiry (s : State) : Host.Outcome State Fault Refusal :=
  taken (reached s.duty.inrush (secondsTicks s.cfg.tInrush)) inrushStep s

/-- A failed start (R66): START_FAIL is raised for 1 s. -/
def failStart (s : State) : State :=
  enterFaulted .startFail { s with alarms := { s.alarms with startFail := some 0 } }

/-- CONFIRM_TIMER_EXPIRY (R66). -/
def execConfirmTimerExpiry (s : State) : Host.Outcome State Fault Refusal :=
  taken (reached s.duty.confirm (secondsTicks s.cfg.tConfirm)) failStart s

/-- A run loss (R67): RUN_LOST is raised for 1 s. -/
def loseRun (s : State) : State :=
  enterFaulted .runLost { s with alarms := { s.alarms with runLost := some 0 } }

/-- RUN_LOSS_EXPIRY (R67). -/
def execRunLossExpiry (s : State) : Host.Outcome State Fault Refusal :=
  taken (reached s.duty.runLoss (secondsTicks 2)) loseRun s

/-- MAXRUN_REACHED (R76). -/
def execMaxrunReached (s : State) : Host.Outcome State Fault Refusal :=
  taken (s.duty.pump == .running && decide (0 < s.cfg.tMaxRun)
      && decide (minutesTicks s.cfg.tMaxRun ≤ s.duty.contRun))
    (fun s => setDuty s { s.duty with yielding := true }) s

/-- CHANGEOVER_TIMER_EXPIRY (R77). -/
def execChangeoverTimerExpiry (s : State) : Host.Outcome State Fault Refusal :=
  taken (s.duty.yielding && decide (changeoverLimit ≤ s.duty.changeover))
    (fun s => setDuty s { s.duty with changeoverBlocked := true }) s

/-- MIN_RUN_EXPIRY (R75, R86). -/
def execMinRunExpiry (s : State) : Host.Outcome State Fault Refusal :=
  taken (reached s.duty.minRun (secondsTicks s.cfg.tMinRun))
    (fun s => fallbackStop (setDuty s { s.duty with minRun := none })) s

/-- The fallback delay of address × (T_inrush + 1 s) has passed (R86). -/
def delayPassed (s : State) : Bool :=
  match s.duty.fallbackDelay with
  | .running t => decide (ownAddress s * secondsTicks (s.cfg.tInrush + 1) ≤ t)
  | .stopped => false
  | .expired => false

/-- FALLBACK_DELAY_EXPIRY (R86). -/
def execFallbackDelayExpiry (s : State) : Host.Outcome State Fault Refusal :=
  taken (delayPassed s) (fun s => setDuty s { s.duty with fallbackDelay := .expired }) s

/-- FALLBACK_START (R86). -/
def execFallbackStart (s : State) : Host.Outcome State Fault Refusal :=
  taken (fallbackReady s) startPump s

/-! ### Screen and rake (chapter 5) -/

/-- SWITCH_CLEAR_EXPIRY (R92). -/
def execSwitchClearExpiry (s : State) : Host.Outcome State Fault Refusal :=
  taken (reached s.screen.switchClear (dwellTicks s))
    (fun s => setCondition .clear (setScreen s { s.screen with switchClear := none })) s

/-- The post-rake timer expires (R92). -/
def postRakeStep (s : State) : State :=
  let s := setScreen s { s.screen with postRake := none }
  if s.screen.condition = .high then setCondition .blocked s else s

/-- POST_RAKE_EXPIRY (R92). -/
def execPostRakeExpiry (s : State) : Host.Outcome State Fault Refusal :=
  taken (reached s.screen.postRake (dwellTicks s)) postRakeStep s

/-- HIGH_ALARM_EXPIRY (R94). -/
def execHighAlarmExpiry (s : State) : Host.Outcome State Fault Refusal :=
  taken (reached s.screen.highAlarm (dwellTicks s))
    (fun s => setScreen s { s.screen with highAlarm := none, screenHigh := true }) s

/-- INTERVAL_TIMER_EXPIRY (R96). -/
def execIntervalTimerExpiry (s : State) : Host.Outcome State Fault Refusal :=
  taken (intervalReached s) expireInterval s

/-- RAKE_INRUSH_EXPIRY (R99). -/
def execRakeInrushExpiry (s : State) : Host.Outcome State Fault Refusal :=
  taken (reached s.screen.rakeInrush (secondsTicks 2))
    (fun s => setScreen s { s.screen with rakeInrush := none }) s

/-- RAKE_JAM (R100). -/
def execRakeJam (s : State) : Host.Outcome State Fault Refusal :=
  taken (s.screen.rake == .run && reached s.screen.rakeRun (secondsTicks s.cfg.tRake)) jamRake s

/-- PAUSE_TIMER_EXPIRY (R100). -/
def execPauseTimerExpiry (s : State) : Host.Outcome State Fault Refusal :=
  taken (s.screen.rake == .pause && reached s.screen.pause (secondsTicks 30))
    (fun s => setScreen s { s.screen with rake := .wait, pause := none }) s

/-! ### Overflow (chapter 6) -/

/-- PENDING_TIMER_EXPIRY (R108, R109). -/
def execPendingTimerExpiry (s : State) : Host.Outcome State Fault Refusal :=
  taken (s.ovf.state == .pending && !s.ovf.blind && reached s.ovf.pending (secondsTicks s.cfg.tOd))
    openEvent s

/-- TAIL_TIMER_EXPIRY (R110, R111). -/
def execTailTimerExpiry (s : State) : Host.Outcome State Fault Refusal :=
  taken (s.ovf.state == .tail && !s.ovf.blind && reached s.ovf.tail (minutesTicks s.cfg.tOt))
    closeEvent s

/-! ### Alarms and panel (chapter 7) -/

/-- The pulse timer of a condition (R119). -/
def pulseTimer (a : Alarms) : PulseAlarm → Timer
  | .startFail => a.startFail
  | .runLost => a.runLost
  | .rakeJam => a.rakeJam
  | .queueLoss => a.queueLoss

/-- A condition's 1 s is over (R119). -/
def endPulse (which : PulseAlarm) (s : State) : State :=
  match which with
  | .startFail => { s with alarms := { s.alarms with startFail := none } }
  | .runLost => { s with alarms := { s.alarms with runLost := none } }
  | .rakeJam => { s with alarms := { s.alarms with rakeJam := none } }
  | .queueLoss => { s with alarms := { s.alarms with queueLoss := none } }

/-- PULSE_CONDITION_END (R119). -/
def execPulseConditionEnd (which : PulseAlarm) (s : State) : Host.Outcome State Fault Refusal :=
  taken (reached (pulseTimer s.alarms which) (secondsTicks 1)) (endPulse which) s

/-- One output of the panel. -/
def outputAt (s : State) (n : Fin 8) : OutputState :=
  s.panel.outputs.getD n.val ⟨⟨0, false, .steady, 0⟩, false, none, none⟩

/-- One output replaced. -/
def setOutput (s : State) (n : Fin 8) (o : OutputState) : State :=
  { s with panel := { s.panel with outputs := s.panel.outputs.set n.val o } }

/-- STRETCH_TIMER_EXPIRY (R130). -/
def execStretchTimerExpiry (output : Fin 8) (s : State) : Host.Outcome State Fault Refusal :=
  taken (reached (outputAt s output).stretch (secondsTicks (outputAt s output).entry.stretch))
    (fun s => setOutput s output { outputAt s output with stretch := none }) s

/-- The length of a pulse: the stretch, or one tick at a stretch of 0 (R130). -/
def pulseTicks (e : OutputEntry) : Nat := if e.stretch = 0 then 1 else secondsTicks e.stretch

/-- PULSE_TIMER_EXPIRY (R130). -/
def execPulseTimerExpiry (output : Fin 8) (s : State) : Host.Outcome State Fault Refusal :=
  taken (reached (outputAt s output).pulse (pulseTicks (outputAt s output).entry))
    (fun s => setOutput s output { outputAt s output with pulse := none }) s

end Sys2Proof.Machine
end

