-- ==== Sys2Proof/Machine/Frames.lean ====
section
/-! DEFINITION. The end of a good frame: what the Line Interface reads from it (R9, R18, R24, R25),
what each block makes of it, in one order (log 9). -/

namespace Sys2Proof.Machine

open Sys2Proof

/-! ### The Line Interface (chapter 1) -/

/-- The PRESENT cell of an address (R175). -/
def presentCell (c : Cells) (a : Nat) : Bool := c.getLsbD (stationCell a)

/-- The beat-stuck count worked out from the entry as it stood (R24). -/
def beatStuckAfter (prevGood beat : Bool) (e : PeerEntry) : Nat :=
  if !e.heard || e.age != 0 then 0
  else if !prevGood then e.beatStuck
  else if beat == e.lastBeat then satSucc 3 e.beatStuck
  else 0

/-- A peer's entry after a good frame (R24). -/
def peerAfter (prevGood : Bool) (c : Cells) (a : Nat) (e : PeerEntry) : PeerEntry :=
  if presentCell c a then shownEntry c a (beatStuckAfter prevGood (c.getLsbD (stationCell a + 7)) e)
  else { e with age := satSucc 15 e.age }

/-- The peer table after a good frame (R23, R24). -/
def peersAfter (c : Cells) (s : State) : List PeerEntry :=
  addresses.map fun a =>
    if a = ownAddress s then ownEntry s else peerAfter s.line.prevGood c a (peer s a)

/-- The recessive cells read last at the end of a good frame (R21): its data cells from the 136th
back to the last dominant one, and with none dominant the closing cell of the sync as well (R3). -/
def trailingRecessive (c : Cells) : Nat :=
  ((List.range 137).takeWhile fun i => i == 136 || !c.getLsbD (135 - i)).length

/-- The frame read: the peer table, the common cells, the receiver outside the frame (R4, R9, R24), what
the station came to drive in it, the rest of each lost key released (R12), and the quiet count, which
every dominant cell of the frame has set to 0 (R21). -/
def readFrame (c : Cells) (s : State) : State :=
  setLine s { s.line with
    peers := peersAfter c s
    prevGood := true
    common := commonOf c
    receiver := .outside
    recessiveRun := 0
    quiet := trailingRecessive c
    drive := none
    driven := s.line.drive.map fun d => releaseLost d.cells c
    noticeWon := false
    driver := releasedDriver s.line.driver }

/-- The alarm view of each station whose entry has ceased to be fresh is emptied (R153). -/
def emptyStale (before s : State) : State :=
  addresses.foldl (fun t a => if freshAt before a && !freshAt s a then emptyView a t else t) s

/-- The clash check (R18): a cell of the own field other than PRESENT driven recessive reads
dominant. -/
def clashes (driven c : Cells) (own : Nat) : Bool :=
  [1, 2, 3, 4, 5, 6, 7].any fun i =>
    !driven.getLsbD (stationCell own + i) && c.getLsbD (stationCell own + i)

/-- Some entry other than the own one is fresh (R25). -/
def otherFresh (s : State) : Bool := addresses.any fun a => a != ownAddress s && freshAt s a

/-- The ALONE count and its condition (R25). -/
def countAlone (s : State) : State :=
  if otherFresh s then setLine s { s.line with aloneCount := 0, alone := false }
  else setLine s { s.line with aloneCount := satSucc 10 s.line.aloneCount }

/-- The runs and counts of the line state at a good frame end (R7, R15, R17, R18, R21). DESIGN CHOICE
(log 33): where a clash and a third presence failure come at one frame end, the clash isolates the
station at this step, and PRESENCE_FAULT is then passed over. -/
def countLine (c : Cells) (drive : Option Drive) (s : State) : State :=
  let own := ownAddress s
  match s.line.mode with
  | .listen =>
    if presentCell c own then
      setLine s { s.line with goodRun := 0, ownCount := satSucc 2 s.line.ownCount }
    else setLine s { s.line with goodRun := satSucc 5 s.line.goodRun }
  | .joined =>
    let s := countAlone (setLine s { s.line with
      presenceFail := if presentCell c own then 0 else satSucc 3 s.line.presenceFail })
    match drive with
    | some d => if clashes d.cells c own then enterIsolated s else s
    | none => s
  | .lineFault => setLine s { s.line with faultGood := satSucc 10 s.line.faultGood }
  | .isolated => s

/-! ### Claim results (R13) -/

/-- The start claim of a block was won: its key was driven and the field reads as it. -/
def startWon (b : Claimant) (c : Cells) (drive : Option Drive) : Bool :=
  match drive with
  | some d => d.startKey == some (b, startField c)
  | none => false

/-- All 40 cells of the notice body and check read back as driven (R13). -/
def noticeReadBack (driven c : Cells) : Bool :=
  (List.range 40).all fun j => c.getLsbD (96 + j) == driven.getLsbD (96 + j)

/-- The result of the notice claim at a good frame end (R13). -/
def goodNotice (won : Bool) (c : Cells) (d : Drive) : NoticeResult :=
  if !won then .lost
  else if noticeReadBack d.cells c then .carried
  else .notCarried

/-- The notice claim's result handed to the Notice Unit (R138). -/
def handResult (won : Bool) (c : Cells) (drive : Option Drive) (s : State) : State :=
  match drive with
  | some d => if d.noticeKey.isSome then noticeResult (goodNotice won c d) s else s
  | none => s

/-- The rake's claim result in RK_WAIT (R98). -/
def rakeFrame (won : Bool) (c : CommonCells) (s : State) : State :=
  if s.screen.rake == .wait && s.line.mode == .joined && won && !c.inrush && !c.supplyLow
      && !c.allStop && s.duty.supplyQuiet == 51 && !rakeStop s then
    startRake s
  else s

/-- The reporter's claim result, in JOINED (R146, R147). -/
def reporterResult (c : Cells) (drive : Option Drive) (s : State) : State :=
  if s.line.mode = .joined then reporterFrame (reportField c) (drive.bind (·.reportKey)) s else s

/-! ### Notices received (R140 to R142, R144) -/

/-- Notices, ACK and holders are read in every line state but LINE_FAULT (R124, R140, R144). -/
def readsHouse (s : State) : Bool := s.line.mode != .lineFault

/-- The valid notice of a frame, if it carries one (R140). -/
def noticeOf (c : Cells) : Option Received :=
  if noticeField c ≠ 15 ∧ crc8 (bodyField c) = checkField c then receivedOf (bodyField c) else none

/-- The code of a COMMAND to an address. -/
def commandFor (own : Nat) (n : Option Received) : Option Nat :=
  match n with
  | some r => if r.kind = .command ∧ r.subject = own then some r.code else none
  | none => none

/-- The notice of the frame taken: a bad check or bad fields counted, a valid notice handed to the
reporter, and a COMMAND for this bay to the command check (R140 to R142). -/
def receiveNotice (c : Cells) (s : State) : State :=
  if readsHouse s then
    let n := noticeOf c
    let s := { s with notices := { s.notices with
      command := commandFor (ownAddress s) n
      checkFail :=
        if noticeField c ≠ 15 ∧ n = none then satSucc 255 s.notices.checkFail
        else s.notices.checkFail } }
    match n with
    | some r => if takesNotices s.reporter then recordNotice r s else s
    | none => s
  else s

/-- The counts that follow the notice of the frame (R153, R165): every waiting OVERFLOW_END, and a
command carried before this frame end. -/
def countAfterNotice (carried : Bool) (s : State) : State :=
  let s := if readsHouse s then countPairing s else s
  if carried then countCommand s else s

/-- The pending command had been carried. -/
def carriedBefore (s : State) : Bool := s.reporter.command.any (·.carried)

/-- The holder of the frame: RP_HOLD dominant (R144). -/
def holderOf (c : Cells) : Option Nat :=
  if c.getLsbD 20 then some (numericField c 21 3) else none

/-- A new holder brings the refresh (R144). -/
def refresh (c : Cells) (s : State) : State :=
  match holderOf c with
  | none => s
  | some h =>
    if readsHouse s && s.notices.lastHolder != some h then
      handAll { s with notices := { s.notices with lastHolder := some h } } (refreshEntries s)
    else s

/-- A code whose change of this frame end is taken before the acknowledgment (R124). -/
def changeFirst (s : State) (k : AlarmCode) : Bool := !Config.ackFirst s.free (codeNumber k)

/-- The ACK cell read dominant takes an acknowledgment, before or after each condition change of the
same frame end (R124); the panel follows the changes that come before, and those that come after are
taken with the closing work. DESIGN CHOICE (log 7): a change that a follow-up row of the frame end brings
(log 4) comes after the acknowledgment. -/
def acknowledgeFrame (c : Cells) (s : State) : State :=
  if c.getLsbD 11 && readsHouse s then
    acknowledge (takeChanges (changeFirst s) s)
  else s

/-! ### The whole -/

/-- A COMMAND with code 1 for this bay is in the frame and is taken before the won claim (R84). -/
def inhibitTakenFirst (c : Cells) (s : State) : Bool :=
  readsHouse s && commandFor (ownAddress s) (noticeOf c) == some 1 && s.duty.mode == .auto
    && Config.inhibitFirst s.free

/-- The blocks that read the plant's cells: demand, holds, duty, screen. -/
def plantFrame (c : Cells) (drive : Option Drive) (s : State) : State :=
  let cells := commonOf c
  let joined := s.line.mode == .joined
  let s := applyRakeStop (applyHold (formDemand c s))
  let s := dutyFrame (joined && startWon .duty c drive && !inhibitTakenFirst c s) cells s
  rakeFrame (startWon .screen c drive) cells (retakeFlush s)

/-- The Notice Unit and the Telemetry Reporter. -/
def houseFrame (won : Bool) (c : Cells) (drive : Option Drive) (s : State) : State :=
  let carried := carriedBefore s
  let s := reporterResult c drive (handResult won c drive s)
  refresh c (countAfterNotice carried (receiveNotice c s))

/-- The end of a good frame (R9). -/
def frameEnd (c : Cells) (s : State) : State :=
  let drive := s.line.drive
  let won := s.line.noticeWon
  let s' := countLine c drive (emptyStale s (readFrame c s))
  let s' := acknowledgeFrame c (houseFrame won c drive (plantFrame c drive s'))
  { s' with free := s'.free + 1 }

end Sys2Proof.Machine
end

