-- ==== Sys2Proof/Machine/Station.lean ====
section
/-! DEFINITION. The meanings of the commands of the station line: syncs, frames, the receiver's
conditions, changes of line state, and what follows a frame end (chapters 1, 4, 8). -/

namespace Sys2Proof.Machine

open Sys2Proof

/-! ### Frames and syncs -/

/-- FRAME_TIMER_EXPIRY (R5, R6). -/
def execFrameTimerExpiry (s : State) : Host.Outcome State Fault Refusal :=
  taken (captured s && !s.line.frameExpired && decide (1000 + 3 * ownAddress s ≤ s.line.frameCells))
    (fun s => setLine s { s.line with frameExpired := true, due := s.line.mode == .joined }) s

/-- SYNC_DRIVE (R5, R6): the frame timer restarts at the start of the attempt. -/
def execSyncDrive (s : State) : Host.Outcome State Fault Refusal :=
  taken (s.line.mode == .joined && s.line.due && lineIdleNow s.line && !s.line.syncDriving)
    (fun s => setLine s { s.line with frameCells := 0, syncDriving := true, driver := .driving }) s

/-- SYNC_ATTEMPT_FAIL (R5, R7). -/
def execSyncAttemptFail (s : State) : Host.Outcome State Fault Refusal :=
  taken s.line.syncDriving failSync s

/-- SYNC_LEADING_EDGE (R4, R9). -/
def execSyncLeadingEdge (s : State) : Host.Outcome State Fault Refusal :=
  taken (lineIdleNow s.line) frameStart s

/-- The claim field reads back as the key driven, in a frame in progress. -/
def noticeWins (field : BitVec 4) (s : State) : Bool :=
  s.line.receiver == .inside && !s.line.noticeWon
    && s.line.drive.any fun d => d.noticeKey == some field.toNat

/-- NOTICE_CLAIM_WON (R13, R137). -/
def execNoticeClaimWon (field : BitVec 4) (s : State) : Host.Outcome State Fault Refusal :=
  taken (noticeWins field s) winNotice s

/-- GOOD_FRAME_END (R8, R9). -/
def execGoodFrameEnd (run : Nat) (cells : Cells) (s : State) : Host.Outcome State Fault Refusal :=
  taken (s.line.receiver == .inside && goodRun run) (frameEnd cells) s

/-- The recessive cells read last where a sync of `run` dominant cells is found bad: the one that ends a
short run, none at the seventh dominant cell (R8, R21). -/
def quietAfterRun (run : Nat) : Nat := if run ≤ 3 then 1 else 0

/-- BAD_FRAME (R8). -/
def execBadFrame (run : Nat) (s : State) : Host.Outcome State Fault Refusal :=
  taken (s.line.receiver == .inside && badRun run) (badFrameEnd (quietAfterRun run)) s

/-! ### The receiver (R4) -/

/-- LINE_IDLE (R4). -/
def execLineIdle (cells : Nat) (s : State) : Host.Outcome State Fault Refusal :=
  taken (s.line.receiver == .outside && decide (10 ≤ cells))
    (fun s => setLine s { s.line with recessiveRun := cells }) s

/-- RECEIVER_IN_STEP (R4). -/
def execReceiverInStep (cells : Nat) (s : State) : Host.Outcome State Fault Refusal :=
  taken (captured s && s.line.receiver == .searching && decide (150 ≤ cells))
    (fun s => setLine s { s.line with receiver := .outside, recessiveRun := cells }) s

/-- DOMINANT_CELL_BEFORE_IDLE (R4, R21). -/
def execDominantCellBeforeIdle (s : State) : Host.Outcome State Fault Refusal :=
  taken (captured s && s.line.receiver != .inside && !lineIdleNow s.line)
    (fun s => setLine s { s.line with receiver := .searching, recessiveRun := 0, quiet := 0 }) s

/-! ### Line states (1.5) -/

/-- JOIN (R15). -/
def execJoin (s : State) : Host.Outcome State Fault Refusal :=
  taken (s.line.mode == .listen && decide (5 ≤ s.line.goodRun)) (enterJoined false) s

/-- OWN_ADDRESS_ISOLATE (R17). -/
def execOwnAddressIsolate (s : State) : Host.Outcome State Fault Refusal :=
  taken (s.line.mode == .listen && decide (2 ≤ s.line.ownCount)) enterIsolated s

/-- PRESENCE_FAULT (R7). -/
def execPresenceFault (s : State) : Host.Outcome State Fault Refusal :=
  taken (s.line.mode == .joined && decide (3 ≤ s.line.presenceFail)) enterLineFault s

/-- JABBER_TRIP (R19). -/
def execJabberTrip (cells : Nat) (s : State) : Host.Outcome State Fault Refusal :=
  taken (captured s && s.line.mode != .isolated && decide (160 < cells))
    (fun s => enterIsolated (setLine s { s.line with jabber := cells })) s

/-- The stuck condition begins (R20): the receiver searches, and LISTEN or JOINED is left. A frame in
progress is bad in every line state (R8, log 17). -/
def becomeStuck (cells : Nat) (s : State) : State :=
  let s := if s.line.mode = .listen ∨ s.line.mode = .joined then enterLineFault s else breakFrame s
  setLine s { s.line with
    stuck := cells, quiet := 0, receiver := .searching, recessiveRun := 0 }

/-- STUCK_CONDITION (R20). -/
def execStuckCondition (cells : Nat) (s : State) : Host.Outcome State Fault Refusal :=
  taken (captured s && !stuckNow s.line && decide (160 < cells)) (becomeStuck cells) s

/-- STUCK_CONDITION_CLEAR (R20, R21): the line reads recessive. -/
def execStuckConditionClear (s : State) : Host.Outcome State Fault Refusal :=
  taken (stuckNow s.line) (fun s => setLine s { s.line with stuck := 0, quiet := 0 }) s

/-- SILENCE_TIMER_EXPIRY (R16). -/
def execSilenceTimerExpiry (s : State) : Host.Outcome State Fault Refusal :=
  taken (captured s && s.line.mode == .listen && decide (3000 ≤ s.line.silenceCells))
    (enterJoined true) s

/-- LINE_FAULT_FRAMES_RECOVER (R21). -/
def execLineFaultFramesRecover (s : State) : Host.Outcome State Fault Refusal :=
  taken (s.line.mode == .lineFault && decide (10 ≤ s.line.faultGood)) enterListen s

/-- LINE_FAULT_QUIET_RECOVER (R21): 3000 recessive cells in a row, as reported and as counted since the
entry to LINE_FAULT, the last dominant cell or the end of the stuck condition. -/
def execLineFaultQuietRecover (cells : Nat) (s : State) : Host.Outcome State Fault Refusal :=
  taken (s.line.mode == .lineFault && !stuckNow s.line && s.line.receiver != .inside
      && decide (3000 ≤ cells) && decide (3000 ≤ s.line.quiet)) enterListen s

/-- ALONE_DETECT (R25). -/
def execAloneDetect (s : State) : Host.Outcome State Fault Refusal :=
  taken (s.line.mode == .joined && decide (10 ≤ s.line.aloneCount))
    (fun s => setLine s { s.line with alone := true }) s

/-! ### The lead after a frame end (R82, R83) -/

/-- The handover of R82: acted on as at a cycle end, the count to 0 where a new lead is found. DESIGN
CHOICE (log 9): where the bay gave the lead up to a lower one at the same frame end (R83) and is itself
the next lead, the handover, a row that follows the frame end, lets it take the lead again. -/
def passOver (s : State) : State :=
  match nextLead s with
  | none => s
  | some _ =>
    let s := handOver s
    setDuty s { s.duty with leadUnusable := 0 }

/-- LEAD_UNUSABLE_HANDOVER (R82). -/
def execLeadUnusableHandover (s : State) : Host.Outcome State Fault Refusal :=
  taken (s.line.mode == .joined && decide (50 ≤ s.duty.leadUnusable)) passOver s

/-- The bay's address is the lowest among the fresh entries that show AVAILABLE (R83). -/
def lowestAvailable (s : State) : Bool :=
  (addresses.find? fun a => freshAt s a && (peer s a).available) == some (ownAddress s)

/-- NO_LEAD_TAKE (R83), by the availability of the frame end it belongs to (R70, items 3 and 4). -/
def execNoLeadTake (s : State) : Host.Outcome State Fault Refusal :=
  taken (s.line.mode == .joined && decide (3 ≤ s.duty.noLead) && s.duty.availableAtEnd
      && lowestAvailable s)
    (fun s => setDuty s { s.duty with holdsLead := true }) s

/-! ### Notices after a frame end (R138, R142) -/

/-- NOTICE_DROP (R138). -/
def execNoticeDrop (s : State) : Host.Outcome State Fault Refusal :=
  taken (s.notices.queue.any spent) dropSpent s

/-- A COMMAND applied: its COMMAND_RESULT is handed (R142), before the ALARM notice of OUT_OF_SERVICE that
the same command brings: chapter 9 has that notice follow it where the inhibit is set (the example after
R165). DEDUCED (log 50): so too where the inhibit is cleared. -/
def answerCommand (code result : Nat) (s : State) : State :=
  handNotice { s with notices := { s.notices with command := none } }
    (newEntry .commandResult (ownAddress s) code result 0 true)

/-- COMMAND_SET_INHIBIT (R84, R142). -/
def execCommandSetInhibit (s : State) : Host.Outcome State Fault Refusal :=
  taken (s.notices.command == some 1) (fun s => answerCommand 1 0 (setInhibit s)) s

/-- COMMAND_CLEAR_INHIBIT (R84, R142). -/
def execCommandClearInhibit (s : State) : Host.Outcome State Fault Refusal :=
  taken (s.notices.command == some 2) (fun s => answerCommand 2 0 (clearInhibit s)) s

/-- COMMAND_OTHER_CODE (R142). -/
def execCommandOtherCode (s : State) : Host.Outcome State Fault Refusal :=
  taken (s.notices.command.any fun c => c != 1 && c != 2)
    (fun s => answerCommand (s.notices.command.getD 0) 1 s) s

end Sys2Proof.Machine
end

