-- ==== Sys2Proof/Machine/Town.lean ====
section
/-! DEFINITION. The meanings of the commands of the reporter's role and of the telemetry port
(chapter 9). -/

namespace Sys2Proof.Machine

open Sys2Proof

/-! ### The role and its counts -/

/-- A waiting OVERFLOW_END has counted 20 (R153). -/
def pairingDue (s : State) (a : Nat) : Bool :=
  (waitingEndOf s a).any fun w => decide (20 ≤ w.count)

/-- The timed-out OVERFLOW_END builds its event, without a duration (R153). -/
def pairingStep (a : Nat) (s : State) : State :=
  match waitingEndOf s a with
  | some w => buildOverflowEvent a w 0 none s
  | none => s

/-- PAIRING_TIMEOUT (R153). -/
def execPairingTimeout (subject : Fin 8) (s : State) : Host.Outcome State Fault Refusal :=
  taken (pairingDue s subject.val) (pairingStep subject.val) s

/-- HOLD_QUIET_CLAIM (R146). -/
def execHoldQuietClaim (s : State) : Host.Outcome State Fault Refusal :=
  taken (s.reporter.mode == .standby && s.line.mode == .joined && ownAddress s != 7
      && decide (3 ≤ s.reporter.holdQuiet))
    (fun s => setReporter s { s.reporter with mode := .claiming }) s

/-- OPEN_FIELD_ACTIVE (R146, R148). -/
def execOpenFieldActive (s : State) : Host.Outcome State Fault Refusal :=
  taken (s.reporter.mode == .standby && s.line.mode == .joined && ownAddress s == 7
      && decide (6 ≤ s.reporter.openField)) enterActive s

/-- COMMAND_TIMEOUT (R165). -/
def execCommandTimeout (s : State) : Host.Outcome State Fault Refusal :=
  taken (s.reporter.command.any fun c => c.carried && decide (20 ≤ c.count))
    (endCommand (.refused 4)) s

/-! ### Town messages (R150, R151, R158 to R165) -/

/-- TOWN_MESSAGE_INVALID (R150). -/
def execTownMessageInvalid (chars : List Byte) (s : State) : Host.Outcome State Fault Refusal :=
  taken (listening s && foundInvalid s.cfg.house chars) (countBadMessage (some 0)) s

/-- CHARACTER_GAP_TIMEOUT (R150), also while a message is sent (R149): the port is free 20 ms after a
character, and a partial message begun before TEL_KEY rose is dropped after more than 20 ms. -/
def execCharacterGapTimeout (chars : List Byte) (s : State) : Host.Outcome State Fault Refusal :=
  taken (s.reporter.mode == .active && partialMessage chars) (countBadMessage none) s

/-- The characters spell, while the receiver listens, a valid message whose type satisfies `p`. -/
def validMessage (p : Nat → Bool) (chars : List Byte) (s : State) : Bool :=
  listening s && (parseTown s.cfg.house chars).any fun m => p m.type

/-- A valid message's effect: the link comes UP, then the message is taken (R150, R151, R158). -/
def takeMessage (isPoll : Bool) (chars : List Byte) (act : TownMessage → State → State) (s : State) :
    State :=
  match parseTown s.cfg.house chars with
  | some m => act m (validTaken isPoll s)
  | none => s

/-- POLL (R159). -/
def takePoll (m : TownMessage) (s : State) : State := answering m 3 true (owe .poll m) s

/-- TOWN_POLL (R159). -/
def execTownPoll (chars : List Byte) (s : State) : Host.Outcome State Fault Refusal :=
  taken (validMessage (· == 1) chars s) (takeMessage true chars takePoll) s

/-- TOWN_ACK (R158). -/
def execTownAck (chars : List Byte) (s : State) : Host.Outcome State Fault Refusal :=
  taken (validMessage (· == 2) chars s) (takeMessage false chars takeAck) s

/-- DUMP (R162). -/
def takeDump (m : TownMessage) (s : State) : State :=
  answering m 6 (decide (bodyByte m 2 ≤ 15)) (startDump m) s

/-- TOWN_DUMP (R162). -/
def execTownDump (chars : List Byte) (s : State) : Host.Outcome State Fault Refusal :=
  taken (validMessage (· == 3) chars s) (takeMessage false chars takeDump) s

/-- INHIBIT and RELEASE, by the code of their COMMAND (R165). -/
def takeRelay (code : Nat) (m : TownMessage) (s : State) : State :=
  answering m 4 (decide (bodyByte m 0 ≤ 7)) (relayCommand code m) s

/-- TOWN_INHIBIT (R165). -/
def execTownInhibit (chars : List Byte) (s : State) : Host.Outcome State Fault Refusal :=
  taken (validMessage (· == 4) chars s) (takeMessage false chars (takeRelay 1)) s

/-- TOWN_RELEASE (R165). -/
def execTownRelease (chars : List Byte) (s : State) : Host.Outcome State Fault Refusal :=
  taken (validMessage (· == 5) chars s) (takeMessage false chars (takeRelay 2)) s

/-- The clock set, its minute restarted (R154, R160). -/
def setClock (m : TownMessage) (s : State) : State :=
  owe .done m (setReporter s { s.reporter with clock := some ⟨bodyWord m 0, bodyWord m 2, 0⟩ })

/-- CLOCK (R160). -/
def takeClock (m : TownMessage) (s : State) : State :=
  answering m 7 (decide (bodyWord m 2 < 1440)) (setClock m) s

/-- TOWN_CLOCK (R160). -/
def execTownClock (chars : List Byte) (s : State) : Host.Outcome State Fault Refusal :=
  taken (validMessage (· == 6) chars s) (takeMessage false chars takeClock) s

/-- An enable after an action: 1 on, 2 off, 0 left (R160). -/
def enableAfter (action : Nat) (was : Bool) : Bool :=
  match action with
  | 1 => true
  | 2 => false
  | _ => was

/-- Both enables set (R160). -/
def setEnables (m : TownMessage) (s : State) : State :=
  owe .done m (setReporter s { s.reporter with
    urgentEnable := enableAfter (bodyByte m 0) s.reporter.urgentEnable
    routineEnable := enableAfter (bodyByte m 1) s.reporter.routineEnable })

/-- REPORTING (R160). -/
def takeReporting (m : TownMessage) (s : State) : State :=
  answering m 5 (decide (bodyByte m 0 ≤ 2) && decide (bodyByte m 1 ≤ 2)) (setEnables m) s

/-- TOWN_REPORTING (R160). -/
def execTownReporting (chars : List Byte) (s : State) : Host.Outcome State Fault Refusal :=
  taken (validMessage (· == 7) chars s) (takeMessage false chars takeReporting) s

/-- A type not in the table (R151). -/
def takeUnknown (m : TownMessage) (s : State) : State :=
  if answerRoom s then owe (.refused 1) m s else s

/-- TOWN_UNKNOWN_TYPE (R151). -/
def execTownUnknownType (chars : List Byte) (s : State) : Host.Outcome State Fault Refusal :=
  taken (validMessage (fun t => t == 0 || decide (7 < t)) chars s)
    (takeMessage false chars takeUnknown) s

/-! ### The port (R149, R152, R158) -/

/-- The port given to the first use that is ready (R152). -/
def portStep (s : State) : State :=
  match portUse s.reporter with
  | some u => givePort u s
  | none => s

/-- PORT_SEND (R152). -/
def execPortSend (s : State) : Host.Outcome State Fault Refusal :=
  taken (s.reporter.mode == .active && portFree s.reporter && (portUse s.reporter).isSome) portStep s

/-- The key-up delay has passed (R149). -/
def keyUpPassed (s : State) : Bool :=
  match s.reporter.port with
  | .keyUp t => decide (s.cfg.keyUp ≤ t)
  | .sending _ => false
  | .idle => false

/-- KEY_UP_DELAY_EXPIRY (R149). -/
def execKeyUpDelayExpiry (s : State) : Host.Outcome State Fault Refusal :=
  taken (keyUpPassed s) (fun s => setReporter s { s.reporter with port := .sending 0 }) s

/-- The last stop bit can have been sent: ten bit times a character at the baud (R149, log 14). -/
def sendingPassed (s : State) : Bool :=
  match s.reporter.port with
  | .sending t => decide (1000 * s.reporter.message.length ≤ (t + 1) * baudOf s.cfg.baudCode)
  | .keyUp _ => false
  | .idle => false

/-- TRANSMIT_END (R149, R158). -/
def execTransmitEnd (s : State) : Host.Outcome State Fault Refusal :=
  taken (sendingPassed s) endTransmit s

/-- The T_a timer has reached T_a (R158). -/
def taPassed (s : State) : Bool :=
  s.reporter.flight.any fun f => reached f.ta (secondsTicks s.cfg.ta)

/-- T_A_EXPIRY (R158). -/
def execTAExpiry (s : State) : Host.Outcome State Fault Refusal :=
  taken (taPassed s)
    (fun s => match s.reporter.flight with
      | some f => expireTa f s
      | none => s) s

end Sys2Proof.Machine
end

