-- ==== Sys2Proof/Machine/Dispatch.lean ====
section
/-! DEFINITION. One arm per command: its meaning. -/

namespace Sys2Proof.Machine

open Sys2Proof

def exec (i : Instr) (s : State) : Host.Outcome State Fault Refusal :=
  match i with
  | .reset => Sys2Proof.Machine.execReset s
  | .tick pins straps => Sys2Proof.Machine.execTick pins straps s
  | .inputAcceptedChange input => Sys2Proof.Machine.execInputAcceptedChange input s
  | .timeBaseSecond => Sys2Proof.Machine.execTimeBaseSecond s
  | .hourlyPoint => Sys2Proof.Machine.execHourlyPoint s
  | .clockMinute => Sys2Proof.Machine.execClockMinute s
  | .startsWindowStampExpiry => Sys2Proof.Machine.execStartsWindowStampExpiry s
  | .configReadComplete image => Sys2Proof.Machine.execConfigReadComplete image s
  | .attemptFail cause => Sys2Proof.Machine.execAttemptFail cause s
  | .retryWaitExpiry sdaCells => Sys2Proof.Machine.execRetryWaitExpiry sdaCells s
  | .loaderFinish => Sys2Proof.Machine.execLoaderFinish s
  | .frameTimerExpiry => Sys2Proof.Machine.execFrameTimerExpiry s
  | .syncDrive => Sys2Proof.Machine.execSyncDrive s
  | .syncAttemptFail => Sys2Proof.Machine.execSyncAttemptFail s
  | .syncLeadingEdge => Sys2Proof.Machine.execSyncLeadingEdge s
  | .noticeClaimWon field => Sys2Proof.Machine.execNoticeClaimWon field s
  | .goodFrameEnd run cells => Sys2Proof.Machine.execGoodFrameEnd run cells s
  | .badFrame run => Sys2Proof.Machine.execBadFrame run s
  | .lineIdle cells => Sys2Proof.Machine.execLineIdle cells s
  | .receiverInStep cells => Sys2Proof.Machine.execReceiverInStep cells s
  | .join => Sys2Proof.Machine.execJoin s
  | .ownAddressIsolate => Sys2Proof.Machine.execOwnAddressIsolate s
  | .presenceFault => Sys2Proof.Machine.execPresenceFault s
  | .jabberTrip cells => Sys2Proof.Machine.execJabberTrip cells s
  | .stuckCondition cells => Sys2Proof.Machine.execStuckCondition cells s
  | .silenceTimerExpiry => Sys2Proof.Machine.execSilenceTimerExpiry s
  | .lineFaultFramesRecover => Sys2Proof.Machine.execLineFaultFramesRecover s
  | .lineFaultQuietRecover cells => Sys2Proof.Machine.execLineFaultQuietRecover cells s
  | .aloneDetect => Sys2Proof.Machine.execAloneDetect s
  | .leadUnusableHandover => Sys2Proof.Machine.execLeadUnusableHandover s
  | .noLeadTake => Sys2Proof.Machine.execNoLeadTake s
  | .noticeDrop => Sys2Proof.Machine.execNoticeDrop s
  | .commandSetInhibit => Sys2Proof.Machine.execCommandSetInhibit s
  | .commandClearInhibit => Sys2Proof.Machine.execCommandClearInhibit s
  | .commandOtherCode => Sys2Proof.Machine.execCommandOtherCode s
  | .pairingTimeout subject => Sys2Proof.Machine.execPairingTimeout subject s
  | .holdQuietClaim => Sys2Proof.Machine.execHoldQuietClaim s
  | .openFieldActive => Sys2Proof.Machine.execOpenFieldActive s
  | .commandTimeout => Sys2Proof.Machine.execCommandTimeout s
  | .gateEnd => Sys2Proof.Machine.execGateEnd s
  | .minOffExpiry => Sys2Proof.Machine.execMinOffExpiry s
  | .inrushTimerExpiry => Sys2Proof.Machine.execInrushTimerExpiry s
  | .confirmTimerExpiry => Sys2Proof.Machine.execConfirmTimerExpiry s
  | .runLossExpiry => Sys2Proof.Machine.execRunLossExpiry s
  | .maxrunReached => Sys2Proof.Machine.execMaxrunReached s
  | .changeoverTimerExpiry => Sys2Proof.Machine.execChangeoverTimerExpiry s
  | .minRunExpiry => Sys2Proof.Machine.execMinRunExpiry s
  | .fallbackDelayExpiry => Sys2Proof.Machine.execFallbackDelayExpiry s
  | .fallbackStart => Sys2Proof.Machine.execFallbackStart s
  | .switchClearExpiry => Sys2Proof.Machine.execSwitchClearExpiry s
  | .postRakeExpiry => Sys2Proof.Machine.execPostRakeExpiry s
  | .highAlarmExpiry => Sys2Proof.Machine.execHighAlarmExpiry s
  | .intervalTimerExpiry => Sys2Proof.Machine.execIntervalTimerExpiry s
  | .rakeInrushExpiry => Sys2Proof.Machine.execRakeInrushExpiry s
  | .rakeJam => Sys2Proof.Machine.execRakeJam s
  | .pauseTimerExpiry => Sys2Proof.Machine.execPauseTimerExpiry s
  | .pendingTimerExpiry => Sys2Proof.Machine.execPendingTimerExpiry s
  | .tailTimerExpiry => Sys2Proof.Machine.execTailTimerExpiry s
  | .pulseConditionEnd which => Sys2Proof.Machine.execPulseConditionEnd which s
  | .stretchTimerExpiry output => Sys2Proof.Machine.execStretchTimerExpiry output s
  | .pulseTimerExpiry output => Sys2Proof.Machine.execPulseTimerExpiry output s
  | .townMessageInvalid chars => Sys2Proof.Machine.execTownMessageInvalid chars s
  | .characterGapTimeout chars => Sys2Proof.Machine.execCharacterGapTimeout chars s
  | .townPoll chars => Sys2Proof.Machine.execTownPoll chars s
  | .townAck chars => Sys2Proof.Machine.execTownAck chars s
  | .townDump chars => Sys2Proof.Machine.execTownDump chars s
  | .townInhibit chars => Sys2Proof.Machine.execTownInhibit chars s
  | .townRelease chars => Sys2Proof.Machine.execTownRelease chars s
  | .townClock chars => Sys2Proof.Machine.execTownClock chars s
  | .townReporting chars => Sys2Proof.Machine.execTownReporting chars s
  | .townUnknownType chars => Sys2Proof.Machine.execTownUnknownType chars s
  | .portSend => Sys2Proof.Machine.execPortSend s
  | .keyUpDelayExpiry => Sys2Proof.Machine.execKeyUpDelayExpiry s
  | .transmitEnd => Sys2Proof.Machine.execTransmitEnd s
  | .tAExpiry => Sys2Proof.Machine.execTAExpiry s
  | .dominantCellBeforeIdle => Sys2Proof.Machine.execDominantCellBeforeIdle s
  | .stuckConditionClear => Sys2Proof.Machine.execStuckConditionClear s
  | .levelPulseEdge channel => Sys2Proof.Machine.execLevelPulseEdge channel s

end Sys2Proof.Machine
end

