-- ==== Sys2Proof/Safety.lean ====
section
/-! DEFINITION. What a safe state is, in the terms the statements use: the invariants of each block,
and what may follow an event beside its own effect. -/

namespace Sys2Proof.Machine

open Sys2Proof

/-! ### Input Conditioner -/

/-- Fifteen inputs (R28); no change is accepted before the first tick has taken them. -/
def InputSafe (s : State) : Prop :=
  s.inputs.length = 15 ∧ (captured s = false → s.inputs.all (!·.due) = true)

/-! ### Duty Controller -/

/-- A closed contactor is in a running state with no hold and the loader finished; a running state has
it closed, and HAND has it closed unless held (R58, R61, R62). A yielding pump is RUNNING (R76). The
timers of a run run only in it (R62, R66, R67). A BLOCKED screen has no automatic run (R80). -/
def PumpSafe (s : State) : Prop :=
  (s.duty.contactor = true →
      (s.duty.pump = .starting ∨ s.duty.pump = .running ∨ s.duty.pump = .hand)
        ∧ stopHold s = false ∧ loaded s = true)
  ∧ (s.duty.pump = .starting ∨ s.duty.pump = .running → s.duty.contactor = true)
  ∧ (s.duty.pump = .hand → stopHold s = false → loaded s = true → s.duty.contactor = true)
  ∧ (s.duty.pump = .idle ∨ s.duty.pump = .startWait → loaded s = true)
  ∧ (s.duty.yielding = true → s.duty.pump = .running)
  ∧ (s.duty.changeoverBlocked = true → s.duty.yielding = true)
  ∧ (s.duty.inrush ≠ none → s.duty.contactor = true)
  ∧ (s.duty.minRun ≠ none → s.duty.pump = .starting ∨ s.duty.pump = .running)
  ∧ (s.duty.confirm ≠ none → s.duty.pump = .starting ∧ s.duty.confirmed = false)
  ∧ (s.duty.runLoss ≠ none → s.duty.confirmed = true)
  ∧ (s.duty.confirmed = true → s.duty.pump = .starting ∨ s.duty.pump = .running)
  ∧ (s.screen.condition = .blocked → s.duty.pump ≠ .starting ∧ s.duty.pump ≠ .running)

/-- The pump's state answers its mode and its inhibit flag (R59, R84), and it is FAULTED exactly while
its cause set holds a code (R64). Nothing is known of the house before the straps are captured. -/
def ModeSafe (s : State) : Prop :=
  (s.duty.mode = .off → s.duty.pump = .outOfService ∨ s.duty.pump = .faulted)
  ∧ (s.duty.mode = .hand → s.duty.pump = .hand ∨ s.duty.pump = .faulted)
  ∧ (s.duty.mode = .auto → s.duty.pump ≠ .hand)
  ∧ (s.duty.mode = .auto → s.duty.inhibit = true →
      s.duty.pump = .outOfService ∨ s.duty.pump = .faulted)
  ∧ (s.duty.mode = .auto → s.duty.pump = .outOfService → s.duty.inhibit = true)
  ∧ (s.duty.pump = .faulted ↔ s.duty.causes ≠ [])
  ∧ (∀ c ∈ s.duty.causes, c = .thermalTrip ∨ c = .startFail ∨ c = .runLost)
  ∧ (captured s = false →
      s.line.receiver = .searching ∧ s.notices.command = none ∧ s.duty.inhibit = false
        ∧ s.duty.causes = [])

/-- The changeover timer counts to 120 s at most, is 0 while yielding is clear, and stays at 120 s while
the changeover is blocked (R77). -/
def ChangeoverSafe (s : State) : Prop :=
  s.duty.changeover ≤ changeoverLimit
  ∧ (s.duty.yielding = false → s.duty.changeover = 0)
  ∧ (s.duty.changeoverBlocked = true → s.duty.changeover = changeoverLimit)

/-- The starts window holds at most N_s stamps, and none before the loader finishes (R78). -/
def WindowSafe (s : State) : Prop :=
  s.duty.window.length ≤ s.cfg.startsPerHour ∧ (loaded s = false → s.duty.window = [])

/-- The bay is available (R68): IDLE or START_WAIT, JOINED, the screen not BLOCKED, the starts window not
full (R78), not inhibited, and MOISTURE not barring it by policy 1 or 2 (R79). -/
def IsAvailable (s : State) : Prop :=
  (s.duty.pump = .idle ∨ s.duty.pump = .startWait) ∧ s.line.mode = .joined
  ∧ s.screen.condition ≠ .blocked
  ∧ (s.cfg.startsPerHour = 0 ∨ s.duty.window.length < s.cfg.startsPerHour)
  ∧ s.duty.inhibit = false
  ∧ (s.cfg.moisturePolicy = 0 ∨ isActive s .moisture = false)

/-! ### Screen Controller -/

/-- The motor runs exactly in RK_RUN (R99); under a rake stop the rake is in RK_IDLE or RK_LOCKED
(R102); it stays in RK_IDLE before the loader finishes (R88); a request that could be served has been
(R97); two jams lock it (R101). -/
def RakeSafe (s : State) : Prop :=
  (s.screen.motor = true ↔ s.screen.rake = .run)
  ∧ (s.screen.rakeRun.isSome = true ↔ s.screen.rake = .run)
  ∧ (s.screen.rakeInrush.isSome = true → s.screen.rake = .run)
  ∧ (s.screen.pause.isSome = true ↔ s.screen.rake = .pause)
  ∧ (rakeStop s = true → s.screen.rake = .idle ∨ s.screen.rake = .locked)
  ∧ (loaded s = false → s.screen.rake = .idle)
  ∧ (s.screen.rake = .idle → rakeRequested s = true → loaded s = true → rakeStop s = true)
  ∧ (s.screen.jams ≤ 2 ∧ (s.screen.jams = 2 ↔ s.screen.rake = .locked))

/-! ### Line Interface -/

/-- The driver is cut exactly in ISOLATED (R22); what only a JOINED station does is done only by one;
the local call and its delay belong to LINE_FAULT (R57, R86); no automatic run in ISOLATED (R85); a
notice is won only with its drive standing, in a frame (R13); a stuck line is not joined (R20). -/
def LineSafe (s : State) : Prop :=
  (s.line.driver = .cut ↔ s.line.mode = .isolated)
  ∧ (s.line.due = true ∨ s.line.syncDriving = true ∨ s.line.alone = true ∨ s.line.drive ≠ none
      ∨ s.duty.holdsLead = true ∨ s.duty.pump = .startWait → s.line.mode = .joined)
  ∧ (s.stager.localCall = true ∨ s.duty.fallbackDelay ≠ .stopped → s.line.mode = .lineFault)
  ∧ (s.line.mode = .isolated → s.duty.pump ≠ .starting ∧ s.duty.pump ≠ .running)
  ∧ (s.line.drive ≠ none → s.line.receiver = .inside)
  ∧ (s.line.noticeWon = true → s.line.drive ≠ none)
  ∧ (stuckNow s.line = true → s.line.mode = .lineFault ∨ s.line.mode = .isolated)
  ∧ s.line.peers.length = 8

/-! ### Levels, stages, settings -/

/-- A channel that offers a level offers one within its span, with its rate in range and eight values
in its ring (R36, R37); its runs say its state (R40). -/
def ChannelSafe (c : Calibration) (ch : LevelChannel) : Prop :=
  (ch.mode = .healthy ∨ ch.mode = .suspect →
    ch.e ≤ c.h ∧ ch.p ≤ c.h ∧ -2047 ≤ ch.rate ∧ ch.rate ≤ 2047)
  ∧ (ch.mode = .suspect → 1 ≤ ch.badRun ∧ ch.badRun ≤ 2)
  ∧ (ch.mode = .healthy → ch.badRun = 0)
  ∧ (ch.mode = .starting ∨ ch.mode = .absent → ch.badRun ≤ 2)
  ∧ (ch.mode = .faulted → ch.goodRun ≤ 2)
  ∧ ch.ring.length = 8 ∧ ch.count ≤ 65535

/-- A setting in its range (10.6). -/
def within (lo hi v : Nat) : Prop := lo ≤ v ∧ v ≤ hi

/-- The numeric settings lie in their ranges (R172). -/
def InRange (c : Settings) : Prop :=
  within 1 250 c.house ∧ within 0 3 c.baudCode ∧ within 0 50 c.keyUp ∧ within 2 30 c.ta
  ∧ within 0 5 c.retryLimit ∧ within 0 15 c.q ∧ within 1 8 c.stageCount
  ∧ within 500 15000 c.calA.h ∧ within 500 15000 c.calB.h ∧ within 0 4 c.calA.k ∧ within 0 4 c.calB.k
  ∧ within 0 1000 c.tideOffset ∧ within 1 8 c.highFloatStage ∧ within 1 30 c.tConfirm
  ∧ within 1 60 c.tInrush ∧ within 0 600 c.tMinRun ∧ within 0 600 c.tMinOff ∧ within 0 720 c.tMaxRun
  ∧ within 0 12 c.startsPerHour ∧ within 0 2 c.moisturePolicy ∧ within 20 1000 c.deltaR
  ∧ within (c.deltaR + 10) 2000 c.deltaB ∧ within 5 300 c.dwell ∧ within 0 240 c.rakeInterval
  ∧ within 0 60 c.flushInterval ∧ within 0 2047 c.flushThreshold ∧ within 10 600 c.tRake
  ∧ within 0 15000 c.crest ∧ within 5 120 c.tOd ∧ within 1 60 c.tOt ∧ within 1 25 c.debounce
  ∧ (∀ e ∈ c.outputs, e.source ≤ 27 ∧ e.stretch ≤ 15)

/-- Settings that may be in use: eight outputs, and in range or the defaults of reduced mode (R171,
R172). -/
def UsableSettings (c : Settings) : Prop :=
  c.outputs.length = 8 ∧ (c = Settings.reduced ∨ InRange c)

/-- The settings in use and those held ready can be used; the defaults are in use until the loader
finishes (R167); an attempt is one of four (R169). -/
def SettingsSafe (s : State) : Prop :=
  UsableSettings s.cfg ∧ UsableSettings s.loader.ready
  ∧ (loaded s = false → s.cfg = Settings.reduced)
  ∧ (1 ≤ s.loader.attempt ∧ s.loader.attempt ≤ 4)
  ∧ (s.loader.wait ≠ none → s.loader.attempt ≤ 3)

/-- The own stage is a stage of a usable table, 0 with an unusable one (R45, R49); every demand is 8 or
less (R52, R53, R56); nothing is known of a level before the loader finishes (R39, R44). -/
def StageSafe (s : State) : Prop :=
  s.stager.d ≤ s.cfg.stageCount ∧ (s.stager.usable = false → s.stager.d = 0)
  ∧ (loaded s = false →
      s.stager.usable = false ∧ (s.chanA.mode = .starting ∨ s.chanA.mode = .absent)
        ∧ (s.chanB.mode = .starting ∨ s.chanB.mode = .absent))
  ∧ s.stager.dLine ≤ 8 ∧ s.stager.dPre ≤ 8 ∧ s.stager.dEff ≤ 8
  ∧ ChannelSafe s.cfg.calA s.chanA ∧ ChannelSafe s.cfg.calB s.chanB

/-! ### Overflow Monitor -/

/-- The head source is active exactly in OVF_PENDING and OVF_ACTIVE; each timer runs in its state; the
accumulator has 32 bits (R108 to R113). A bay that is no weir bay stays in OVF_IDLE (R103). -/
def OverflowSafe (s : State) : Prop :=
  (s.ovf.sourceActive = true ↔ s.ovf.state = .pending ∨ s.ovf.state = .active)
  ∧ (s.ovf.pending.isSome = true ↔ s.ovf.state = .pending)
  ∧ (s.ovf.tail.isSome = true ↔ s.ovf.state = .tail)
  ∧ s.ovf.accumulator < 2 ^ 32
  ∧ (s.straps.weirEn = false ∨ loaded s = false → s.ovf.state = .idle)

/-! ### Alarm Table and Panel Output Unit -/

/-- A record agrees with its code's raw condition; an enabled record after the loader's finish stands
in an ACTIVE state exactly while its effective condition is active: the latch of a latching code, the
raw condition of another (R117, R120, R121). A disabled record, and any before, is in NORMAL (R118). -/
def RecordSafe (s : State) (c : AlarmCode) (r : AlarmRecord) : Prop :=
  r.raw = rawCondition s c
  ∧ (r.latched = true → latching c = true)
  ∧ (loaded s = true → r.enabled = true → latching c = true → r.raw = true → r.latched = true)
  ∧ (loaded s = true → r.enabled = true →
      (r.state = .activeUnack ∨ r.state = .activeAck
        ↔ (if latching c then r.latched else r.raw) = true))
  ∧ (loaded s = false ∨ r.enabled = false → r.state = .normal ∧ r.latched = false)
  ∧ r.count ≤ 255
  ∧ (enableForced c = true ∨ loaded s = false → r.enabled = true)

/-- The Alarm Table: 23 records, each safe. -/
def AlarmSafe (s : State) : Prop :=
  s.alarms.records.length = 23 ∧ ∀ c ∈ allCodes, RecordSafe s c (recordOf s c)

/-- Eight outputs that follow their sources, each pin in its output's energised state; none before the
loader finishes (R128 to R132). -/
def PanelSafe (s : State) : Prop :=
  s.panel.outputs.length = 8 ∧ s.panel.phase < 400
  ∧ (∀ n : Fin 8, s.panel.pins.getLsbD n.val = energised s (outputAt s n))
  ∧ (loaded s = true → ∀ n : Fin 8, (outputAt s n).source = sourceOn s (outputAt s n).entry.source)
  ∧ (loaded s = false → s.panel.pins = 0)

/-! ### Notice Unit -/

/-- At most 16 entries, urgent before routine, each with at most 8 attempts; an ALARM has its code's
class; at most one entry in flight, and only while the bay's drive of a frame claims for it; at most
one waiting ALARM a code (R134 to R138). -/
def QueueSafe (s : State) : Prop :=
  s.notices.queue.length ≤ 16
  ∧ (s.notices.queue.dropWhile (·.urgent)).all (!·.urgent) = true
  ∧ (∀ x ∈ s.notices.queue, x.attempts ≤ 8 ∧ (x.inFlight = true → x.attempts ≤ 7)
      ∧ (x.kind = .alarm → x.urgent = urgentNumber x.code ∧ 1 ≤ x.code ∧ x.code ≤ 23))
  ∧ (s.notices.queue.filter (·.inFlight)).length ≤ 1
  ∧ (s.notices.queue.any (·.inFlight) = true → (s.line.drive.any (·.noticeKey.isSome)) = true)
  ∧ (∀ c ∈ List.range 32, (s.notices.queue.filter (waitingAlarm c)).length ≤ 1)
  ∧ s.notices.lost ≤ 255

/-! ### Telemetry Reporter -/

/-- What only an ACTIVE reporter holds (R147). -/
def ReporterIdle (r : Reporter) : Prop :=
  r.urgentQueue = [] ∧ r.routineQueue = [] ∧ r.flight = none ∧ r.answers = [] ∧ r.dump = none
    ∧ r.command = none ∧ r.port = .idle

/-- A record is in flight exactly while a flight stands, one, in the queue of its class (R157). -/
def FlightSafe (r : Reporter) : Prop :=
  match r.flight with
  | none => r.urgentQueue.all (!·.inFlight) = true ∧ r.routineQueue.all (!·.inFlight) = true
  | some f =>
    ((if f.urgent then r.urgentQueue else r.routineQueue).filter (·.inFlight)).length = 1
      ∧ (if f.urgent then r.routineQueue else r.urgentQueue).all (!·.inFlight) = true

/-- A dump sends no more than was asked for, 16 or fewer (R162, R163). -/
def DumpSafe (d : DumpContext) : Prop := d.sent + d.remaining ≤ d.requested ∧ d.requested ≤ 16

/-- The reporter's role needs the telemetry strap, a finished loader in normal mode, and JOINED to
claim or be ACTIVE (R145 to R147); its lists keep their sizes (R151, R155, R156); a COMMAND entry
handed for the command from town stands only while that is pending (R165). -/
def ReporterSafe (s : State) : Prop :=
  (s.reporter.mode ≠ .active → ReporterIdle s.reporter)
  ∧ (s.reporter.mode = .active ∨ s.reporter.mode = .claiming → s.line.mode = .joined)
  ∧ (s.reporter.mode ≠ .none → loaded s = true ∧ s.straps.telEn = true ∧ s.loader.reduced = false)
  ∧ s.reporter.answers.length + (if s.reporter.command.isSome then 1 else 0) ≤ 4
  ∧ s.reporter.urgentQueue.length ≤ 16 ∧ s.reporter.routineQueue.length ≤ 32
  ∧ s.reporter.history.length ≤ 64 ∧ s.reporter.nextNumber < 65536 ∧ s.reporter.nextSeq < 16
  ∧ FlightSafe s.reporter
  ∧ (∀ d ∈ s.reporter.dump, DumpSafe d)
  ∧ (s.reporter.command = none → s.notices.queue.all (!·.forContext) = true)

/-- Every invariant of the part. -/
def Good (s : State) : Prop :=
  InputSafe s ∧ PumpSafe s ∧ ModeSafe s ∧ WindowSafe s ∧ RakeSafe s ∧ LineSafe s ∧ SettingsSafe s ∧ StageSafe s
    ∧ OverflowSafe s ∧ AlarmSafe s ∧ PanelSafe s ∧ QueueSafe s ∧ ReporterSafe s ∧ ChangeoverSafe s

/-! ### What follows an event -/

/-- A code's record once its raw condition is `raw`: as it was where that is the condition on record,
else moved (R121), or before the loader finishes with the raw condition kept (R117). -/
def recordAfter (s : State) (raw : Bool) (c : AlarmCode) : AlarmRecord :=
  if raw = (recordOf s c).raw then recordOf s c
  else if loaded s then recordRaw (latching c) (minuteCount s) raw (recordOf s c)
  else { recordOf s c with raw := raw }

/-- The ALARM notice that goes with it: one where the record's state changes, none where not (R123). -/
def entryAfter (s : State) (raw : Bool) (c : AlarmCode) : Option NoticeEntry :=
  if (recordAfter s raw c).state = (recordOf s c).state then none
  else some (alarmEntry s c (recordAfter s raw c))

/-- The ALARM notices of all codes but QUEUE_LOSS: of the conditions that have become active, in order of
code, then of those that have cleared, in order of code (log 28). -/
def entriesAfter (s : State) : List NoticeEntry :=
  (allCodes.filter fun c => c != .queueLoss && rawCondition s c).filterMap (entryAfter s true)
    ++ (allCodes.filter fun c => c != .queueLoss && !rawCondition s c).filterMap (entryAfter s false)

/-- `s` once every code but QUEUE_LOSS has moved and its notice has been handed. -/
def othersMoved (s : State) : State :=
  (otherCodes s).foldl (fun t c => setRecord t c (recordAfter s (rawCondition s c) c))
    (handAll s (entriesAfter s))

/-- The outputs once they have followed their sources in `s` (R130). -/
def outputsIn (s : State) (outputs : List OutputState) : List OutputState :=
  outputs.map fun o => followSource (sourceOn s o.entry.source) o

/-- `s` with the ALARM notices of its changed raw conditions handed (R123, R134 to R136): QUEUE_LOSS's
last, since one of the others may discard an entry and so raise it. -/
def handedAfter (s : State) : State :=
  let u := handAll s (entriesAfter s)
  handAll u (entryAfter s u.alarms.queueLoss.isSome .queueLoss).toList

/-- `t` is `s` with what its changed raw conditions bring along and nothing else: each record moves by
its raw condition (R121), each move's notice is handed (R123), the outputs follow their sources, first as
they are before QUEUE_LOSS moves and then as they are after (R130, log 28), and the pins take their
energised states (R128, R129). Where no raw condition differs from its record, only the panel follows. -/
def Follows (s t : State) : Prop :=
  t = { handedAfter s with
    alarms := { (handedAfter s).alarms with records := t.alarms.records }
    panel := { s.panel with outputs := t.panel.outputs, pins := t.panel.pins } }
  ∧ (s.alarms.records.length = 23 → t.alarms.records.length = 23
      ∧ ∀ c, recordOf t c = recordAfter s (rawCondition t c) c)
  ∧ (∀ c, c ≠ .queueLoss → rawCondition s c = (recordOf s c).raw → recordOf t c = recordOf s c)
  ∧ ((∀ c, rawCondition s c = (recordOf s c).raw) →
      t.alarms = s.alarms ∧ t.notices = s.notices ∧ t.reporter = s.reporter)
  ∧ t.panel.outputs =
      (if loaded s then outputsIn t (outputsIn (othersMoved s) s.panel.outputs)
       else s.panel.outputs)
  ∧ t.panel.pins = (if loaded s then pinsOf t t.panel.outputs else 0)

/-- What an entry to ISOLATED or LINE_FAULT ends beside the line state. Leaving JOINED clears the
holdoff (R137) and withdraws a pending ACK assertion, which is taken as a local acknowledgment (R125),
before the changes of the records' own conditions (log 20), an activation of QUEUE_LOSS by the
acknowledgment's own notices among them (log 51). A frame in progress is bad (R8, R24, log 17): it is
counted, the receiver searches, the own entry is absent, and the entry in flight takes the result not
carried where its claim was won, and lost where not (R13, R138). -/
def BrokenOff (s t : State) : Prop :=
  (s.line.mode = .joined →
    t.alarms.ackPress = false ∧ t.alarms.ackTown = false ∧ t.notices.holdoff = false)
  ∧ (s.line.mode ≠ .joined → t.alarms.ackPress = s.alarms.ackPress
    ∧ t.alarms.ackTown = s.alarms.ackTown ∧ t.notices.holdoff = s.notices.holdoff)
  ∧ (AlarmSafe s → loaded s = true → ∀ (c : AlarmCode) (r : AlarmRecord),
    r = (if s.line.mode = .joined ∧ (s.alarms.ackPress = true ∨ s.alarms.ackTown = true) then
        recordAcknowledged (latching c) (recordOf s c) else recordOf s c) →
    recordOf t c = if rawCondition t c = r.raw then r
      else recordRaw (latching c) (minuteCount s) (rawCondition t c) r)
  ∧ (s.line.receiver = .inside → t.line.receiver = .searching ∧ t.line.prevGood = false
    ∧ t.line.badFrames = min (s.line.badFrames + 1) 255
    ∧ t.line.peers = s.line.peers.set (ownAddress s) PeerEntry.unheard)
  ∧ (s.line.receiver ≠ .inside → t.line.prevGood = s.line.prevGood
    ∧ t.line.badFrames = s.line.badFrames ∧ t.line.peers = s.line.peers)
  ∧ (QueueSafe s → t.notices.queue.all (!·.inFlight) = true
    ∧ (s.notices.lost < 255 → t.notices.lost = s.notices.lost →
      ∀ e ∈ s.notices.queue, e.inFlight = true → ∃ x ∈ t.notices.queue,
        x.kind = e.kind ∧ x.subject = e.subject ∧ x.code = e.code
        ∧ x.attempts = if s.line.noticeWon then e.attempts + 1 else e.attempts))

/-- What a valid message does to the reporter whatever its type (R149, R158): the link is UP, and a
record in flight on a link that was DOWN is due again, unless the message is a POLL. -/
def townHeard (poll : Bool) (r : Reporter) : Reporter :=
  { r with
    linkUp := true, sinceChar := some 0
    flight := if r.linkUp = false ∧ poll = false then
      r.flight.map fun f => { f with resendDue := true, retries := 0 } else r.flight }

end Sys2Proof.Machine
end

