-- ==== Sys2Proof/Certificates/Slice0/Obligations.lean ====
section
/-! DEFINITION. The statements for the provers. A completion statement says that a command answers a
next state and which: `Follows u t` says that `t` is `u` but for what alarm changes bring along. -/

open Sys2Proof Sys2Proof.Machine

/-! ### The queue of commands, reset -/

/-- O1. A step with commands waiting runs the front one with the queue's rest; with none waiting, one
cell of the line passes (the model's choice, log 2). -/
def Obligations.StepRunsFront : Prop :=
  (∀ (c : Instr) (rest : List Instr) (s : State), s.pending = c :: rest →
    step s = exec c { s with pending := rest })
  ∧ ∀ s : State, s.pending = [] →
    step s = .next { s with line := { s.line with
      frameCells := s.line.frameCells + 1
      silenceCells := s.line.silenceCells + 1
      quiet := if s.line.mode = .lineFault ∧ s.line.stuck ≤ 160 ∧ s.line.receiver ≠ .inside then
        s.line.quiet + 1 else s.line.quiet
      jabber := if s.line.driver = .driving then s.line.jabber else 0 } }

/-- O2. Every command answers a next state in every state, and leaves the waiting commands as they
are. 'In every state' is the model's choice: a command whose event cannot be happening is passed over
(log 1); and so is the queue that it leaves (log 24, 25). -/
def Obligations.EveryCommandCompletes : Prop :=
  ∀ (c : Instr) (s : State), ∃ t, exec c s = .next t ∧ t.pending = s.pending

/-- O3. A command whose operands are ill-formed is passed over (the model's choice, log 1). -/
def Obligations.IllFormedPassedOver : Prop :=
  ∀ (c : Instr) (s : State), c.wellFormed = false → exec c s = .next s

/-- O4. RESET gives the reset state, whatever the part was doing, with the values the manual states
(R15, R23, R26, R44, R58, R88, R103, R117, R128, R133, R145, R167). -/
def Obligations.ResetState : Prop :=
  (∀ s : State, exec .reset s = .next { State.reset with pending := s.pending, free := s.free })
  ∧ State.reset.time.seconds = 0
  ∧ State.reset.line.mode = .listen ∧ State.reset.line.driver = .released
  ∧ State.reset.line.receiver = .searching ∧ State.reset.line.nextBeat = true
  ∧ State.reset.line.badFrames = 0 ∧ State.reset.line.goodRun = 0 ∧ State.reset.line.ownCount = 0
  ∧ (∀ a < 8, (peer State.reset a).heard = false ∧ (peer State.reset a).age = 15
      ∧ (peer State.reset a).lead = false ∧ (peer State.reset a).beatStuck = 0)
  ∧ State.reset.stager.d = 0 ∧ State.reset.stager.dEff = 0 ∧ State.reset.stager.localCall = false
  ∧ State.reset.duty.contactor = false ∧ State.reset.duty.minOff = some 0
  ∧ State.reset.duty.window = [] ∧ State.reset.duty.inhibit = false
  ∧ State.reset.screen.rake = .idle ∧ State.reset.screen.motor = false
  ∧ State.reset.screen.condition = .unknown ∧ State.reset.ovf.state = .idle
  ∧ (∀ c, recordOf State.reset c = AlarmRecord.reset)
  ∧ State.reset.panel.pins = 0 ∧ State.reset.notices.queue = []
  ∧ State.reset.reporter.mode = .none ∧ State.reset.reporter.nextNumber = 0
  ∧ State.reset.loader.attempt = 1 ∧ State.reset.pending = []

/-- O5. Every invariant holds after reset. -/
def Obligations.GoodAtReset : Prop := Good State.reset

/-! ### Ticks, inputs, seconds -/

/-- O6. TICK after the straps are captured (R26, R27): an input whose sample is its accepted value has
its count at 0, another's goes up by 1; every timer advances; nothing else. That the change stays due
with its count kept at N, to be accepted by a row of its own, is the model's reading (log 26). What the
timers of each block do is Obligations.TickTimers. -/
def Obligations.TickAdvances : Prop :=
  ∀ (pins : BitVec 15) (straps : CaptureReadings) (s : State),
    PumpSafe s → RakeSafe s → captured s = true →
    ∃ t, exec (.tick pins straps) s = .next t ∧ Follows { s with
      time := { s.time with subTicks := s.time.subTicks + 1 }
      inputs := allInputs.map fun i =>
        if sampleActive pins i = (inputState s i).active then
          ⟨(inputState s i).active, 0, false⟩
        else ⟨(inputState s i).active, (inputState s i).count + 1,
          decide (s.cfg.debounce ≤ (inputState s i).count + 1)⟩
      loader := { s.loader with
        wait := advance s.loader.wait, checkTicks := advance s.loader.checkTicks }
      gate := if loaded s = true then s.gate + 1 else s.gate
      duty := tickDuty (isActive s .supplyLow) s.duty
      screen := tickScreen s.screen
      ovf := tickOvf s.ovf
      alarms := tickAlarms s.alarms
      panel := tickPanel s.panel
      reporter := tickReporter s.reporter } t

/-- O7. What a tick does to each timer of the pump, the screen, the weir, the alarms, the panel and the
reporter (R26, R76, R77, R86, R96, R107, R119, R130, R131, R149, R154, R158): one tick more where it runs, and
none where it does not; a blind monitor's timers keep their time; the flash phase turns in 400 ticks.
The changeover timer runs while yielding is set and W is empty, to 120 s; that it counts these in ticks is
the model's reading of R26 (log 47). That 20 ms without a character are two ticks is the model's choice
(log 14). -/
def Obligations.TickTimers : Prop :=
  (∀ (low : Bool) (d : Duty),
    (∀ n, d.minOff = some n → (tickDuty low d).minOff = some (n + 1))
    ∧ (d.minOff = none → (tickDuty low d).minOff = none)
    ∧ (∀ n, d.inrush = some n → (tickDuty low d).inrush = some (n + 1))
    ∧ (d.inrush = none → (tickDuty low d).inrush = none)
    ∧ (∀ n, d.confirm = some n → (tickDuty low d).confirm = some (n + 1))
    ∧ (∀ n, d.runLoss = some n → (tickDuty low d).runLoss = some (n + 1))
    ∧ (∀ n, d.minRun = some n → (tickDuty low d).minRun = some (n + 1))
    ∧ (∀ n, d.fallbackDelay = .running n → (tickDuty low d).fallbackDelay = .running (n + 1))
    ∧ (d.pump = .starting ∨ d.pump = .running → (tickDuty low d).contRun = d.contRun + 1)
    ∧ (d.pump ≠ .starting → d.pump ≠ .running → (tickDuty low d).contRun = d.contRun)
    ∧ (d.yielding = true → d.waiting = [] →
        (tickDuty low d).changeover = min (d.changeover + 1) 12000)
    ∧ (d.yielding = false ∨ d.waiting ≠ [] → (tickDuty low d).changeover = d.changeover)
    ∧ (tickDuty low d).yielding = d.yielding
    ∧ (tickDuty low d).changeoverBlocked = d.changeoverBlocked
    ∧ (low = true → (tickDuty low d).supplyInactive = 0)
    ∧ (low = false → (tickDuty low d).supplyInactive = min (d.supplyInactive + 1) 500)
    ∧ (tickDuty low d).pump = d.pump ∧ (tickDuty low d).contactor = d.contactor)
  ∧ (∀ o : Overflow, o.blind = true → tickOvf o = o)
  ∧ (∀ (o : Overflow) (n : Nat), o.blind = false →
      (o.pending = some n → (tickOvf o).pending = some (n + 1))
      ∧ (o.tail = some n → (tickOvf o).tail = some (n + 1)) ∧ (tickOvf o).state = o.state)
  ∧ (∀ (g : Screen) (n : Nat),
      (g.switchClear = some n → (tickScreen g).switchClear = some (n + 1))
      ∧ (g.switchClear = none → (tickScreen g).switchClear = none)
      ∧ (g.postRake = some n → (tickScreen g).postRake = some (n + 1))
      ∧ (g.postRake = none → (tickScreen g).postRake = none)
      ∧ (g.highAlarm = some n → (tickScreen g).highAlarm = some (n + 1))
      ∧ (g.highAlarm = none → (tickScreen g).highAlarm = none)
      ∧ (g.rakeRun = some n → (tickScreen g).rakeRun = some (n + 1))
      ∧ (g.rakeRun = none → (tickScreen g).rakeRun = none)
      ∧ (g.rakeInrush = some n → (tickScreen g).rakeInrush = some (n + 1))
      ∧ (g.rakeInrush = none → (tickScreen g).rakeInrush = none)
      ∧ (g.pause = some n → (tickScreen g).pause = some (n + 1))
      ∧ (g.pause = none → (tickScreen g).pause = none)
      ∧ (tickScreen g).interval = g.interval + 1 ∧ (tickScreen g).intervalDue = g.intervalDue
      ∧ (tickScreen g).condition = g.condition ∧ (tickScreen g).rake = g.rake
      ∧ (tickScreen g).motor = g.motor ∧ (tickScreen g).jams = g.jams)
  ∧ (∀ (a : Alarms) (n : Nat), (a.startFail = some n → (tickAlarms a).startFail = some (n + 1))
      ∧ (a.runLost = some n → (tickAlarms a).runLost = some (n + 1))
      ∧ (a.rakeJam = some n → (tickAlarms a).rakeJam = some (n + 1))
      ∧ (a.queueLoss = some n → (tickAlarms a).queueLoss = some (n + 1))
      ∧ (a.startFail = none → (tickAlarms a).startFail = none)
      ∧ (a.runLost = none → (tickAlarms a).runLost = none)
      ∧ (a.rakeJam = none → (tickAlarms a).rakeJam = none)
      ∧ (a.queueLoss = none → (tickAlarms a).queueLoss = none)
      ∧ (tickAlarms a).records = a.records)
  ∧ (∀ p : Panel, (tickPanel p).phase = (p.phase + 1) % 400 ∧ (tickPanel p).pins = p.pins
      ∧ (tickPanel p).outputs.length = p.outputs.length
      ∧ ∀ (k : Nat) (o : OutputState), p.outputs[k]? = some o → ∃ o',
          (tickPanel p).outputs[k]? = some o' ∧ o'.entry = o.entry ∧ o'.source = o.source
          ∧ (∀ n, o.stretch = some n → o'.stretch = some (n + 1))
          ∧ (o.stretch = none → o'.stretch = none)
          ∧ (∀ n, o.pulse = some n → o'.pulse = some (n + 1))
          ∧ (o.pulse = none → o'.pulse = none))
  ∧ (∀ (r : Reporter) (n : Nat), (r.port = .keyUp n → (tickReporter r).port = .keyUp (n + 1))
      ∧ (r.port = .sending n → (tickReporter r).port = .sending (n + 1))
      ∧ (r.sinceChar = some 0 → (tickReporter r).sinceChar = some 1)
      ∧ (r.sinceChar = some 1 → (tickReporter r).sinceChar = none)
      ∧ (∀ f, r.flight = some f → f.ta = some n →
          (tickReporter r).flight = some { f with ta := some (n + 1) })
      ∧ (∀ f, r.flight = some f → f.ta = none → (tickReporter r).flight = some f)
      ∧ (r.flight = none → (tickReporter r).flight = none)
      ∧ (∀ c, r.clock = some c → (tickReporter r).clock = some ⟨c.day, c.minute, c.ticks + 1⟩))

/-- O8. The first TICK after reset (R28, R58, R59, R166, R167, R169): the straps and every input are
taken from their pins, a LOW pin being a closed contact or a fitted strap; the mode and the pump state
follow from MODE_OFF and MODE_HAND; the loader begins its first attempt with the bus-free step, whose
cells the operand gives (the model's form, log 15). -/
def Obligations.FirstTick : Prop :=
  ∀ (pins : BitVec 15) (straps : CaptureReadings) (s : State), PumpSafe s →
    captured s = false →
    ∃ t, exec (.tick pins straps) s = .next t
      ∧ (∀ k < 3, t.straps.address.val.testBit k = !straps.levels.getLsbD k)
      ∧ t.straps.telEn = !straps.levels.getLsbD 3 ∧ t.straps.lvaEn = !straps.levels.getLsbD 4
      ∧ t.straps.lvbEn = !straps.levels.getLsbD 5 ∧ t.straps.weirEn = !straps.levels.getLsbD 6
      ∧ (∀ i, isActive t i =
          if activeWhenOpen i then pins.getLsbD (inputIndex i) else !pins.getLsbD (inputIndex i))
      ∧ (isActive t .modeOff = true → t.duty.mode = .off ∧ t.duty.pump = .outOfService)
      ∧ (isActive t .modeOff = false → isActive t .modeHand = true →
          t.duty.mode = .hand ∧ t.duty.pump = .hand)
      ∧ (isActive t .modeOff = false → isActive t .modeHand = false →
          t.duty.mode = .auto ∧ t.duty.pump = .lockedOff)
      ∧ t.duty.contactor = false ∧ t.loader.phase = .reading ∧ t.loader.busDriven = true
      ∧ t.loader.attempt = s.loader.attempt ∧ t.loader.sclCells = min 9 straps.sdaCells
      ∧ t.loader.sdaHeld = decide (9 < straps.sdaCells) ∧ t.loader.sent = [] ∧ t.loader.bus = []
      ∧ t.chanA.mode = (if t.straps.lvaEn then .starting else .absent)
      ∧ t.chanB.mode = (if t.straps.lvbEn then .starting else .absent)
      ∧ t.line = s.line ∧ t.cfg = s.cfg ∧ t.stager = s.stager ∧ t.gate = s.gate

/-- O9. INPUT_ACCEPTED_CHANGE (R27): the accepted value of the input takes the sample's value, its
count goes to 0, no other input changes; the time, the straps, the settings, the line, the channels
are as they were. What the block that uses the input does: MODE_HAND and MODE_OFF form the mode anew; a
pump enters HAND, keeping a closed contactor closed, else with a hand closure unless held, or comes back
to AUTO, out of service while inhibited, else locked off (R59, R61, R63, R86). RUN_CONFIRM confirms a start
or stops the run-loss timer, and its release starts that timer (R66, R67). MOISTURE stops an automatic run
under policy 2 (R79). WEIR_FLOAT re-takes the head source (R106, R108, R110). LAMP_TEST energises every
output (R132). The own floats and ALL_STOP form the local demand and call of LINE_FAULT anew (R56, R57,
R86). SUPPLY_LOW sets the fallback's quiet time to 0 (R86). -/
def Obligations.InputAccepted : Prop :=
  ∀ (i : Input) (s : State), InputSafe s → (inputState s i).due = true →
    ∃ t, exec (.inputAcceptedChange i) s = .next t
      ∧ isActive t i = !isActive s i ∧ (inputState t i).count = 0 ∧ (inputState t i).due = false
      ∧ (∀ j, j ≠ i → inputState t j = inputState s j)
      ∧ t.time = s.time ∧ t.straps = s.straps ∧ t.loader = s.loader ∧ t.cfg = s.cfg
      ∧ t.line = s.line ∧ t.gate = s.gate ∧ t.chanA = s.chanA ∧ t.chanB = s.chanB
      ∧ t.free = s.free
      ∧ (i = .ackBtn → isActive s i = false → loaded s = true → s.line.mode = .joined →
          t.alarms.ackPress = true)
      ∧ (PumpSafe s → RakeSafe s →
        (i = .modeHand ∨ i = .modeOff → ModeSafe s → ∀ m : PumpMode,
          m = (if (isActive s .modeOff != decide (i = .modeOff)) = true then .off
            else if (isActive s .modeHand != decide (i = .modeHand)) = true then .hand else .auto) →
          t.duty.mode = m
          ∧ (m = s.duty.mode → t.duty = s.duty)
          ∧ (m = .hand → s.duty.mode ≠ .hand →
            (s.duty.pump = .faulted → t.duty = { s.duty with mode := .hand })
            ∧ (s.duty.contactor = true → t.duty = { s.duty with
                mode := .hand, pump := .hand, confirm := none, runLoss := none, minRun := none
                contRun := 0, confirmed := false, yielding := false, changeover := 0
                changeoverBlocked := false })
            ∧ (s.duty.pump ≠ .faulted → s.duty.contactor = false →
              (loaded s = true ∧ stopHold s = false → t.duty = { s.duty with
                mode := .hand, pump := .hand, contactor := true, inrush := some 0
                starts := min (s.duty.starts + 1) 65535 })
              ∧ (loaded s = false ∨ stopHold s = true →
                t.duty = { s.duty with mode := .hand, pump := .hand })))
          ∧ (m = .auto → s.duty.mode ≠ .auto →
            (s.duty.pump = .faulted → t.duty = { s.duty with mode := .auto })
            ∧ ∀ d : Duty, s.duty.pump ≠ .faulted →
              d = (if s.duty.contactor then { s.duty with
                  mode := .auto, contactor := false
                  minOff := if s.cfg.tMinOff = 0 then none else some 0
                  inrush := none, confirm := none, runLoss := none, minRun := none, contRun := 0
                  confirmed := false, yielding := false, changeover := 0
                  changeoverBlocked := false }
                else { s.duty with mode := .auto }) →
              (s.duty.inhibit = true → t.duty = { d with pump := .outOfService })
              ∧ (s.duty.inhibit = false → d.minOff = none ∧ loaded s = true →
                t.duty = { d with
                  pump := .idle
                  fallbackDelay := if s.stager.localCall then
                    if ownAddress s = 0 then .expired else .running 0
                    else s.duty.fallbackDelay })
              ∧ (s.duty.inhibit = false → ¬(d.minOff = none ∧ loaded s = true) →
                t.duty = { d with pump := .lockedOff })))
        ∧ (i = .runConfirm →
          (isActive s i = false → s.duty.pump = .starting → s.duty.confirm ≠ none →
            t.duty = { s.duty with
              confirmed := true, confirm := none
              pump := if s.duty.inrush = none then .running else .starting
              yielding := decide (s.duty.inrush = none ∧ 0 < s.cfg.tMaxRun
                ∧ s.cfg.tMaxRun * 6000 ≤ s.duty.contRun) })
          ∧ (isActive s i = false → ¬(s.duty.pump = .starting ∧ s.duty.confirm ≠ none) →
            t.duty = { s.duty with runLoss := none })
          ∧ (isActive s i = true → t.duty = { s.duty with
            runLoss := if s.duty.confirmed then some 0 else s.duty.runLoss }))
        ∧ (i = .moisture →
          (isActive s i = false → s.cfg.moisturePolicy = 2 →
              s.duty.pump = .starting ∨ s.duty.pump = .running →
            t.duty.contactor = false ∧ t.duty.inrush = none ∧ t.duty.minRun = none
            ∧ t.duty.minOff = (if s.cfg.tMinOff = 0 then none else some 0)
            ∧ t.duty.pump = (if s.cfg.tMinOff = 0 then .idle else .lockedOff))
          ∧ (isActive s i = true ∨ s.cfg.moisturePolicy ≠ 2
              ∨ s.duty.pump ≠ .starting ∧ s.duty.pump ≠ .running → t.duty = s.duty))
        ∧ (i = .supplyLow → isActive s i = false → t.duty = { s.duty with supplyInactive := 0 }))
      ∧ (i = .weirFloat →
        (s.straps.weirEn = false ∨ s.cfg.weirFloatFitted = false ∨ loaded s = false →
          t.ovf = s.ovf)
        ∧ (s.straps.weirEn = true → s.cfg.weirFloatFitted = true → loaded s = true →
          ∀ now : Bool, now = (s.ovf.levelActive || !isActive s i) →
          (now = s.ovf.sourceActive → t.ovf = s.ovf)
          ∧ (now = true → s.ovf.sourceActive = false →
            (s.ovf.state = .idle → t.ovf = { s.ovf with
              sourceActive := true, state := .pending, pending := some 0 })
            ∧ (s.ovf.state = .tail → t.ovf = { s.ovf with
              sourceActive := true, state := .active, tail := none }))
          ∧ (now = false → s.ovf.sourceActive = true →
            (s.ovf.state = .pending → t.ovf = { s.ovf with
              sourceActive := false, state := .idle, pending := none })
            ∧ (s.ovf.state = .active → t.ovf = { s.ovf with
              sourceActive := false, state := .tail, tail := some 0
              tailStamp := s.time.seconds }))))
      ∧ (i ≠ .weirFloat → t.ovf = s.ovf)
      ∧ (i = .lampTest → loaded s = true → s.panel.outputs.length = 8 → ∀ n : Fin 8,
        t.panel.pins.getLsbD n.val = (!isActive s i
          || (shownValue t (outputAt t n) != (outputAt t n).entry.invert)))
      ∧ (i = .lowFloat ∨ i = .highFloat ∨ i = .allStop → loaded s = true →
        s.line.mode = .lineFault →
        t.stager.dPre = (if isActive t .highFloat then max s.stager.d s.cfg.highFloatStage
          else s.stager.d)
        ∧ t.stager.dEff = (if isActive t .allStop then 0 else if isActive t .lowFloat then 0
          else t.stager.dPre)
        ∧ t.stager.prevDEff = s.stager.dEff ∧ t.stager.d = s.stager.d
        ∧ t.stager.dLine = s.stager.dLine
        ∧ t.stager.localCall = decide (ownAddress s + 1 ≤ t.stager.dEff)
        ∧ (PumpSafe s → t.duty.fallbackDelay = (if t.stager.localCall = false then .stopped
            else if s.stager.localCall = false ∧ s.duty.pump = .idle then
              if ownAddress s = 0 then .expired else .running 0
            else s.duty.fallbackDelay)
          ∧ (t.stager.localCall = false → s.duty.pump = .running → minRunExpired s = true →
            t.duty.contactor = false
            ∧ t.duty.pump = (if s.cfg.tMinOff = 0 then .idle else .lockedOff))))
      ∧ (i ≠ .lowFloat → i ≠ .highFloat → i ≠ .allStop → t.stager = s.stager)
      ∧ (loaded s = false ∨ s.line.mode ≠ .lineFault → t.stager = s.stager)

/-- O10. THERMAL's accepted activation (R65): the contactor opens, the pump is FAULTED, the code is in
the cause set with those that were there, yielding is clear. That this holds before the loader finishes
as well is the model's reading (log 22). -/
def Obligations.ThermalTrips : Prop :=
  ∀ s : State, InputSafe s → (inputState s .thermal).due = true →
    isActive s .thermal = false →
    ∃ t, exec (.inputAcceptedChange .thermal) s = .next t
      ∧ t.duty.pump = .faulted ∧ t.duty.contactor = false ∧ t.duty.yielding = false
      ∧ t.duty.causes =
          (if s.duty.causes.contains .thermalTrip then s.duty.causes
           else s.duty.causes ++ [.thermalTrip])
      ∧ (s.duty.contactor = true →
          t.duty.minOff = (if s.cfg.tMinOff = 0 then none else some 0) ∧ t.duty.inrush = none
          ∧ t.duty.confirm = none ∧ t.duty.runLoss = none ∧ t.duty.minRun = none
          ∧ t.duty.contRun = 0)
      ∧ t.duty.mode = s.duty.mode ∧ t.duty.starts = s.duty.starts ∧ t.duty.window = s.duty.window

/-- O11. The stops of a bay. ALL_STOP and LOW_FLOAT accepted active open the contactor, send a pump in
STARTING or RUNNING to LOCKED_OFF (through to IDLE at a T_minoff of 0) and leave one in HAND there (R62,
R63); MODE_OFF takes every state but FAULTED to OUT_OF_SERVICE (R59); ALL_STOP and MODE_OFF stop the
rake, keeping its jam count (R102). What the stop hold and the rake stop are formed of (R62, R97). A
good frame end whose ALL_STOP or DRY cell read dominant stops the pump in the same way, and one whose
ALL_STOP cell did stops the rake, in every line state but LINE_FAULT; there the cells change neither. -/
def Obligations.StopsAreTaken : Prop :=
  (∀ (i : Input) (s : State), InputSafe s → PumpSafe s → ModeSafe s →
    (inputState s i).due = true → isActive s i = false → i = .allStop ∨ i = .lowFloat ∨ i = .modeOff →
    ∃ t, exec (.inputAcceptedChange i) s = .next t
      ∧ t.duty.contactor = false
      ∧ (i ≠ .modeOff →
          (s.duty.pump = .hand → t.duty.pump = .hand)
          ∧ (s.duty.pump = .starting ∨ s.duty.pump = .running →
              t.duty.pump = (if s.cfg.tMinOff = 0 then .idle else .lockedOff)))
      ∧ (i = .modeOff → t.duty.mode = .off
          ∧ t.duty.pump = (if s.duty.pump = .faulted then .faulted else .outOfService))
      ∧ (i ≠ .lowFloat →
          s.screen.rake = .run ∨ s.screen.rake = .wait ∨ s.screen.rake = .pause →
          t.screen.rake = .idle ∧ t.screen.motor = (if s.screen.rake = .run then false
            else s.screen.motor) ∧ t.screen.jams = s.screen.jams ∧ t.screen.cycles = s.screen.cycles))
  ∧ (∀ s : State,
    (stopHold s = true ↔ isActive s .allStop = true ∨ isActive s .lowFloat = true
      ∨ isActive s .thermal = true ∨ s.line.mode ≠ .lineFault
        ∧ (s.line.common.allStop = true ∨ s.line.common.dry = true))
    ∧ (rakeStop s = true ↔ isActive s .allStop = true ∨ s.duty.mode = .off
      ∨ s.line.mode ≠ .lineFault ∧ s.line.common.allStop = true))
  ∧ ∀ (run : Nat) (c : Cells) (s : State), PumpSafe s → RakeSafe s → s.line.receiver = .inside →
    4 ≤ run → run ≤ 6 →
    ∃ t, exec (.goodFrameEnd run c) s = .next t
      ∧ t.line.common.allStop = c.getLsbD 27 ∧ t.line.common.dry = c.getLsbD 8
      ∧ (s.line.mode ≠ .lineFault → c.getLsbD 27 = true ∨ c.getLsbD 8 = true →
          t.duty.contactor = false
          ∧ (s.duty.pump = .hand → t.duty.pump = .hand)
          ∧ (s.duty.pump = .starting ∨ s.duty.pump = .running →
              t.duty.pump = (if s.cfg.tMinOff = 0 then .idle else .lockedOff)
              ∧ t.duty.minOff = if s.cfg.tMinOff = 0 then none else some 0))
      ∧ (s.line.mode ≠ .lineFault → c.getLsbD 27 = true →
          (t.screen.rake = .idle ∨ t.screen.rake = .locked) ∧ t.screen.motor = false
          ∧ (s.screen.rake = .run ∨ s.screen.rake = .wait ∨ s.screen.rake = .pause →
              t.screen.rake = .idle ∧ t.screen.jams = s.screen.jams
              ∧ t.screen.cycles = s.screen.cycles))
      ∧ (s.line.mode = .lineFault →
          t.duty.pump = s.duty.pump ∧ t.duty.contactor = s.duty.contactor
          ∧ (s.screen.rake = .run → t.screen.rake = .run ∧ t.screen.motor = true))

/-- O12. TIME_BASE_SECOND, CLOCK_MINUTE and STARTS_WINDOW_STAMP_EXPIRY (R26, R78, R87, R116, R143,
R154): what each counts, and nothing else. That a due hourly point is kept until its row comes, and that
the counts of its second are taken first, is the model's choice (log 18, 24). -/
def Obligations.TimeCounts : Prop :=
  (∀ s : State, PumpSafe s → RakeSafe s → 100 ≤ s.time.subTicks →
    ∃ t, exec .timeBaseSecond s = .next t ∧ Follows { s with
      time := ⟨s.time.seconds + 1, s.time.subTicks - 100, s.time.hourlyDue
        || (s.time.seconds + 1 != 0 && (s.time.seconds + 1).toNat % 3600 == 0)⟩
      duty := { s.duty with
        runSeconds := if s.duty.contactor then
          if s.duty.runSeconds < 59 then s.duty.runSeconds + 1 else 0 else s.duty.runSeconds
        runMinutes := if s.duty.contactor ∧ 59 ≤ s.duty.runSeconds then
          min (s.duty.runMinutes + 1) 65535 else s.duty.runMinutes }
      ovf := { s.ovf with
        seconds := if s.ovf.state = .active then
          if s.ovf.seconds < 59 then s.ovf.seconds + 1 else 0 else s.ovf.seconds
        minutes := if s.ovf.state = .active ∧ 59 ≤ s.ovf.seconds then
          min (s.ovf.minutes + 1) 65535 else s.ovf.minutes } } t)
  ∧ (∀ (s : State) (c : Clock), PumpSafe s → RakeSafe s → s.reporter.clock = some c →
    6000 ≤ c.ticks →
    ∃ t, exec .clockMinute s = .next t ∧ Follows { s with reporter := { s.reporter with
      clock := some (if c.minute < 1439 then ⟨c.day, c.minute + 1, c.ticks - 6000⟩
        else ⟨(c.day + 1) % 65536, 0, c.ticks - 6000⟩) } } t)
  ∧ ∀ (s : State) (oldest : Seconds) (rest : List Seconds), PumpSafe s → RakeSafe s →
    s.duty.window = oldest :: rest → 3600 ≤ (s.time.seconds - oldest).toNat →
    ∃ t, exec .startsWindowStampExpiry s = .next t
      ∧ Follows { s with duty := { s.duty with window := rest } } t

/-- O13. HOURLY_POINT (R143): the seven counters are taken and set to 0, and their SUMMARY entries,
codes 0 to 6, are handed in order. That all seven are taken before any entry joins is the model's reading
of the rule (log 19). -/
def Obligations.HourlySummaries : Prop :=
  ∀ s : State, PumpSafe s → RakeSafe s → s.time.hourlyDue = true →
    ∃ t, exec .hourlyPoint s = .next t ∧ Follows (handAll { s with
        time := { s.time with hourlyDue := false }
        duty := { s.duty with runMinutes := 0, starts := 0 }
        screen := { s.screen with cycles := 0 }
        ovf := { s.ovf with minutes := 0 }
        notices := { s.notices with checkFail := 0, lost := 0 }
        line := { s.line with badFrames := 0 } }
      [newEntry .summary (ownAddress s) 0 0 s.duty.runMinutes false,
       newEntry .summary (ownAddress s) 1 0 s.duty.starts false,
       newEntry .summary (ownAddress s) 2 0 s.screen.cycles false,
       newEntry .summary (ownAddress s) 3 0 s.ovf.minutes false,
       newEntry .summary (ownAddress s) 4 0 s.notices.checkFail false,
       newEntry .summary (ownAddress s) 5 0 s.line.badFrames false,
       newEntry .summary (ownAddress s) 6 0 s.notices.lost false]) t

/-! ### The configuration image -/

/-- O14. The reading of the image (R168 to R172): a complete read enters CHECKING with its settings
clamped, or with the defaults and the CONFIG cause where the image is not good; a failed attempt waits
10 ms, the fourth enters CHECKING in reduced mode; a new attempt clocks up to nine cells for SDA. What
passes on the bus: start, A0 00 00, start, A1, the 256 bytes with an acknowledge from the loader for all
but the last, stop; or the bytes up to the one left without acknowledge, stop; or, where SCL is held low
or SDA reads low for a start, repeated start or stop, the conditions and bytes that had passed. The
model's own: that an attempt is one command with its cause, and that no stop follows a line held low
(log 15); that the mark of reduced mode is set from the entry to CHECKING on, where the state table has it
decided at the end of CHECKING (log 40); and that replacements in the overflow group alone, though a cause
found, are kept apart, since they raise no alarm without WEIR_EN (R104, log 45). -/
def Obligations.ImageRead : Prop :=
  (∀ (image : List Byte) (s : State), PumpSafe s → RakeSafe s → s.loader.phase = .reading →
    s.loader.wait = none → s.loader.sdaHeld = false → image.length = 256 →
    ∃ t, exec (.configReadComplete image) s = .next t ∧ Follows { s with loader := { s.loader with
      phase := .checking, checkTicks := some 0, busDriven := false, image := some image
      sent := [0xA0#8, 0x00#8, 0x00#8, 0xA1#8]
      bus := [.start, .sent 0xA0#8 true, .sent 0x00#8 true, .sent 0x00#8 true, .start,
        .sent 0xA1#8 true] ++ (image.take 255).map (fun b => .read b true)
        ++ (image.drop 255).map (fun b => .read b false) ++ [.stop]
      reduced := !imageGood image
      causeFound := if imageGood image then imageClamped image else true
      overflowOnly := imageGood image && overflowClamped image
      ready := if imageGood image then settingsOf image else Settings.reduced } } t)
  ∧ (∀ (cause : ReadFailure) (s : State), PumpSafe s → RakeSafe s → s.loader.phase = .reading →
    s.loader.wait = none → readFailure cause = true →
    s.loader.sdaHeld = false ∨ cause = .busBusy (.sending 0) ∨ cause = .stretchTooLong (.sending 0) →
    ∃ t, exec (.attemptFail cause) s = .next t
      ∧ (s.loader.attempt < 4 → Follows { s with loader := { s.loader with
          busDriven := false, sent := sentBy cause, bus := failedRead cause, wait := some 0 } } t)
      ∧ (4 ≤ s.loader.attempt → Follows { s with loader := { s.loader with
          phase := .checking, checkTicks := some 0, busDriven := false, sent := sentBy cause
          bus := failedRead cause, image := none, reduced := true, causeFound := true
          overflowOnly := false
          ready := Settings.reduced } } t))
  ∧ (∀ image : List Byte,
    (imageClamped image = true ↔ ∃ f ∈ otherFields image ++ overflowFields image,
      f.2.2 < f.1 ∨ f.2.1 < f.2.2)
    ∧ (overflowClamped image = true ↔ imageClamped image = true
      ∧ ∀ f ∈ otherFields image, f.1 ≤ f.2.2 ∧ f.2.2 ≤ f.2.1)
    ∧ overflowFields image = [(0, 15000, imageWord image 82), (5, 120, imageByte image 84),
        (1, 60, imageByte image 85)]
      ++ ([0, 1, 2, 3, 4, 5, 6, 7, 8].map fun k => (0, 2000, imageWord image (86 + 2 * k)))
      ++ [0, 1, 2, 3, 4, 5, 6, 7, 8].map fun k => (0, 65535, imageWord image (104 + 2 * k)))
  ∧ (∀ n : Fin 4, sentBy (.noAcknowledge n) = [0xA0#8, 0x00#8, 0x00#8, 0xA1#8].take (n.val + 1)
      ∧ failedRead (.noAcknowledge n) = [.start, .sent 0xA0#8 (n != 0), .sent 0x00#8 (n != 1),
          .sent 0x00#8 (n != 2), .start, .sent 0xA1#8 false].take (if n = 3 then 6 else n.val + 2)
        ++ [.stop])
  ∧ (∀ n : Fin 6, failedRead (.stretchTooLong (.sending n)) = [.start, .sent 0xA0#8 true,
        .sent 0x00#8 true, .sent 0x00#8 true, .start, .sent 0xA1#8 true].take n.val
      ∧ sentBy (.stretchTooLong (.sending n)) = [0xA0#8, 0x00#8, 0x00#8].take (n.val - 1))
  ∧ (∀ data : List Byte, data.length ≤ 256 → failedRead (.stretchTooLong (.reading data))
        = [.start, .sent 0xA0#8 true, .sent 0x00#8 true, .sent 0x00#8 true, .start,
            .sent 0xA1#8 true] ++ (data.take 255).map (fun b => .read b true)
          ++ (data.drop 255).map (fun b => .read b false)
      ∧ sentBy (.stretchTooLong (.reading data)) = [0xA0#8, 0x00#8, 0x00#8, 0xA1#8])
  ∧ (∀ p : ReadPoint, failedRead (.busBusy p) = failedRead (.stretchTooLong p)
      ∧ sentBy (.busBusy p) = sentBy (.stretchTooLong p)
      ∧ (readFailure (.stretchTooLong p) = true ↔
          ∀ data, p = .reading data → data.length ≤ 256)
      ∧ (readFailure (.busBusy p) = true ↔ p = .sending 0 ∨ p = .sending 4
          ∨ ∃ data, p = .reading data ∧ data.length = 256))
  ∧ ∀ (sdaCells n : Nat) (s : State), PumpSafe s → RakeSafe s → s.loader.phase = .reading →
    s.loader.wait = some n → 1 ≤ n →
    ∃ t, exec (.retryWaitExpiry sdaCells) s = .next t ∧ Follows { s with loader := { s.loader with
      attempt := s.loader.attempt + 1, wait := none, busDriven := true, sent := [], bus := []
      sclCells := min 9 sdaCells, sdaHeld := decide (9 < sdaCells) } } t

/-- O15. LOADER_FINISH (R32, R45, R58, R65, R89, R92, R104, R118, R128, R145, R167, R173): the settings
held ready are handed over, the bus is let go, each channel starts where strapped with a usable
calibration, the stage table and the weir's figures are checked, each structural cause is kept for
CONFIG, the screen takes its first sensing mode, each record takes its enable, each output its entry, the
reporter its first role; a LOCKED_OFF pump whose minimum off time has passed enters IDLE, one in HAND
closes, and one whose THERMAL input is active is FAULTED. That crest usable is no with channel A ABSENT,
where R104 has the crest neither checked nor used, and that a bay without a weir keeps the values its
monitor had, is the model's choice (log 37). -/
def Obligations.LoaderFinishes : Prop :=
  ∀ (s : State) (n : Nat), PumpSafe s → s.loader.phase = .checking →
    s.loader.checkTicks = some n → 1 ≤ n →
    ∃ t, exec .loaderFinish s = .next t
      ∧ t.loader = { s.loader with phase := .done, checkTicks := none, busDriven := false }
      ∧ t.cfg = s.loader.ready ∧ t.time = s.time ∧ t.inputs = s.inputs ∧ t.straps = s.straps
      ∧ t.line = s.line ∧ t.gate = 0
      ∧ t.chanA.mode = (if s.straps.lvaEn ∧ s.loader.reduced = false
          ∧ s.loader.ready.calA.z + 500 ≤ s.loader.ready.calA.f then .starting else .absent)
      ∧ t.chanB.mode = (if s.straps.lvbEn ∧ s.loader.reduced = false
          ∧ s.loader.ready.calB.z + 500 ≤ s.loader.ready.calB.f then .starting else .absent)
      ∧ (∀ c, (recordOf t c).enabled = (s.loader.reduced || enableForced c
          || s.loader.ready.enableMask.getD (codeNumber c - 1) true))
      ∧ t.panel.outputs.map (·.entry) = s.loader.ready.outputs
      ∧ t.reporter.mode = (if s.straps.telEn ∧ s.loader.reduced = false then .standby else .none)
      ∧ t.reporter.routineEnable = s.loader.ready.routineDefault
      ∧ (isActive s .thermal = true → t.duty.pump = .faulted)
      ∧ (s.duty.pump = .hand → stopHold s = false →
          t.duty.pump = .hand ∧ t.duty.contactor = true ∧ t.duty.inrush = some 0)
      ∧ (s.duty.pump = .lockedOff → isActive s .thermal = false →
          t.duty.pump = (if s.duty.minOff = none
              ∨ (∃ e, s.duty.minOff = some e ∧ s.loader.ready.tMinOff * 100 ≤ e) then .idle
            else .lockedOff))
      ∧ (t.chanA.mode = .starting → (t.stager.usable = true ↔
          1 ≤ t.cfg.stageCount ∧ t.cfg.stageCount ≤ 8 ∧ 0 < stopLevel t.cfg 1
          ∧ (∀ k, 1 ≤ k → k ≤ t.cfg.stageCount → stopLevel t.cfg k < startLevel t.cfg k)
          ∧ (∀ k, 1 ≤ k → k < t.cfg.stageCount → startLevel t.cfg k < startLevel t.cfg (k + 1)
              ∧ stopLevel t.cfg k < stopLevel t.cfg (k + 1))
          ∧ startLevel t.cfg t.cfg.stageCount ≤ t.cfg.calA.h))
      ∧ (t.chanA.mode = .absent → t.stager.usable = s.stager.usable)
      ∧ (s.straps.weirEn = true →
          t.ovf.volumeEnabled = (!s.loader.reduced && spillUsable t.cfg)
          ∧ t.ovf.crestUsable = decide (t.chanA.mode = .starting ∧ t.cfg.crest ≤ t.cfg.calA.h))
      ∧ (s.straps.weirEn = false → t.ovf = s.ovf)
      ∧ (t.causeCfg = true ↔ s.causeCfg = true
          ∨ (s.straps.lvaEn = true ∧ s.loader.reduced = false
              ∧ t.cfg.calA.f < t.cfg.calA.z + 500)
          ∨ (s.straps.lvbEn = true ∧ s.loader.reduced = false
              ∧ t.cfg.calB.f < t.cfg.calB.z + 500)
          ∨ (t.chanA.mode = .starting ∧ t.stager.usable = false)
          ∨ (s.straps.weirEn = true ∧
              ((s.loader.reduced = false ∧ spillUsable t.cfg = false)
                ∨ (t.chanA.mode = .starting ∧ t.cfg.calA.h < t.cfg.crest)
                ∨ (t.chanA.mode = .absent ∧ t.cfg.weirFloatFitted = false))))
      ∧ t.screen.sensing = some (if t.cfg.screenSwitchFitted then .switch else .none)
      ∧ t.screen.condition = (if t.cfg.screenSwitchFitted ∧ isActive s .screenSw = true then .high
          else .unknown)

/-! ### The station line -/

/-- O16. FRAME_TIMER_EXPIRY, SYNC_DRIVE and a first or second SYNC_ATTEMPT_FAIL (R5, R6, R7). The split
of an attempt into SYNC_DRIVE and what ends it, and that a failed one leaves the station not due, its
frame timer not expired and its receiver as it was, is the model's reading (log 10). -/
def Obligations.OwnSync : Prop :=
  (∀ s : State, PumpSafe s → RakeSafe s → captured s = true → s.line.frameExpired = false →
    1000 + 3 * ownAddress s ≤ s.line.frameCells →
    ∃ t, exec .frameTimerExpiry s = .next t ∧ Follows { s with line := { s.line with
      frameExpired := true, due := decide (s.line.mode = .joined) } } t)
  ∧ (∀ s : State, PumpSafe s → RakeSafe s → s.line.mode = .joined → s.line.due = true →
    s.line.receiver = .outside → 10 ≤ s.line.recessiveRun → s.line.syncDriving = false →
    ∃ t, exec .syncDrive s = .next t ∧ Follows { s with line := { s.line with
      frameCells := 0, syncDriving := true, driver := .driving } } t)
  ∧ ∀ s : State, PumpSafe s → RakeSafe s → s.line.syncDriving = true → s.line.syncFail < 2 →
    ∃ t, exec .syncAttemptFail s = .next t ∧ Follows { s with line := { s.line with
      frameExpired := false, due := false, syncDriving := false
      driver := .released, syncFail := s.line.syncFail + 1 } } t

/-- O17. SYNC_LEADING_EDGE outside JOINED (R4, R5, R9, R16, R68): the frame is begun, the timers of the
line restart (the frame timer of an own attempt did so at SYNC_DRIVE, log 10), availability is formed,
nothing is driven. -/
def Obligations.FrameTaken : Prop :=
  ∀ s : State, PumpSafe s → RakeSafe s → s.line.receiver = .outside → 10 ≤ s.line.recessiveRun →
    s.line.mode ≠ .joined →
    ∃ t, exec .syncLeadingEdge s = .next t ∧ Follows { s with
      line := { s.line with
        receiver := .inside, recessiveRun := 0, frameExpired := false
        frameCells := if s.line.syncDriving then s.line.frameCells else 0
        silenceCells := 0, due := false, quiet := 0, syncDriving := false, noticeWon := false
        drive := none, syncFail := if s.line.syncDriving then 0 else s.line.syncFail }
      duty := { s.duty with availableAtStart := false } } t

/-- O18. SYNC_LEADING_EDGE of a JOINED station (R9 to R12, R14, R51, R73, R98, R125, R137, R175): every
cell of the frame it will drive, its claim keys, and what it takes with them, AVAILABLE as R68, R78 and
R79 have it among them; the head with which it contends goes in flight. A claim field reads its key, or
all ones with none. The start key of a pump in START_WAIT is its priority, its index capped at 7 (6 at
address 7) and its address; it goes before that of a rake in RK_WAIT, of priority 1 and position 7 (6 at
address 7). A holder's reporter key is its address, a claimant's 8 more. A notice key is the class of
the head, 0 for any at address 7, and the address. The frame timer of an own attempt restarted at
SYNC_DRIVE (log 10). The model's own: BEAT is inverted whatever becomes of the frame (log 35), and a
head that has used its eight attempts does not contend (log 29). -/
def Obligations.FrameDriven : Prop :=
  ∀ s : State, PumpSafe s → RakeSafe s → s.line.receiver = .outside → 10 ≤ s.line.recessiveRun →
    s.line.mode = .joined →
    ∃ t d, exec .syncLeadingEdge s = .next t ∧ t.line.drive = some d
      ∧ (∀ k < 8, d.cells.getLsbD k = decide (k < publishedStage s))
      ∧ d.cells.getLsbD 8 = isActive s .lowFloat ∧ d.cells.getLsbD 9 = overflowOpen s.ovf
      ∧ d.cells.getLsbD 10 = unackAsserted s
      ∧ d.cells.getLsbD 11 = (s.alarms.ackPress || s.alarms.ackTown)
      ∧ d.cells.getLsbD 19 = inrushAsserted s
      ∧ d.cells.getLsbD 24 = isActive s .supplyLow ∧ d.cells.getLsbD 25 = isActive s .tideClosed
      ∧ d.cells.getLsbD 26 = isActive s .highFloat ∧ d.cells.getLsbD 27 = isActive s .allStop
      ∧ startField d.cells = ((startKeyOf s).map (·.2)).getD 127
      ∧ reportField d.cells = (reportKeyOf s).getD 15
      ∧ noticeField d.cells = ((contendingHead s).map (noticeKey s)).getD 15
      ∧ shownEntry d.cells (ownAddress s) 0 = ⟨true, 0, s.duty.holdsLead, available s,
          runningAsserted s, s.duty.inrush.isSome, decide (s.screen.condition = .blocked),
          yieldingAsserted s, s.line.nextBeat, 0⟩
      ∧ d.cells.getLsbD (stationCell (ownAddress s)) = true
      ∧ (∀ a < 8, a ≠ ownAddress s → ∀ j < 8, d.cells.getLsbD (stationCell a + j) = false)
      ∧ (∀ k, 96 ≤ k → d.cells.getLsbD k = false)
      ∧ d.startKey = startKeyOf s ∧ d.reportKey = reportKeyOf s
      ∧ (s.duty.pump = .startWait → ∀ place, place = min (s.duty.index.getD 7) 7 →
          startKeyOf s = some (.duty,
            (if 0 < s.duty.unplanned ∨ s.duty.peerYielding = true then 0 else 64)
              + (if place = 7 ∧ ownAddress s = 7 then 6 else place) * 8 + ownAddress s))
      ∧ (s.duty.pump ≠ .startWait → s.screen.rake = .wait →
          startKeyOf s = some (.screen,
            64 + (if ownAddress s = 7 then 6 else 7) * 8 + ownAddress s))
      ∧ (s.duty.pump ≠ .startWait → s.screen.rake ≠ .wait → startKeyOf s = none)
      ∧ reportKeyOf s = (if s.reporter.mode = .active then some (ownAddress s)
          else if s.reporter.mode = .claiming then some (8 + ownAddress s) else none)
      ∧ (∀ e, contendingHead s = some e ↔ s.notices.holdoff = false ∧ s.notices.queue.head? = some e
          ∧ ¬(8 ≤ e.attempts ∧ e.inFlight = false))
      ∧ (∀ e, noticeKey s e
          = (if e.urgent = true ∨ ownAddress s = 7 then 0 else 8) + ownAddress s)
      ∧ (∀ e, contendingHead s = some e → d.body = bodyOf e ∧ d.check = crc8 (bodyOf e))
      ∧ t.line.nextBeat = !s.line.nextBeat ∧ t.line.driver = .driving ∧ t.line.receiver = .inside
      ∧ d.noticeKey = (contendingHead s).map (noticeKey s)
      ∧ (∀ e, contendingHead s = some e → (∀ c, rawCondition s c = (recordOf s c).raw) →
          ∃ rest, s.notices.queue = e :: rest
            ∧ t.notices.queue = { e with inFlight := true } :: rest)
      ∧ (contendingHead s = none → (∀ c, rawCondition s c = (recordOf s c).raw) →
          t.notices.queue = s.notices.queue)
      ∧ t.line.frameCells = (if s.line.syncDriving then s.line.frameCells else 0)
      ∧ t.line.due = false ∧ t.line.silenceCells = 0
      ∧ t.duty.availableAtStart = available s ∧ (available s = true ↔ IsAvailable s)
      ∧ t.alarms.ackPress = false ∧ t.alarms.ackTown = false ∧ t.notices.holdoff = false

/-- O19. NOTICE_CLAIM_WON (R13, R137): the body and check taken at frame start are driven, and the
holdoff is set. -/
def Obligations.NoticeDriven : Prop :=
  ∀ (field : BitVec 4) (s : State) (d : Drive), PumpSafe s → RakeSafe s →
    s.line.receiver = .inside → s.line.noticeWon = false → s.line.drive = some d →
    d.noticeKey = some field.toNat →
    ∃ t, exec (.noticeClaimWon field) s = .next t ∧ Follows { s with
      notices := { s.notices with holdoff := true }
      line := { s.line with
        noticeWon := true
        drive := some { d with cells := d.cells ||| noticeCells d.body d.check } } } t

/-- O20. GOOD_FRAME_END, the Line Interface. The peer table (R12, R23, R24): every entry but the own one
is brought up to date from its station field, the own one is as driven in JOINED and absent otherwise
(its last BEAT and beat-stuck count there are the model's choice, log 34); the common cells are as read;
the receiver is outside the frame; of what it meant to drive the station drove all but the rest of each
lost key. The counts of the line state (R7, R15, R17, R18, R21, R25): in LISTEN the run of good frames,
and the own-address count; in JOINED a clash isolates the station (before a third presence failure of
the same frame end, log 33), a pending ACK withdrawn and the holdoff cleared (R125, R137), else the
presence failures and the ALONE count go on; in LINE_FAULT the good frames, and the quiet count is the
run of recessive cells that ends the frame. Each count stops at its limit; that the change of line state
that R15, R17, R7, R21 or R25 gives there is a row of its own, which follows the frame end, and no part
of GOOD_FRAME_END, is the model's reading of the step table (log 4). -/
def Obligations.FrameUpdatesPeers : Prop :=
  ∀ (run : Nat) (c : Cells) (s : State), s.line.receiver = .inside → 4 ≤ run → run ≤ 6 →
    ∃ t, exec (.goodFrameEnd run c) s = .next t
      ∧ (∀ a < 8, a ≠ ownAddress s → peer t a =
          if c.getLsbD (stationCell a) then
            ⟨true, 0, c.getLsbD (stationCell a + 1), c.getLsbD (stationCell a + 2),
              c.getLsbD (stationCell a + 3), c.getLsbD (stationCell a + 4),
              c.getLsbD (stationCell a + 5), c.getLsbD (stationCell a + 6),
              c.getLsbD (stationCell a + 7),
              if (peer s a).heard ∧ (peer s a).age = 0 then
                if s.line.prevGood then
                  if c.getLsbD (stationCell a + 7) = (peer s a).lastBeat then
                    min ((peer s a).beatStuck + 1) 3
                  else 0
                else (peer s a).beatStuck
              else 0⟩
          else { peer s a with age := min ((peer s a).age + 1) 15 })
      ∧ (∀ d, s.line.mode = .joined → s.line.drive = some d →
          peer t (ownAddress s) = shownEntry d.cells (ownAddress s) 0)
      ∧ (s.line.mode ≠ .joined → peer t (ownAddress s) = PeerEntry.unheard)
      ∧ (s.line.drive = none → t.line.driven = none)
      ∧ (∀ d, s.line.drive = some d → ∃ v, t.line.driven = some v ∧ ∀ k < 136,
          (v.getLsbD k = true ↔ d.cells.getLsbD k = true
            ∧ ∀ first n, (first, n) ∈ [(12, 7), (20, 4), (28, 4)] → first ≤ k → k < first + n →
                ∀ j, first ≤ j → j < k → d.cells.getLsbD j = false → c.getLsbD j = false))
      ∧ t.line.prevGood = true ∧ t.line.common = commonOf c ∧ t.line.receiver = .outside
      ∧ t.line.drive = none ∧ t.line.noticeWon = false ∧ t.line.badFrames = s.line.badFrames
      ∧ ((∀ k < 136, c.getLsbD k = false) → t.line.quiet = 137)
      ∧ (∀ k < 136, c.getLsbD k = true → (∀ j < 136, k < j → c.getLsbD j = false) →
          t.line.quiet = 135 - k)
      ∧ (s.line.mode = .listen → t.line.mode = .listen
          ∧ t.line.goodRun = (if c.getLsbD (stationCell (ownAddress s)) then 0
              else min (s.line.goodRun + 1) 5)
          ∧ t.line.ownCount = (if c.getLsbD (stationCell (ownAddress s)) then
              min (s.line.ownCount + 1) 2 else s.line.ownCount))
      ∧ (∀ clash : Prop, (clash ↔ ∃ d, s.line.drive = some d ∧ ∃ i, 1 ≤ i ∧ i ≤ 7
            ∧ d.cells.getLsbD (stationCell (ownAddress s) + i) = false
            ∧ c.getLsbD (stationCell (ownAddress s) + i) = true) →
          s.line.mode = .joined →
          (clash → t.line.mode = .isolated ∧ t.line.driver = .cut ∧ t.line.due = false
            ∧ t.line.alone = false ∧ t.alarms.ackPress = false ∧ t.alarms.ackTown = false
            ∧ t.notices.holdoff = false)
          ∧ (¬clash → t.line.mode = .joined
            ∧ t.line.presenceFail = (if c.getLsbD (stationCell (ownAddress s)) then 0
                else min (s.line.presenceFail + 1) 3)
            ∧ ∀ fresh : Prop, (fresh ↔ ∃ a < 8, a ≠ ownAddress s ∧ freshAt t a = true) →
                (fresh → t.line.aloneCount = 0 ∧ t.line.alone = false)
                ∧ (¬fresh → t.line.aloneCount = min (s.line.aloneCount + 1) 10
                    ∧ t.line.alone = s.line.alone)))
      ∧ (s.line.mode = .lineFault → t.line.mode = .lineFault
          ∧ t.line.faultGood = min (s.line.faultGood + 1) 10)
      ∧ (s.line.mode = .isolated → t.line.mode = .isolated)
      ∧ (s.line.mode ≠ .listen →
          t.line.goodRun = s.line.goodRun ∧ t.line.ownCount = s.line.ownCount)
      ∧ (s.line.mode ≠ .joined → t.line.presenceFail = s.line.presenceFail
          ∧ t.line.aloneCount = s.line.aloneCount ∧ t.line.alone = s.line.alone)
      ∧ (s.line.mode ≠ .lineFault → t.line.faultGood = s.line.faultGood)
      ∧ t.time = s.time ∧ t.inputs = s.inputs ∧ t.straps = s.straps ∧ t.loader = s.loader
      ∧ t.cfg = s.cfg ∧ t.gate = s.gate ∧ t.chanA = s.chanA ∧ t.chanB = s.chanB ∧ t.ovf = s.ovf

/-- O21. GOOD_FRAME_END, the demand (R52, R53) and what the Duty Controller forms beside it (R69, R74,
R77, R81 to R83): outside LINE_FAULT, D_line is the highest stage whose cell read dominant, D_pre and
D_eff follow by the first row that applies, the old D_eff is kept; in LINE_FAULT none of them moves. The
lead is the lowest fresh address that shows LEAD; the duty list is the fresh addresses in order from it;
R counts those that show RUNNING without YIELDING; W, in JOINED, is those that show AVAILABLE without
RUNNING, and the index the bay's place in it. The previous running set becomes the other fresh addresses
that show RUNNING without YIELDING, kept with R and D_eff for the next frame end (R71). While yielding
stays set, the changeover timer goes to 0 where W is not empty and it has not reached 120 s (12000
ticks, log 47), and is kept elsewhere. At a cycle end a JOINED bay takes the lead where it is the first
fresh AVAILABLE address after the lead, and gives it up where another is (before the rule of two leads,
log 9); elsewhere it gives the lead up where a lower address shows it. The lead-unusable count goes up
to 50 while the lead's entry shows neither AVAILABLE nor RUNNING, else to 0, as without a lead. That the
handover at a count of 50 (R82) and the taking of a missing lead at 3 (R83) are rows of their own, which
follow the frame end and leave the lead as it is there, is the model's reading of the step table (log
4). -/
def Obligations.FrameFormsDemand : Prop :=
  ∀ (run : Nat) (c : Cells) (s : State), s.line.receiver = .inside → 4 ≤ run → run ≤ 6 →
    loaded s = true →
    ∃ t, exec (.goodFrameEnd run c) s = .next t
      ∧ (s.line.mode = .lineFault → t.stager = s.stager)
      ∧ (s.line.mode ≠ .lineFault →
          (∀ k < 8, c.getLsbD k = true → k + 1 ≤ t.stager.dLine)
          ∧ (t.stager.dLine = 0
            ∨ t.stager.dLine ≤ 8 ∧ c.getLsbD (t.stager.dLine - 1) = true)
          ∧ t.stager.dPre =
            (if c.getLsbD 26 then max t.stager.dLine s.cfg.highFloatStage else t.stager.dLine)
          ∧ t.stager.dEff = (if c.getLsbD 27 then 0 else if c.getLsbD 8 then 0 else t.stager.dPre)
          ∧ t.stager.prevDEff = s.stager.dEff ∧ t.stager.d = s.stager.d
          ∧ t.stager.usable = s.stager.usable)
      ∧ t.duty.lead = [0, 1, 2, 3, 4, 5, 6, 7].find? (fun a => freshAt t a && (peer t a).lead)
      ∧ t.duty.dutyList = ([0, 1, 2, 3, 4, 5, 6, 7].map fun i =>
          (t.duty.lead.getD 0 + i) % 8).filter (freshAt t)
      ∧ t.duty.runningCount = (t.duty.dutyList.filter fun a =>
          (peer t a).running && !(peer t a).yielding).length
      ∧ t.duty.waiting = (if t.line.mode = .joined then t.duty.dutyList.filter fun a =>
          (peer t a).available && !(peer t a).running else [])
      ∧ t.duty.index = t.duty.waiting.idxOf? (ownAddress s)
      ∧ t.duty.peerYielding = t.duty.dutyList.any (fun a => (peer t a).yielding)
      ∧ (∀ a, a ∈ t.duty.prevRunning ↔ a < 8 ∧ a ≠ ownAddress s ∧ freshAt t a = true
          ∧ (peer t a).running = true ∧ (peer t a).yielding = false)
      ∧ t.duty.prevR = t.duty.runningCount ∧ t.duty.prevDEff = t.stager.dEff
      ∧ (t.duty.yielding = true → t.duty.changeover =
          if t.duty.waiting ≠ [] ∧ s.duty.changeover < 12000 then 0 else s.duty.changeover)
      ∧ t.duty.supplyQuiet = (if c.getLsbD 24 then 0 else min (s.duty.supplyQuiet + 1) 51)
      ∧ t.duty.noLead = (if t.duty.lead = none then min (s.duty.noLead + 1) 3 else 0)
      ∧ (t.duty.lead = none → t.duty.leadUnusable = 0)
      ∧ (∀ l, t.duty.lead = some l → t.duty.leadUnusable =
          if (peer t l).available ∨ (peer t l).running then 0 else min (s.duty.leadUnusable + 1) 50)
      ∧ ∀ (busy cycleEnd : Prop), (busy ↔ 1 ≤ t.stager.dEff
            ∨ ∃ a ∈ t.duty.dutyList, (peer t a).running = true) →
          (cycleEnd ↔ s.duty.prevBusy = true ∧ ¬busy) →
          (t.duty.prevBusy = true ↔ busy)
          ∧ (t.line.mode = .joined →
            ∀ next : Option Nat, next = t.duty.lead.bind (fun l =>
                ([1, 2, 3, 4, 5, 6, 7].map fun i => (l + i) % 8).find? fun a =>
                  freshAt t a && (peer t a).available) →
            (∀ n, cycleEnd → next = some n → (t.duty.holdsLead = true ↔ n = ownAddress s))
            ∧ (¬cycleEnd ∨ next = none → (t.duty.holdsLead = true ↔
                s.duty.holdsLead = true ∧ ∀ l, t.duty.lead = some l → ownAddress s ≤ l)))

/-- O22. BAD_FRAME (R8, R13, R21, R24): the frame is counted and found bad, the runs of good frames
break, the receiver searches; no peer but the own entry changes; a notice in flight is in flight no
longer, its claim's result not carried where it was won, and lost where not (R13, R138), and nothing
else follows; the quiet count is 1 at the recessive cell that ends a short run, and 0 at a seventh
dominant cell. That the own entry takes the values of a frame that was driven no further than its sync
is the model's choice (log 41), and so are its last BEAT and beat-stuck count outside JOINED (log 34).
-/
def Obligations.BadFrameCounted : Prop :=
  ∀ (run : Nat) (s : State), PumpSafe s → RakeSafe s → s.line.receiver = .inside →
    1 ≤ run ∧ run ≤ 3 ∨ run = 7 →
    ∃ t, exec (.badFrame run) s = .next t
      ∧ t.line = { s.line with
          badFrames := min (s.line.badFrames + 1) 255, prevGood := false, receiver := .searching
          recessiveRun := 0, goodRun := 0, faultGood := 0, drive := none, noticeWon := false
          peers := s.line.peers.set (ownAddress s) (ownEntry s)
          quiet := if run = 7 then 0 else 1
          driver := if s.line.driver = .cut then .cut else .released }
      ∧ t.duty = s.duty ∧ t.screen = s.screen ∧ t.stager = s.stager ∧ t.ovf = s.ovf
      ∧ t.chanA = s.chanA ∧ t.chanB = s.chanB ∧ t.inputs = s.inputs ∧ t.time = s.time
      ∧ (∀ d, s.line.drive = some d → d.noticeKey ≠ none →
          t.notices.queue.all (!·.inFlight) = true
          ∧ Follows { noticeResult (if s.line.noticeWon then .notCarried else .lost) s with
              line := t.line } t)
      ∧ ((∀ d, s.line.drive = some d → d.noticeKey = none) → Follows { s with line := t.line } t)

/-- O23. LINE_IDLE, RECEIVER_IN_STEP, DOMINANT_CELL_BEFORE_IDLE, JOIN and SILENCE_TIMER_EXPIRY (R4, R11,
R15, R16): the receiver's condition or the line state, and nothing else. -/
def Obligations.LineConditions : Prop :=
  (∀ (n : Nat) (s : State), PumpSafe s → RakeSafe s → s.line.receiver = .outside → 10 ≤ n →
    ∃ t, exec (.lineIdle n) s = .next t
      ∧ Follows { s with line := { s.line with recessiveRun := n } } t)
  ∧ (∀ (n : Nat) (s : State), PumpSafe s → RakeSafe s → captured s = true →
    s.line.receiver = .searching → 150 ≤ n →
    ∃ t, exec (.receiverInStep n) s = .next t
      ∧ Follows { s with line := { s.line with receiver := .outside, recessiveRun := n } } t)
  ∧ (∀ s : State, PumpSafe s → RakeSafe s → captured s = true →
    s.line.receiver = .searching ∨ s.line.receiver = .outside ∧ s.line.recessiveRun < 10 →
    ∃ t, exec .dominantCellBeforeIdle s = .next t
      ∧ Follows { s with line := { s.line with
          receiver := .searching, recessiveRun := 0, quiet := 0 } } t)
  ∧ (∀ s : State, PumpSafe s → RakeSafe s → s.line.mode = .listen → 5 ≤ s.line.goodRun →
    ∃ t, exec .join s = .next t
      ∧ Follows { s with line := { s.line with mode := .joined, due := false, nextBeat := true } } t)
  ∧ ∀ s : State, PumpSafe s → RakeSafe s → captured s = true → s.line.mode = .listen →
    3000 ≤ s.line.silenceCells →
    ∃ t, exec .silenceTimerExpiry s = .next t
      ∧ Follows { s with line := { s.line with mode := .joined, due := true, nextBeat := true } } t

/-- O24. OWN_ADDRESS_ISOLATE and JABBER_TRIP (R17, R19, R22, R85): the driver is cut, the bay runs its
pump no longer but in HAND, makes no claim, holds no lead and no role. A frame in progress is bad,
counted, and the receiver searches (R8); on leaving JOINED the holdoff clears and a pending ACK is
withdrawn and taken as a local acknowledgment (R125, R137). That a local call of LINE_FAULT ends with
its delay is the model's reading (log 31), and so is the absent own entry of a broken frame (log 17);
that the acknowledgment comes before the other changes of that moment is its choice (log 20), and so is
what comes of QUEUE_LOSS where its own notices discard an entry (log 51). -/
def Obligations.Isolates : Prop :=
  ∀ (c : Instr) (s : State), LineSafe s → ReporterSafe s →
    (c = .ownAddressIsolate ∧ s.line.mode = .listen ∧ 2 ≤ s.line.ownCount)
      ∨ (∃ n, c = .jabberTrip n ∧ 160 < n ∧ captured s = true ∧ s.line.mode ≠ .isolated) →
    ∃ t, exec c s = .next t
      ∧ t.line.mode = .isolated ∧ t.line.driver = .cut ∧ t.line.due = false
      ∧ t.line.syncDriving = false ∧ t.line.drive = none ∧ t.line.alone = false
      ∧ t.duty.pump ≠ .starting ∧ t.duty.pump ≠ .running ∧ t.duty.pump ≠ .startWait
      ∧ t.duty.holdsLead = false ∧ t.stager.localCall = false ∧ t.duty.fallbackDelay = .stopped
      ∧ t.reporter.mode ≠ .active ∧ t.reporter.mode ≠ .claiming
      ∧ BrokenOff s t ∧ (s.line.receiver ≠ .inside → t.line.receiver = s.line.receiver)
      ∧ t.line.stuck = s.line.stuck
      ∧ t.time = s.time ∧ t.inputs = s.inputs ∧ t.cfg = s.cfg ∧ t.ovf = s.ovf ∧ t.gate = s.gate
      ∧ t.chanA = s.chanA ∧ t.chanB = s.chanB

/-- O25. PRESENCE_FAULT, a third SYNC_ATTEMPT_FAIL and STUCK_CONDITION (R7, R20, R21, R56, R57): the
station is in LINE_FAULT with its driver released, and works to the local demand of its own floats and
its own stage. A frame in progress is bad, counted, and the receiver searches (R8), as it does with the
stuck condition whatever went before; on leaving JOINED the holdoff clears and a pending ACK is
withdrawn and taken as a local acknowledgment (R125, R137). STUCK_CONDITION in ISOLATED or LINE_FAULT
(R20, R21): the state is kept, the condition noted, the quiet count 0, the receiver searching. The
absent own entry of a broken frame, and a frame broken by a stuck line there, are the model's reading
(log 17); that the acknowledgment comes before the other changes of that moment is its choice (log 20),
and so is what comes of QUEUE_LOSS where its own notices discard an entry (log 51). -/
def Obligations.LineFaults : Prop :=
  (∀ (c : Instr) (s : State), LineSafe s → ReporterSafe s → loaded s = true →
    (c = .presenceFault ∧ s.line.mode = .joined ∧ 3 ≤ s.line.presenceFail)
      ∨ (c = .syncAttemptFail ∧ s.line.syncDriving = true ∧ 2 ≤ s.line.syncFail)
      ∨ (∃ n, c = .stuckCondition n ∧ 160 < n ∧ s.line.stuck ≤ 160
          ∧ (s.line.mode = .listen ∨ s.line.mode = .joined)) →
    ∃ t, exec c s = .next t
      ∧ t.line.mode = .lineFault ∧ t.line.driver = .released ∧ t.line.due = false
      ∧ t.line.syncDriving = false ∧ t.line.drive = none ∧ t.line.goodRun = 0
      ∧ t.line.faultGood = 0 ∧ t.line.quiet = 0 ∧ t.line.alone = false
      ∧ t.stager.dPre = (if isActive s .highFloat then max s.stager.d s.cfg.highFloatStage
          else s.stager.d)
      ∧ t.stager.dEff = (if isActive s .allStop then 0 else if isActive s .lowFloat then 0
          else t.stager.dPre)
      ∧ t.stager.prevDEff = s.stager.dEff ∧ t.stager.d = s.stager.d
      ∧ t.stager.dLine = s.stager.dLine
      ∧ t.stager.localCall = decide (ownAddress s + 1 ≤ t.stager.dEff)
      ∧ t.duty.pump ≠ .startWait ∧ t.duty.holdsLead = false
      ∧ t.reporter.mode ≠ .active ∧ t.reporter.mode ≠ .claiming
      ∧ BrokenOff s t
      ∧ (∀ n, c = .stuckCondition n →
          t.line.stuck = n ∧ t.line.receiver = .searching ∧ t.line.recessiveRun = 0)
      ∧ ((∀ n, c ≠ .stuckCondition n) → t.line.stuck = s.line.stuck
          ∧ (s.line.receiver ≠ .inside → t.line.receiver = s.line.receiver))
      ∧ t.time = s.time ∧ t.inputs = s.inputs ∧ t.cfg = s.cfg ∧ t.ovf = s.ovf ∧ t.gate = s.gate
      ∧ t.chanA = s.chanA ∧ t.chanB = s.chanB)
  ∧ ∀ (n : Nat) (s : State), PumpSafe s → RakeSafe s → LineSafe s → captured s = true → 160 < n →
    s.line.stuck ≤ 160 → s.line.mode = .isolated ∨ s.line.mode = .lineFault →
    ∃ t, exec (.stuckCondition n) s = .next t
      ∧ (s.line.receiver ≠ .inside → Follows { s with line := { s.line with
          stuck := n, quiet := 0, receiver := .searching, recessiveRun := 0 } } t)
      ∧ (s.line.receiver = .inside → Follows { s with line := { s.line with
          stuck := n, quiet := 0, receiver := .searching, recessiveRun := 0
          badFrames := min (s.line.badFrames + 1) 255, prevGood := false
          goodRun := 0, faultGood := 0, drive := none, noticeWon := false
          peers := s.line.peers.set (ownAddress s) PeerEntry.unheard
          driver := if s.line.driver = .cut then .cut else .released } } t)

/-- O26. STUCK_CONDITION_CLEAR, LINE_FAULT_FRAMES_RECOVER and LINE_FAULT_QUIET_RECOVER (R15, R20, R21,
R57, R86): LISTEN with the runs and counts at 0, the peer table and the bad-frame counter kept, the
local call off, the demands kept. The quiet recovery needs its 3000 cells both as reported and as counted
since the entry, the last dominant cell or the end of the stuck condition (the model's form, log 3). -/
def Obligations.LineRecovers : Prop :=
  (∀ s : State, PumpSafe s → RakeSafe s → 160 < s.line.stuck →
    ∃ t, exec .stuckConditionClear s = .next t
      ∧ Follows { s with line := { s.line with stuck := 0, quiet := 0 } } t)
  ∧ ∀ (c : Instr) (s : State), s.line.mode = .lineFault →
    (c = .lineFaultFramesRecover ∧ 10 ≤ s.line.faultGood)
      ∨ (∃ n, c = .lineFaultQuietRecover n ∧ 3000 ≤ n ∧ 3000 ≤ s.line.quiet ∧ s.line.stuck ≤ 160
          ∧ s.line.receiver ≠ .inside) →
    ∃ t, exec c s = .next t
      ∧ t.line = { s.line with
          mode := .listen, driver := .released, silenceCells := 0, goodRun := 0, ownCount := 0
          syncFail := 0, presenceFail := 0, jabber := 0, stuck := 0, faultGood := 0, quiet := 0
          aloneCount := 0, alone := false }
      ∧ t.stager = { s.stager with localCall := false } ∧ t.duty.fallbackDelay = .stopped
      ∧ t.time = s.time ∧ t.inputs = s.inputs ∧ t.cfg = s.cfg ∧ t.ovf = s.ovf ∧ t.gate = s.gate
      ∧ t.chanA = s.chanA ∧ t.chanB = s.chanB

/-- O27. ALONE_DETECT, NO_LEAD_TAKE and LEAD_UNUSABLE_HANDOVER (R25, R70, R81 to R83). A bay takes the
lead by its availability at the frame end it belongs to. That a handover lets a bay take the lead again
that it gave up to a lower lead at the same frame end is the model's choice (log 9). -/
def Obligations.LeadAndAlone : Prop :=
  (∀ s : State, PumpSafe s → RakeSafe s → s.line.mode = .joined → 10 ≤ s.line.aloneCount →
    ∃ t, exec .aloneDetect s = .next t ∧ Follows { s with line := { s.line with alone := true } } t)
  ∧ (∀ s : State, PumpSafe s → RakeSafe s → s.line.mode = .joined → 3 ≤ s.duty.noLead →
    s.duty.availableAtEnd = true → freshAt s (ownAddress s) = true →
    (peer s (ownAddress s)).available = true →
    (∀ a < ownAddress s, ¬(freshAt s a = true ∧ (peer s a).available = true)) →
    ∃ t, exec .noLeadTake s = .next t
      ∧ Follows { s with duty := { s.duty with holdsLead := true } } t)
  ∧ ∀ s : State, PumpSafe s → RakeSafe s → s.line.mode = .joined → 50 ≤ s.duty.leadUnusable →
    ∃ t, exec .leadUnusableHandover s = .next t
      ∧ (nextLead s = none → Follows s t)
      ∧ ∀ n, nextLead s = some n → Follows { s with duty := { s.duty with
          holdsLead := decide (n = ownAddress s), leadUnusable := 0 } } t

/-! ### Notices -/

/-- O28. Handing a notice (R133 to R136, R165): a waiting ALARM of the code is replaced in its place;
with room the entry joins, urgent behind the last urgent, routine at the tail; from a full queue the
oldest routine entry not in flight goes first, or else the oldest urgent one, and is counted lost, and a
COMMAND of the pending command lost so ends it. The results of a claim (R138): carried, the entry
leaves; lost or not carried, it stays with its attempts and takes what a fresh entry of its code brings
(R135). GOOD_FRAME_END takes the result (R13): carried where the claim was won and the 40 cells of body
and check read back as driven, not carried where one differs, lost where the claim was not won, and none
where the bay did not contend; where nothing else is handed there the queue is what that result leaves,
but for the marks of a pending command that ends. It reads the frame's notice, its COMMAND and its
holder, in every line state but LINE_FAULT (R140, R142, R144). The model's own: that a spent entry, at 8
attempts, is not merged into, and that until its drop it fills a place of the queue and can be the one
discarded (both choices of log 29); and that a COMMAND is only noted at the frame end, in the place of
one that no row has yet applied, its effect being a row of its own (log 4). -/
def Obligations.NoticeHanded : Prop :=
  (∀ (s : State) (e : NoticeEntry), e.kind = .alarm →
    s.notices.queue.any (fun x => x.kind == .alarm && x.code == e.code && !x.inFlight
      && decide (x.attempts < 8)) = true →
    (handNotice s e).notices.queue = s.notices.queue.map fun x =>
      if x.kind = .alarm ∧ x.code = e.code ∧ x.inFlight = false ∧ x.attempts < 8 then
        { x with state := e.state, value := e.value, urgent := e.urgent }
      else x)
  ∧ (∀ (s : State) (e : NoticeEntry) (urgent routine : List NoticeEntry),
    mergeable s.notices.queue e = false → s.notices.queue = urgent ++ routine →
    urgent.all (·.urgent) = true → routine.all (!·.urgent) = true →
    s.notices.queue.length < 16 →
    handNotice s e = { s with notices := { s.notices with queue :=
      if e.urgent then urgent ++ e :: routine else urgent ++ routine ++ [e] } })
  ∧ (∀ (s : State) (e v : NoticeEntry) (before after : List NoticeEntry),
    mergeable s.notices.queue e = false → s.notices.queue.length = 16 →
    s.notices.queue = before ++ v :: after → v.inFlight = false → v.forContext = false →
    (v.urgent = false → before.all (fun x => x.urgent || x.inFlight) = true) →
    (v.urgent = true → before.all (·.inFlight) = true
      ∧ after.all (fun x => x.urgent || x.inFlight) = true) →
    (handNotice s e).notices.queue = joinQueue (before ++ after) e
      ∧ (handNotice s e).notices.lost = min (s.notices.lost + 1) 255
      ∧ (handNotice s e).alarms.queueLoss = some 0 ∧ (handNotice s e).reporter = s.reporter)
  ∧ (∀ (s : State) (e v : NoticeEntry) (before after : List NoticeEntry) (c : CommandContext),
    mergeable s.notices.queue e = false → s.notices.queue.length = 16 →
    s.notices.queue = before ++ v :: after → v.inFlight = false → v.forContext = true →
    s.reporter.command = some c →
    (v.urgent = false → before.all (fun x => x.urgent || x.inFlight) = true) →
    (v.urgent = true → before.all (·.inFlight) = true
      ∧ after.all (fun x => x.urgent || x.inFlight) = true) →
    (handNotice s e).notices.queue
        = joinQueue ((before ++ after).map fun x => { x with forContext := false }) e
      ∧ (handNotice s e).notices.lost = min (s.notices.lost + 1) 255
      ∧ (handNotice s e).alarms.queueLoss = some 0
      ∧ (handNotice s e).reporter = { s.reporter with
          command := none, answers := s.reporter.answers ++ [⟨.refused 4, c.type, c.seq⟩] })
  ∧ (∀ (s : State) (e : NoticeEntry) (before after : List NoticeEntry),
    s.notices.queue = before ++ e :: after → e.inFlight = true →
    (before ++ after).all (!·.inFlight) = true →
    (noticeResult .carried s).notices.queue = before ++ after
    ∧ (noticeResult .carried s).reporter.command = (if e.forContext then
        s.reporter.command.map fun c => { c with carried := true } else s.reporter.command)
    ∧ ∀ (r : NoticeResult) (attempts : Nat),
      (r = .lost ∧ attempts = e.attempts) ∨ (r = .notCarried ∧ attempts = min (e.attempts + 1) 8) →
      (e.kind ≠ .alarm ∨ 8 ≤ attempts ∨ (before ++ after).any (waitingAlarm e.code) = false →
        (noticeResult r s).notices.queue
          = before ++ { e with inFlight := false, attempts := attempts } :: after)
      ∧ (∀ f, e.kind = .alarm → attempts < 8 →
        (before ++ after).find? (waitingAlarm e.code) = some f →
        (noticeResult r s).notices.queue = before.filter (!waitingAlarm e.code ·)
          ++ { e with
            inFlight := false, attempts := attempts, state := f.state, value := f.value
            urgent := f.urgent } :: after.filter (!waitingAlarm e.code ·)))
  ∧ (∀ (c : Cells) (r : Received), noticeOf c = some r ↔
    noticeField c ≠ 15 ∧ crc8 (bodyField c) = checkField c ∧ receivedOf (bodyField c) = some r)
  ∧ ∀ (run : Nat) (c : Cells) (s : State), s.line.receiver = .inside → 4 ≤ run → run ≤ 6 →
    ∃ t, exec (.goodFrameEnd run c) s = .next t
      ∧ (s.line.mode ≠ .lineFault →
        t.notices.checkFail = (if noticeField c ≠ 15 ∧ noticeOf c = none then
          min (s.notices.checkFail + 1) 255 else s.notices.checkFail)
        ∧ (∀ r, noticeOf c = some r → r.kind = .command → r.subject = ownAddress s →
            t.notices.command = some r.code)
        ∧ ((∀ r, noticeOf c = some r → r.kind ≠ .command ∨ r.subject ≠ ownAddress s) →
            t.notices.command = none)
        ∧ t.notices.lastHolder = (if c.getLsbD 20 then some (numericField c 21 3)
            else s.notices.lastHolder))
      ∧ (s.line.mode = .lineFault → t.notices.checkFail = s.notices.checkFail
        ∧ t.notices.command = s.notices.command ∧ t.notices.lastHolder = s.notices.lastHolder)
      ∧ (∀ d, s.line.drive = some d → d.noticeKey ≠ none →
          t.notices.queue.all (!·.inFlight) = true)
      ∧ (∀ (d : Drive) (r : NoticeResult), s.line.drive = some d → d.noticeKey ≠ none →
          (r = .carried ↔ s.line.noticeWon = true
            ∧ ∀ k, 96 ≤ k → k < 136 → c.getLsbD k = d.cells.getLsbD k) →
          (r = .lost ↔ s.line.noticeWon = false) →
          (∀ (e : NoticeEntry) (k k' : CommandContext), s.notices.queue.find? (·.inFlight) = some e →
            e.forContext = true → s.reporter.command = some k → k.carried = false →
            t.reporter.command = some k' → (k'.carried = true ↔ r = .carried))
          ∧ (t.line.mode = s.line.mode → c.getLsbD 11 = false →
            t.notices.lastHolder = s.notices.lastHolder →
            (∀ code, rawCondition t code = (recordOf s code).raw) →
            (t.notices.queue.map fun x => { x with forContext := false })
                = ((noticeResult r s).notices.queue.map fun x => { x with forContext := false })
              ∧ (t.reporter.mode = s.reporter.mode →
                s.reporter.command = none ∨ t.reporter.command ≠ none →
                t.notices.queue = (noticeResult r s).notices.queue)))
      ∧ ((∀ d, s.line.drive = some d → d.noticeKey = none) → t.line.mode = s.line.mode →
          c.getLsbD 11 = false → t.notices.lastHolder = s.notices.lastHolder →
          (∀ code, rawCondition t code = (recordOf s code).raw) →
          (t.notices.queue.map fun x => { x with forContext := false })
            = (s.notices.queue.map fun x => { x with forContext := false }))

/-- O29. NOTICE_DROP (R133, R138, R165): the spent entry leaves the queue and is counted lost; a spent
COMMAND of the pending command ends it. -/
def Obligations.NoticeDropped : Prop :=
  ∀ (s : State) (e : NoticeEntry) (before after : List NoticeEntry), PumpSafe s → RakeSafe s →
    s.notices.queue = before ++ e :: after → before.any spent = false →
    8 ≤ e.attempts → e.inFlight = false →
    ∃ t, exec .noticeDrop s = .next t
      ∧ (e.forContext = false → Follows { s with
          notices := { s.notices with
            queue := before ++ after, lost := min (s.notices.lost + 1) 255 }
          alarms := { s.alarms with queueLoss := some 0 } } t)
      ∧ (∀ c, e.forContext = true → s.reporter.command = some c → Follows { s with
          notices := { s.notices with
            queue := (before ++ after).map fun x => { x with forContext := false }
            lost := min (s.notices.lost + 1) 255 }
          alarms := { s.alarms with queueLoss := some 0 }
          reporter := { s.reporter with
            command := none
            answers := s.reporter.answers ++ [⟨.refused 4, c.type, c.seq⟩] } } t)

/-- O30. The three COMMAND rows (R84, R142): the inhibit flag set or cleared, acting on a pump in
AUTO, or a code not known; each hands its COMMAND_RESULT, whether the flag changes or not, ahead of the
ALARM notice of OUT_OF_SERVICE that it may bring (the example after R165; for a cleared flag the model's
reading, log 50). -/
def Obligations.CommandsApplied : Prop :=
  (∀ s : State, PumpSafe s → RakeSafe s → ModeSafe s → s.notices.command = some 1 →
    ∃ t, exec .commandSetInhibit s = .next t
      ∧ t.duty.inhibit = true ∧ t.notices.command = none
      ∧ t.duty.pump = (if s.duty.mode = .auto ∧ s.duty.pump ≠ .faulted then .outOfService
          else s.duty.pump)
      ∧ (s.duty.mode = .auto → t.duty.contactor = false)
      ∧ Follows (handNotice { s with
            notices := { s.notices with command := none }
            duty := if s.duty.mode = .auto ∧ s.duty.pump ≠ .faulted then
                { (if s.duty.contactor then { s.duty with
                    contactor := false, minOff := if s.cfg.tMinOff = 0 then none else some 0
                    inrush := none, confirm := none, runLoss := none, minRun := none, contRun := 0
                    confirmed := false, yielding := false, changeover := 0
                    changeoverBlocked := false }
                  else s.duty) with inhibit := true, pump := .outOfService }
              else { s.duty with inhibit := true } }
          (newEntry .commandResult (ownAddress s) 1 0 0 true)) t)
  ∧ (∀ s : State, PumpSafe s → RakeSafe s → ModeSafe s → s.notices.command = some 2 →
    ∃ t, exec .commandClearInhibit s = .next t
      ∧ t.duty.inhibit = false ∧ t.notices.command = none
      ∧ t.duty.pump = (if s.duty.mode = .auto ∧ s.duty.pump = .outOfService then
          if s.duty.minOff = none ∧ loaded s = true then .idle else .lockedOff
          else s.duty.pump)
      ∧ Follows (handNotice { s with
            notices := { s.notices with command := none }
            duty := if s.duty.mode = .auto ∧ s.duty.pump = .outOfService then
                if s.duty.minOff = none ∧ loaded s = true then { s.duty with
                  inhibit := false, pump := .idle
                  fallbackDelay := if s.stager.localCall then
                    if ownAddress s = 0 then .expired else .running 0
                    else s.duty.fallbackDelay }
                else { s.duty with inhibit := false, pump := .lockedOff }
              else { s.duty with inhibit := false } }
          (newEntry .commandResult (ownAddress s) 2 0 0 true)) t)
  ∧ ∀ (s : State) (code : Nat), PumpSafe s → RakeSafe s → s.notices.command = some code →
    code ≠ 1 → code ≠ 2 →
    ∃ t, exec .commandOtherCode s = .next t ∧ Follows (handNotice
      { s with notices := { s.notices with command := none } }
      (newEntry .commandResult (ownAddress s) code 1 0 true)) t

/-! ### The reporter's role and its counts -/

/-- O31. PAIRING_TIMEOUT and COMMAND_TIMEOUT (R153, R155, R165): the waiting OVERFLOW_END builds its
event without a duration; the command from town ends with a refusal. The building of records (R153 to
R156): each record is stamped and numbered into the history ring of 64; on the ACTIVE reporter it joins
the queue of its class, merging into a waiting ALARM of its station and code, or from a full queue
discarding the oldest that is not in flight, which is counted; what each kind of notice builds, the
pairing of OVERFLOW_END and OVERFLOW_TIME, an OVERFLOW_END that arrives while one waits, the alarm view,
and the COMMAND_RESULT that ends the command it answers. At a good frame end (R140, R141, R153, R165)
the frame's valid notice is handed to a reporter that is not NONE, outside LINE_FAULT, and builds its
record; then each waiting OVERFLOW_END counts the frame end; the alarm view of a station whose entry
ceases to be fresh there is emptied, before that notice; a command carried before it counts it too,
unless its result ended it. Both counts stop at 20; that the event without a duration and the refusal
come there by rows of their own, which follow the frame end, is the model's reading of the step table
(log 4). -/
def Obligations.ReporterTimeouts : Prop :=
  (∀ (a : Fin 8) (s : State) (w : WaitingEnd), waitingEndOf s a.val = some w → 20 ≤ w.count →
    ∃ t, exec (.pairingTimeout a) s = .next t
      ∧ t.reporter.pairing = s.reporter.pairing.set a.val none
      ∧ t.reporter.history = (if 64 ≤ s.reporter.history.length then s.reporter.history.drop 1
          else s.reporter.history) ++ [⟨.overflowEvent, a.val, 0, w.flags, w.volume, none,
          s.reporter.clock.map fun c => (c.day, c.minute)⟩]
      ∧ t.reporter.nextNumber = (s.reporter.nextNumber + 1) % 65536
      ∧ (s.reporter.mode ≠ .active → t.reporter.urgentQueue = s.reporter.urgentQueue)
      ∧ (s.reporter.mode = .active → s.reporter.urgentQueue.length < 16 →
          t.reporter.urgentQueue = s.reporter.urgentQueue ++ [⟨⟨.overflowEvent, a.val, 0, w.flags,
            w.volume, none, s.reporter.clock.map fun c => (c.day, c.minute)⟩, false⟩])
      ∧ t.reporter.mode = s.reporter.mode ∧ t.line = s.line ∧ t.ovf = s.ovf ∧ t.time = s.time)
  ∧ (∀ (s : State) (c : CommandContext), PumpSafe s → RakeSafe s → s.reporter.command = some c →
    c.carried = true → 20 ≤ c.count →
    ∃ t, exec .commandTimeout s = .next t ∧ Follows { s with
      reporter := { s.reporter with
        command := none
        answers := s.reporter.answers ++ [⟨.refused 4, c.type, c.seq⟩] }
      notices := { s.notices with
        queue := s.notices.queue.map fun x => { x with forContext := false } } } t)
  ∧ (∀ (cap : Nat) (q : List QueuedRecord) (r : ReportRecord),
    ((∃ x ∈ q, r.kind = .alarm ∧ x.record.kind = .alarm ∧ x.record.station = r.station
        ∧ x.record.code = r.code ∧ x.inFlight = false) →
      joinReports cap q r = (q.map fun x =>
        if r.kind = .alarm ∧ x.record.kind = .alarm ∧ x.record.station = r.station
            ∧ x.record.code = r.code ∧ x.inFlight = false then
          { x with record := { x.record with
            state := r.state, value1 := r.value1, stamp := r.stamp } }
        else x, false))
    ∧ ((∀ x ∈ q, r.kind = .alarm → x.record.kind = .alarm → x.record.station = r.station →
        x.record.code = r.code → x.inFlight = true) →
      (q.length < cap → joinReports cap q r = (q ++ [⟨r, false⟩], false))
      ∧ ∀ before x after, cap ≤ q.length → q = before ++ x :: after →
          before.all (·.inFlight) = true → x.inFlight = false →
          joinReports cap q r = (before ++ after ++ [⟨r, false⟩], true)))
  ∧ (∀ (urgent : Bool) (r : ReportRecord) (s : State),
    (s.reporter.mode ≠ .active → enqueueReport urgent r s = s)
    ∧ (s.reporter.mode = .active → ∀ q lost,
      joinReports (if urgent then 16 else 32)
        (if urgent then s.reporter.urgentQueue else s.reporter.routineQueue) r = (q, lost) →
      enqueueReport urgent r s = { s with reporter := { s.reporter with
        urgentQueue := if urgent then q else s.reporter.urgentQueue
        routineQueue := if urgent then s.reporter.routineQueue else q
        lostReports := if lost then min (s.reporter.lostReports + 1) 255 else s.reporter.lostReports
        lossPending := s.reporter.lossPending || lost } })
    ∧ ∀ built, built = { r with stamp := s.reporter.clock.map fun c => (c.day, c.minute) } →
      buildRecord urgent r s = enqueueReport urgent built { s with reporter := { s.reporter with
        history := (if 64 ≤ s.reporter.history.length then s.reporter.history.drop 1
          else s.reporter.history) ++ [built]
        nextNumber := (s.reporter.nextNumber + 1) % 65536 } })
  ∧ (∀ (run : Nat) (c : Cells) (s : State), s.line.receiver = .inside → 4 ≤ run → run ≤ 6 →
    ∃ t, exec (.goodFrameEnd run c) s = .next t
      ∧ (∀ heard : Option Received,
          heard = (if s.line.mode = .lineFault ∨ s.reporter.mode = .none then none else noticeOf c) →
        ∀ u : State, u = (match heard with
          | some n => recordNotice n s
          | none => s) →
        t.reporter.pairing = (if s.line.mode = .lineFault then s.reporter.pairing
          else u.reporter.pairing.map (Option.map fun w => { w with count := min (w.count + 1) 20 }))
        ∧ (∀ a k, a < 8 → a < s.reporter.alarmView.length →
          (∀ n, heard = some n → n.kind = .alarm → n.subject = a → n.code = k →
            (k ∈ t.reporter.alarmView.getD a [] ↔ n.state = 1 ∨ n.state = 3))
          ∧ ((∀ n, heard = some n → n.kind ≠ .alarm ∨ n.subject ≠ a ∨ n.code ≠ k) →
            (k ∈ t.reporter.alarmView.getD a [] ↔ k ∈ s.reporter.alarmView.getD a []
              ∧ ¬(freshAt s a = true ∧ freshAt t a = false))))
        ∧ (t.reporter.mode = s.reporter.mode →
          t.reporter.history = u.reporter.history ∧ t.reporter.nextNumber = u.reporter.nextNumber
          ∧ t.reporter.urgentQueue = u.reporter.urgentQueue
          ∧ t.reporter.routineQueue = u.reporter.routineQueue
          ∧ t.reporter.lostReports = u.reporter.lostReports
          ∧ t.reporter.lossPending = u.reporter.lossPending)
        ∧ ∀ k, s.reporter.command = some k → t.reporter.mode = s.reporter.mode →
          s.reporter.mode = .active →
          (k.carried = true → s.notices.queue.all (!·.forContext) = true →
            t.reporter.command = u.reporter.command.map (fun x => { x with
              count := min (x.count + 1) 20 })
            ∧ t.reporter.answers = u.reporter.answers)
          ∧ (k.carried = false → t.reporter.command = none ∨ t.reporter.command = some k
            ∨ t.reporter.command = some { k with carried := true })))
  ∧ ∀ (n : Received) (s : State),
    (n.kind = .alarm → (∃ view, recordNotice n s = { buildRecord (urgentNumber n.code)
          ⟨.alarm, n.subject, n.code, n.state, n.value, none, none⟩ s with
        reporter := { (buildRecord (urgentNumber n.code)
          ⟨.alarm, n.subject, n.code, n.state, n.value, none, none⟩ s).reporter with
            alarmView := view } })
      ∧ ∀ a < s.reporter.alarmView.length, ∀ k,
        k ∈ (recordNotice n s).reporter.alarmView.getD a [] ↔
          if a = n.subject ∧ k = n.code then n.state = 1 ∨ n.state = 3
          else k ∈ s.reporter.alarmView.getD a [])
    ∧ (n.kind = .overflowStart → recordNotice n s
        = buildRecord true ⟨.overflowStart, n.subject, 0, 0, n.value, none, none⟩ s)
    ∧ (n.kind = .summary → recordNotice n s
        = buildRecord false ⟨.summary, n.subject, n.code, 0, n.value, none, none⟩ s)
    ∧ (n.kind = .overflowEnd → waitingEndOf s n.subject = none → recordNotice n s = { s with
        reporter := { s.reporter with
          pairing := s.reporter.pairing.set n.subject (some ⟨n.state, n.value, 0⟩) } })
    ∧ (∀ w, n.kind = .overflowTime → waitingEndOf s n.subject = some w → w.count < 20 →
        recordNotice n s = buildRecord true
          ⟨.overflowEvent, n.subject, n.code, w.flags, w.volume, some n.value, none⟩
          { s with reporter := { s.reporter with
            pairing := s.reporter.pairing.set n.subject none } })
    ∧ (n.kind = .overflowTime → waitingEndOf s n.subject = none → recordNotice n s = s)
    ∧ (n.kind = .command → recordNotice n s = s)
    ∧ (∀ w u, n.kind = .overflowEnd → waitingEndOf s n.subject = some w →
        u = buildRecord true ⟨.overflowEvent, n.subject, 0, w.flags, w.volume, none, none⟩
          { s with reporter := { s.reporter with
            pairing := s.reporter.pairing.set n.subject none } } →
        recordNotice n s = { u with reporter := { u.reporter with
          pairing := u.reporter.pairing.set n.subject (some ⟨n.state, n.value, 0⟩) } })
    ∧ (n.kind = .commandResult → s.reporter.command = none → recordNotice n s = s)
    ∧ ∀ c, n.kind = .commandResult → s.reporter.command = some c →
        (c.carried = true ∧ c.count < 20 ∧ n.subject = c.target ∧ n.code = c.code →
          recordNotice n s = { s with
            reporter := { s.reporter with
              command := none
              answers := s.reporter.answers
                ++ [⟨if n.state = 0 then .done else .refused 4, c.type, c.seq⟩] }
            notices := { s.notices with
              queue := s.notices.queue.map fun x => { x with forContext := false } } })
        ∧ (¬(c.carried = true ∧ c.count < 20 ∧ n.subject = c.target ∧ n.code = c.code) →
          recordNotice n s = s)

/-- O32. HOLD_QUIET_CLAIM and OPEN_FIELD_ACTIVE (R146, R148): a standby station claims; address 7 takes
an open field and starts as a new reporter. The role at a good frame end (R145 to R148): a standby JOINED
station counts quiet frames, or at address 7 open fields; a claim won makes it ACTIVE as a new reporter and
one lost STANDBY; an ACTIVE reporter whose claim is lost leaves for STANDBY with all that only an ACTIVE
one holds; outside JOINED nothing of it moves. That a hold-quiet count of 3 and an open-field count of 6 act by
rows of their own, which follow the frame end, is the model's reading of the step table (log 4). What a new
holder brings (R127, R144): every enabled record that is not in NORMAL is handed again, oldest first-active
minute first, lowest code first within one; so it is at a good frame end that shows another holder than the
last. -/
def Obligations.RoleTaken : Prop :=
  (∀ s : State, PumpSafe s → RakeSafe s → s.reporter.mode = .standby → s.line.mode = .joined →
    ownAddress s ≠ 7 → 3 ≤ s.reporter.holdQuiet →
    ∃ t, exec .holdQuietClaim s = .next t
      ∧ Follows { s with reporter := { s.reporter with mode := .claiming } } t)
  ∧ (∀ s : State, s.reporter.mode = .standby → s.line.mode = .joined → ownAddress s = 7 →
    6 ≤ s.reporter.openField →
    ∃ t, exec .openFieldActive s = .next t
      ∧ t.reporter.mode = .active ∧ t.reporter.linkUp = true ∧ t.reporter.downSince = false
      ∧ t.reporter.clock = none ∧ t.reporter.urgentEnable = true
      ∧ t.reporter.routineEnable = s.cfg.routineDefault
      ∧ t.reporter.urgentQueue = [⟨⟨.reporterChanged, ownAddress s, 0, 0,
          s.notices.lastHolder.getD 15, none, none⟩, false⟩]
      ∧ t.reporter.routineQueue = [] ∧ t.reporter.flight = none ∧ t.reporter.answers = []
      ∧ t.reporter.dump = none ∧ t.reporter.command = none ∧ t.reporter.nextSeq = 0
      ∧ t.reporter.lossPending = false
      ∧ t.reporter.nextNumber = (s.reporter.nextNumber + 1) % 65536
      ∧ t.reporter.alarmView = s.reporter.alarmView ∧ t.line = s.line ∧ t.time = s.time)
  ∧ (∀ (run : Nat) (c : Cells) (s : State), s.line.receiver = .inside → 4 ≤ run → run ≤ 6 →
    ∃ t, exec (.goodFrameEnd run c) s = .next t
      ∧ (s.line.mode ≠ .joined ∨ s.reporter.mode = .none → t.reporter.mode = s.reporter.mode
          ∧ t.reporter.holdQuiet = s.reporter.holdQuiet
          ∧ t.reporter.openField = s.reporter.openField)
      ∧ (t.line.mode = .joined →
        (s.reporter.mode = .standby → t.reporter.mode = .standby
          ∧ t.reporter.holdQuiet = (if ownAddress s = 7 then s.reporter.holdQuiet
              else if c.getLsbD 20 then 0 else min (s.reporter.holdQuiet + 1) 3)
          ∧ t.reporter.openField = (if ownAddress s ≠ 7 then s.reporter.openField
              else if reportField c = 15 then min (s.reporter.openField + 1) 6 else 0))
        ∧ ((∀ d, s.line.drive = some d → d.reportKey = none) → s.reporter.mode ≠ .standby →
          t.reporter.mode = s.reporter.mode)
        ∧ ∀ d k, s.line.drive = some d → d.reportKey = some k →
          (s.reporter.mode = .claiming → reportField c = k →
            t.reporter.mode = .active ∧ t.reporter.linkUp = true ∧ t.reporter.downSince = false
            ∧ t.reporter.clock = none ∧ t.reporter.urgentEnable = true
            ∧ t.reporter.routineEnable = s.cfg.routineDefault ∧ t.reporter.flight = none
            ∧ t.reporter.answers = [] ∧ t.reporter.dump = none ∧ t.reporter.command = none
            ∧ t.reporter.nextSeq = 0 ∧ t.reporter.lossPending = false
            ∧ t.reporter.port = .idle
            ∧ ∃ rest, t.reporter.urgentQueue = ⟨⟨.reporterChanged, ownAddress s, 0, 0,
                s.notices.lastHolder.getD 15, none, none⟩, false⟩ :: rest)
          ∧ (s.reporter.mode = .claiming → reportField c ≠ k → t.reporter.mode = .standby
            ∧ t.reporter.holdQuiet = 0 ∧ t.reporter.openField = 0)
          ∧ (s.reporter.mode = .active → reportField c = k → t.reporter.mode = .active)
          ∧ (s.reporter.mode = .active → reportField c ≠ k → t.reporter.mode = .standby
            ∧ t.reporter.holdQuiet = 0 ∧ t.reporter.openField = 0 ∧ ReporterIdle t.reporter)))
  ∧ (∀ (c : Cells) (s : State), s.line.mode ≠ .lineFault → c.getLsbD 20 = true →
    s.notices.lastHolder ≠ some (numericField c 21 3) →
    refresh c s = handAll
      { s with notices := { s.notices with lastHolder := some (numericField c 21 3) } }
      ((refreshOrder s).map fun x => newEntry .alarm (ownAddress s) (codeNumber x.1)
        (stateNumber x.2.state) x.2.count (urgentCode x.1)))
  ∧ (∀ (c : Cells) (s : State), s.line.mode = .lineFault ∨ c.getLsbD 20 = false
      ∨ s.notices.lastHolder = some (numericField c 21 3) → refresh c s = s)
  ∧ (∀ (run : Nat) (c : Cells) (s : State), s.line.receiver = .inside → 4 ≤ run → run ≤ 6 →
    noticeField c = 15 → c.getLsbD 11 = false →
    (∀ d, s.line.drive = some d → d.noticeKey = none) →
    ∃ t, exec (.goodFrameEnd run c) s = .next t
      ∧ (t.line.mode = s.line.mode → t.reporter.mode = s.reporter.mode →
          (∀ code, rawCondition t code = (recordOf s code).raw) →
        t.notices.queue = (refresh c s).notices.queue
        ∧ t.notices.lost = (refresh c s).notices.lost))
  ∧ ∀ s : State, (∀ x, x ∈ refreshOrder s ↔
      x.2 = recordOf s x.1 ∧ x.2.enabled = true ∧ x.2.state ≠ .normal)
    ∧ (refreshOrder s).Pairwise fun x y => x.2.firstMinute < y.2.firstMinute
      ∨ (x.2.firstMinute = y.2.firstMinute ∧ codeNumber x.1 < codeNumber y.1)

/-! ### Levels and stages -/

/-- O33. The level of a count (R33, R34): which gates are bad, and the level of a good one. -/
def Obligations.LevelOfCount : Prop :=
  ∀ (k : Calibration) (count : Nat), k.z < k.f →
    (count = 0 → classify k count = none)
    ∧ (k.f + (k.f - k.z) / 4 < count → classify k count = none)
    ∧ (0 < count → count ≤ k.z → classify k count = some 0)
    ∧ (k.f ≤ count → count ≤ k.f + (k.f - k.z) / 4 → classify k count = some k.h)
    ∧ (k.z < count → count < k.f →
        classify k count = some (((count - k.z) * k.h + (k.f - k.z) / 2) / (k.f - k.z))
        ∧ ((count - k.z) * k.h + (k.f - k.z) / 2) / (k.f - k.z) ≤ k.h)

/-- O34. A channel at a gate end (R35 to R37, R39 to R41, R43): its filter, which adds the difference
divided by 2^k and rounded half away from zero, its ring, rate and prediction on a good gate, its runs and states on good and bad gates, and the items it hands. That an ABSENT channel
hands its gate as bad is the model's choice (log 36). -/
def Obligations.ChannelAtGate : Prop :=
  ∀ (c : Calibration) (q : Nat) (ch : LevelChannel),
    (∀ level, classify c ch.count = some level → ch.mode = .healthy ∨ ch.mode = .suspect →
      (gateChannel c q ch).mode = .healthy ∧ (gateChannel c q ch).badRun = 0
      ∧ (gateChannel c q ch).e = ((ch.e : Int) + roundShift ((level : Int) - ch.e) c.k).toNat
      ∧ (∃ step : Int, ((gateChannel c q ch).e : Int) = ch.e + step
        ∧ 2 * ((level : Int) - ch.e - step * 2 ^ c.k).natAbs ≤ 2 ^ c.k
        ∧ (2 * ((level : Int) - ch.e - step * 2 ^ c.k).natAbs = 2 ^ c.k →
          ((level : Int) - ch.e).natAbs < (step * 2 ^ c.k).natAbs))
      ∧ min ch.e level ≤ (gateChannel c q ch).e ∧ (gateChannel c q ch).e ≤ max ch.e level
      ∧ (gateChannel c q ch).rate
          = max (-2047) (min 2047 (((gateChannel c q ch).e : Int) - ch.ring.headD 0))
      ∧ (gateChannel c q ch).ring = ch.ring.drop 1 ++ [(gateChannel c q ch).e]
      ∧ ((gateChannel c q ch).p : Int) = max 0 (min (c.h : Int)
          (((gateChannel c q ch).e : Int) + (gateChannel c q ch).rate * q)))
    ∧ (∀ level, classify c ch.count = some level →
        ch.mode = .starting ∨ (ch.mode = .faulted ∧ 2 ≤ ch.goodRun) →
      (gateChannel c q ch).mode = .healthy ∧ (gateChannel c q ch).e = level
      ∧ (gateChannel c q ch).p = level ∧ (gateChannel c q ch).rate = 0
      ∧ (gateChannel c q ch).badRun = 0 ∧ (gateChannel c q ch).goodRun = 0
      ∧ (gateChannel c q ch).ring = List.replicate 8 level)
    ∧ (∀ level, classify c ch.count = some level → ch.mode = .faulted → ch.goodRun < 2 →
      (gateChannel c q ch).mode = .faulted ∧ (gateChannel c q ch).goodRun = ch.goodRun + 1
      ∧ (gateChannel c q ch).e = ch.e ∧ (gateChannel c q ch).p = ch.p
      ∧ (gateChannel c q ch).rate = ch.rate ∧ (gateChannel c q ch).ring = ch.ring)
    ∧ (classify c ch.count = none →
      (ch.mode = .healthy → ch.badRun = 0 →
        (gateChannel c q ch).mode = .suspect ∧ (gateChannel c q ch).badRun = 1)
      ∧ (ch.mode = .suspect → ch.badRun = 1 →
        (gateChannel c q ch).mode = .suspect ∧ (gateChannel c q ch).badRun = 2)
      ∧ (ch.mode = .suspect → ch.badRun = 2 →
        (gateChannel c q ch).mode = .faulted ∧ (gateChannel c q ch).goodRun = 0)
      ∧ (ch.mode = .starting → ch.badRun < 2 →
        (gateChannel c q ch).mode = .starting ∧ (gateChannel c q ch).badRun = ch.badRun + 1)
      ∧ (ch.mode = .starting → ch.badRun = 2 →
        (gateChannel c q ch).mode = .faulted ∧ (gateChannel c q ch).goodRun = 0)
      ∧ (ch.mode = .faulted → (gateChannel c q ch).mode = .faulted
        ∧ (gateChannel c q ch).goodRun = 0)
      ∧ (gateChannel c q ch).e = ch.e ∧ (gateChannel c q ch).p = ch.p
      ∧ (gateChannel c q ch).rate = ch.rate ∧ (gateChannel c q ch).ring = ch.ring)
    ∧ (ch.mode = .absent → (gateChannel c q ch).mode = .absent
      ∧ (gateChannel c q ch).gateGood = false)
    ∧ (ch.mode ≠ .absent → (gateChannel c q ch).gateGood = (classify c ch.count).isSome)
    ∧ (gateChannel c q ch).changed = decide ((gateChannel c q ch).mode ≠ ch.mode)
    ∧ (gateChannel c q ch).count = 0

/-- O35. LEVEL_PULSE_EDGE and GATE_END (R31, R43, R45, R48 to R50, R56, R89 to R97, R105 to R113): a pulse
is counted in its channel; at a gate end both channels take their counts, the own stage follows channel A,
and in LINE_FAULT the local demand with it; then the Screen Controller and the Overflow Monitor work, as
Obligations.ScreenTimersExpire and Obligations.EventOpensAndCloses say of screenGate and overflowGate; a
rake request that stands then is served. -/
def Obligations.GateTaken : Prop :=
  (∀ s : State, PumpSafe s → RakeSafe s → loaded s = true →
    (∃ t, exec (.levelPulseEdge .a) s = .next t ∧ Follows
      { s with chanA := { s.chanA with count := min (s.chanA.count + 1) 65535 } } t)
    ∧ ∃ t, exec (.levelPulseEdge .b) s = .next t ∧ Follows
      { s with chanB := { s.chanB with count := min (s.chanB.count + 1) 65535 } } t)
  ∧ ∀ s : State, loaded s = true → 50 ≤ s.gate →
    ∃ t, exec .gateEnd s = .next t
      ∧ t.gate = s.gate - 50 ∧ t.chanA = gateChannel s.cfg.calA s.cfg.q s.chanA
      ∧ t.chanB = gateChannel s.cfg.calB s.cfg.q s.chanB
      ∧ (s.stager.usable = false → t.stager.d = 0)
      ∧ (t.chanA.mode = .faulted ∨ t.chanA.mode = .starting ∨ t.chanA.mode = .absent →
          t.stager.d = 0)
      ∧ (s.stager.usable = true → t.chanA.mode = .suspect → t.stager.d = s.stager.d)
      ∧ (s.stager.usable = true → t.chanA.mode = .healthy →
          s.chanA.mode = .starting ∨ s.chanA.mode = .faulted →
          t.stager.d = upStage s.cfg (tideClosed s) 0 t.chanA.e)
      ∧ (s.stager.usable = true → t.chanA.mode = .healthy →
          s.chanA.mode = .healthy ∨ s.chanA.mode = .suspect →
          t.stager.d = evaluateStage s.cfg (tideClosed s) s.stager.d t.chanA.e t.chanA.p)
      ∧ t.time = s.time ∧ t.inputs = s.inputs ∧ t.cfg = s.cfg ∧ t.line = s.line
      ∧ t.stager.dLine = s.stager.dLine ∧ t.stager.usable = s.stager.usable
      ∧ (s.line.mode ≠ .lineFault → t.stager.dPre = s.stager.dPre ∧ t.stager.dEff = s.stager.dEff
        ∧ t.stager.prevDEff = s.stager.prevDEff ∧ t.stager.localCall = s.stager.localCall)
      ∧ (s.line.mode = .lineFault →
        t.stager.dPre = (if isActive s .highFloat then max t.stager.d s.cfg.highFloatStage
          else t.stager.d)
        ∧ t.stager.dEff = (if isActive s .allStop then 0 else if isActive s .lowFloat then 0
          else t.stager.dPre)
        ∧ t.stager.prevDEff = s.stager.dEff
        ∧ t.stager.localCall = decide (ownAddress s + 1 ≤ t.stager.dEff))
      ∧ t.ovf = (overflowGate { s with chanA := t.chanA }).ovf
      ∧ (RakeSafe s → ∀ g : Screen,
          g = (screenGate { s with chanA := t.chanA, chanB := t.chanB }).screen →
        t.screen = { g with rake := if g.rake = .idle ∧ rakeStop s = false
          ∧ (g.condition = .high ∨ g.condition = .blocked ∨ g.intervalDue = true) then .wait
          else g.rake })
      ∧ (PumpSafe s → RakeSafe s → ∀ u : State,
          u = overflowGate (screenGate (stageGate s.chanA.mode (endGates s))) →
        Follows { u with screen := t.screen } t)

/-- O36. The two steps of the own stage (R48): up to the largest stage whose start level the prediction
has reached; else down to the largest whose stop level the level is above; else kept. -/
def Obligations.StageSteps : Prop :=
  ∀ (c : Settings) (closed : Bool) (d e p : Nat),
    (∀ k, d < k → k ≤ c.stageCount → adjustedStart c closed k ≤ p →
      (∀ j, k < j → j ≤ c.stageCount → p < adjustedStart c closed j) →
      evaluateStage c closed d e p = k)
    ∧ ((∀ k, d < k → k ≤ c.stageCount → p < adjustedStart c closed k) →
      (0 < d → e ≤ stopLevel c d →
        (∀ j, 0 < j → j < d → stopLevel c j < e → (∀ i, j < i → i < d → e ≤ stopLevel c i) →
          evaluateStage c closed d e p = j)
        ∧ ((∀ j, 0 < j → j < d → e ≤ stopLevel c j) → evaluateStage c closed d e p = 0))
      ∧ (d = 0 ∨ stopLevel c d < e → evaluateStage c closed d e p = d))

/-- O37. The tide-adjusted start levels (R47), the shape they keep on a usable table, and that a stage
reached under them is held when the tide opens until the level falls to its stop level. -/
def Obligations.TideStartLevels : Prop :=
  ∀ c : Settings,
    (∀ k, adjustedStart c false k = startLevel c k)
    ∧ (∀ k, (adjustedStart c true k : Int) =
        max ((startLevel c k : Int) - c.tideOffset) ((stopLevel c k : Int) + 1))
    ∧ (tableUsable c = true → ∀ k, 1 ≤ k → k ≤ c.stageCount →
        stopLevel c k < adjustedStart c true k ∧ adjustedStart c true k ≤ startLevel c k
        ∧ (k < c.stageCount → adjustedStart c true k < adjustedStart c true (k + 1)))
    ∧ ∀ d e p, stopLevel c d < e → d ≤ evaluateStage c false d e p

/-! ### Pump -/

/-- O38. MIN_OFF_EXPIRY and INRUSH_TIMER_EXPIRY (R58, R63, R66, R76, R86): a LOCKED_OFF pump enters
IDLE once the loader has finished; a confirmed start enters RUNNING. -/
def Obligations.OffAndInrushExpire : Prop :=
  (∀ (s : State) (n : Nat), PumpSafe s → RakeSafe s → s.duty.minOff = some n →
    s.cfg.tMinOff * 100 ≤ n →
    ∃ t, exec .minOffExpiry s = .next t
      ∧ (s.duty.pump = .lockedOff ∧ loaded s = true → Follows { s with duty := { s.duty with
          minOff := none, pump := .idle
          fallbackDelay := if s.stager.localCall then
            if ownAddress s = 0 then .expired else .running 0
            else s.duty.fallbackDelay } } t)
      ∧ (¬(s.duty.pump = .lockedOff ∧ loaded s = true) →
          Follows { s with duty := { s.duty with minOff := none } } t))
  ∧ ∀ (s : State) (n : Nat), PumpSafe s → RakeSafe s → s.duty.inrush = some n →
    s.cfg.tInrush * 100 ≤ n →
    ∃ t, exec .inrushTimerExpiry s = .next t
      ∧ (s.duty.pump = .starting ∧ s.duty.confirmed = true → Follows { s with duty := { s.duty with
          inrush := none, pump := .running
          yielding := decide (0 < s.cfg.tMaxRun ∧ s.cfg.tMaxRun * 6000 ≤ s.duty.contRun) } } t)
      ∧ (¬(s.duty.pump = .starting ∧ s.duty.confirmed = true) →
          Follows { s with duty := { s.duty with inrush := none } } t)

/-- O39. CONFIRM_TIMER_EXPIRY and RUN_LOSS_EXPIRY (R62, R64, R66, R67): START_FAIL or RUN_LOST is
raised for 1 s, the contactor opens, the pump is FAULTED with the code in its cause set. -/
def Obligations.StartFailsRunLost : Prop :=
  (∀ (s : State) (n : Nat), PumpSafe s → RakeSafe s → s.duty.confirm = some n →
    s.cfg.tConfirm * 100 ≤ n →
    ∃ t, exec .confirmTimerExpiry s = .next t ∧ Follows { s with
      alarms := { s.alarms with startFail := some 0 }
      duty := { s.duty with
        pump := .faulted, contactor := false
        causes := if s.duty.causes.contains .startFail then s.duty.causes
          else s.duty.causes ++ [.startFail]
        minOff := if s.cfg.tMinOff = 0 then none else some 0
        inrush := none, confirm := none, runLoss := none, minRun := none, contRun := 0
        confirmed := false, yielding := false, changeover := 0, changeoverBlocked := false } } t)
  ∧ ∀ (s : State) (n : Nat), PumpSafe s → RakeSafe s → s.duty.runLoss = some n → 200 ≤ n →
    ∃ t, exec .runLossExpiry s = .next t ∧ Follows { s with
      alarms := { s.alarms with runLost := some 0 }
      duty := { s.duty with
        pump := .faulted, contactor := false
        causes := if s.duty.causes.contains .runLost then s.duty.causes
          else s.duty.causes ++ [.runLost]
        minOff := if s.cfg.tMinOff = 0 then none else some 0
        inrush := none, confirm := none, runLoss := none, minRun := none, contRun := 0
        confirmed := false, yielding := false, changeover := 0, changeoverBlocked := false } } t

/-- O40. MAXRUN_REACHED, CHANGEOVER_TIMER_EXPIRY, MIN_RUN_EXPIRY and FALLBACK_DELAY_EXPIRY (R75 to R77,
R86): yielding is set; the changeover is blocked, its timer having counted 120 s (in ticks, log 47); the
minimum run has passed, which stops a pump that the local
call no longer wants; the fallback delay has passed. -/
def Obligations.RunTimersExpire : Prop :=
  (∀ s : State, PumpSafe s → RakeSafe s → s.duty.pump = .running → 0 < s.cfg.tMaxRun →
    s.cfg.tMaxRun * 6000 ≤ s.duty.contRun →
    ∃ t, exec .maxrunReached s = .next t
      ∧ Follows { s with duty := { s.duty with yielding := true } } t)
  ∧ (∀ s : State, PumpSafe s → RakeSafe s → s.duty.yielding = true → 12000 ≤ s.duty.changeover →
    ∃ t, exec .changeoverTimerExpiry s = .next t
      ∧ Follows { s with duty := { s.duty with changeoverBlocked := true } } t)
  ∧ (∀ (s : State) (n : Nat), PumpSafe s → RakeSafe s → s.duty.minRun = some n →
    s.cfg.tMinRun * 100 ≤ n →
    ∃ t, exec .minRunExpiry s = .next t
      ∧ (s.line.mode = .lineFault → s.duty.pump = .running → s.stager.localCall = false →
          t.duty.contactor = false
          ∧ t.duty.pump = (if s.cfg.tMinOff = 0 then .idle else .lockedOff))
      ∧ (¬(s.line.mode = .lineFault ∧ s.duty.pump = .running ∧ s.stager.localCall = false) →
          Follows { s with duty := { s.duty with minRun := none } } t))
  ∧ ∀ (s : State) (n : Nat), PumpSafe s → RakeSafe s → s.duty.fallbackDelay = .running n →
    ownAddress s * ((s.cfg.tInrush + 1) * 100) ≤ n →
    ∃ t, exec .fallbackDelayExpiry s = .next t
      ∧ Follows { s with duty := { s.duty with fallbackDelay := .expired } } t

/-- O41. How a pump starts and stops. FALLBACK_START (R66, R78, R86): under every condition of a
fallback start the pump enters STARTING: the contactor closes, its timers start, a stamp and a start are
added. The Duty Controller's work at a good frame end (R68, R70 to R72, R74 to R76, R78, R79, R85): when
the bay is available; the unplanned stop, and the other fresh addresses that show RUNNING and not
YIELDING kept as the next previous running set; START_WAIT entered and left by the start condition; a
won claim on clear cells that starts the pump; the stop choice and the yielding stop of a RUNNING pump;
the stop in LISTEN with no demand. GOOD_FRAME_END with no stop hold and no clash does all of this, and
keeps the pump elsewhere; where the frame carries a COMMAND that inhibits this bay, the won claim is
used or not (R84). -/
def Obligations.FallbackStarts : Prop :=
  (∀ s : State, PumpSafe s → RakeSafe s → s.line.mode = .lineFault → s.duty.pump = .idle →
    s.stager.localCall = true → s.duty.fallbackDelay = .expired → 500 ≤ s.duty.supplyInactive →
    isActive s .allStop = false → isActive s .lowFloat = false → isActive s .thermal = false →
    s.screen.condition ≠ .blocked →
    s.cfg.startsPerHour = 0 ∨ s.duty.window.length < s.cfg.startsPerHour →
    s.duty.inhibit = false → s.cfg.moisturePolicy = 0 ∨ isActive s .moisture = false →
    ∃ t, exec .fallbackStart s = .next t ∧ Follows { s with duty := { s.duty with
      pump := .starting, contactor := true, inrush := some 0
      confirm := if isActive s .runConfirm then none else some 0
      confirmed := isActive s .runConfirm
      runLoss := none, minRun := some 0, contRun := 0
      window := if s.cfg.startsPerHour = 0 then s.duty.window
        else s.duty.window ++ [s.time.seconds]
      starts := min (s.duty.starts + 1) 65535 } } t)
  ∧ (∀ (won call : Bool) (c : CommonCells) (s t : State), t = dutyFrame won c s →
    (call = true ↔ IsAvailable s
      ∧ ∃ i, t.duty.index = some i ∧ i + t.duty.runningCount < s.stager.dEff) →
    (t.duty.availableAtEnd = true ↔ IsAvailable s)
    ∧ t.duty.unplanned = (if (∃ a ∈ s.duty.prevRunning,
          freshAt s a = false ∨ (peer s a).running = false) ∧ s.duty.prevR ≤ s.duty.prevDEff
        then 600 else s.duty.unplanned - 1)
    ∧ t.duty.prevR = t.duty.runningCount ∧ t.duty.prevDEff = s.stager.dEff
    ∧ (∀ a, a ∈ t.duty.prevRunning ↔ a < 8 ∧ a ≠ ownAddress s ∧ freshAt s a = true
        ∧ (peer s a).running = true ∧ (peer s a).yielding = false)
    ∧ (s.line.mode = .joined →
      (s.duty.pump = .idle → t.duty.pump = if call then .startWait else .idle)
      ∧ (s.duty.pump = .startWait →
        (call = false → t.duty.pump = .idle)
        ∧ (call = true → won = true → c.inrush = false → c.supplyLow = false →
            c.allStop = false → c.dry = false → 50 ≤ s.duty.supplyQuiet → stopHold s = false →
            t.duty.pump = .starting ∧ t.duty.contactor = true ∧ t.duty.inrush = some 0
            ∧ t.duty.minRun = some 0 ∧ t.duty.contRun = 0
            ∧ t.duty.confirmed = isActive s .runConfirm
            ∧ t.duty.starts = min (s.duty.starts + 1) 65535
            ∧ t.duty.window = (if s.cfg.startsPerHour = 0 then s.duty.window
                else s.duty.window ++ [s.time.seconds]))
        ∧ (call = true → won = false ∨ c.inrush = true ∨ c.supplyLow = true ∨ c.allStop = true
              ∨ c.dry = true ∨ s.duty.supplyQuiet < 50 ∨ stopHold s = true →
            t.duty.pump = .startWait ∧ t.duty.contactor = s.duty.contactor))
      ∧ (s.duty.pump = .running → s.duty.contactor = true →
        ∀ stops : Prop,
        (stops ↔ if s.duty.yielding then s.stager.dEff ≤ t.duty.runningCount ∨ s.stager.dEff = 0
          else ownAddress s ∈ (t.duty.dutyList.filter fun a =>
              (peer s a).running && !(peer s a).yielding).drop s.stager.dEff
            ∧ minRunExpired s = true) →
        (stops → t.duty.contactor = false
          ∧ t.duty.pump = if s.cfg.tMinOff = 0 ∧ loaded s = true then .idle else .lockedOff)
        ∧ (¬stops → t.duty.pump = .running ∧ t.duty.contactor = true)))
    ∧ (s.line.mode = .listen → s.duty.pump = .starting ∨ s.duty.pump = .running →
      s.duty.contactor = true →
      (s.stager.dEff = 0 → minRunExpired s = true → t.duty.contactor = false
        ∧ t.duty.pump = if s.cfg.tMinOff = 0 ∧ loaded s = true then .idle else .lockedOff)
      ∧ (0 < s.stager.dEff ∨ minRunExpired s = false → t.duty.pump = s.duty.pump
        ∧ t.duty.contactor = true))
    ∧ (s.line.mode = .isolated ∨ s.line.mode = .lineFault →
      t.duty.pump = s.duty.pump ∧ t.duty.contactor = s.duty.contactor))
  ∧ ∀ (run : Nat) (c : Cells) (s : State), PumpSafe s → loaded s = true →
    s.line.receiver = .inside → 4 ≤ run → run ≤ 6 →
    isActive s .allStop = false → isActive s .lowFloat = false → isActive s .thermal = false →
    (s.line.mode ≠ .lineFault → c.getLsbD 8 = false ∧ c.getLsbD 27 = false) →
    (∀ d, s.line.mode = .joined → s.line.drive = some d → ∀ i ∈ [1, 2, 3, 4, 5, 6, 7],
      c.getLsbD (stationCell (ownAddress s) + i) = true →
      d.cells.getLsbD (stationCell (ownAddress s) + i) = true) →
    ∃ t, exec (.goodFrameEnd run c) s = .next t
      ∧ (t.duty.availableAtEnd = true ↔ IsAvailable s)
      ∧ t.duty.unplanned = (if (∃ a ∈ s.duty.prevRunning,
            freshAt t a = false ∨ (peer t a).running = false) ∧ s.duty.prevR ≤ s.duty.prevDEff
          then 600 else s.duty.unplanned - 1)
      ∧ (s.duty.pump = .hand → t.duty.pump = .hand ∧ t.duty.contactor = true)
      ∧ (s.duty.pump = .outOfService ∨ s.duty.pump = .lockedOff →
          t.duty.pump = s.duty.pump ∧ t.duty.contactor = false)
      ∧ (s.line.mode = .joined → ∀ call won clear told stops : Prop,
        (call ↔ IsAvailable s
          ∧ ∃ i, t.duty.index = some i ∧ i + t.duty.runningCount < t.stager.dEff) →
        (won ↔ ∃ d, s.line.drive = some d ∧ d.startKey = some (.duty, startField c)) →
        (clear ↔ c.getLsbD 19 = false ∧ c.getLsbD 24 = false ∧ 50 ≤ s.duty.supplyQuiet) →
        (told ↔ ∃ r, noticeOf c = some r ∧ r.kind = .command ∧ r.subject = ownAddress s
          ∧ r.code = 1) →
        (stops ↔ if s.duty.yielding then t.stager.dEff ≤ t.duty.runningCount ∨ t.stager.dEff = 0
          else ownAddress s ∈ (t.duty.dutyList.filter fun a =>
              (peer t a).running && !(peer t a).yielding).drop t.stager.dEff
            ∧ minRunExpired s = true) →
        (s.duty.pump = .idle → t.duty.contactor = false
          ∧ (call → t.duty.pump = .startWait) ∧ (¬call → t.duty.pump = .idle))
        ∧ (s.duty.pump = .startWait →
          (¬call → t.duty.pump = .idle ∧ t.duty.contactor = false)
          ∧ (call → ¬(won ∧ clear) → t.duty.pump = .startWait ∧ t.duty.contactor = false)
          ∧ (call → won → clear →
            (t.duty.pump = .startWait ∧ t.duty.contactor = false ∧ told)
            ∨ (t.duty.pump = .starting ∧ t.duty.contactor = true ∧ t.duty.inrush = some 0
              ∧ t.duty.minRun = some 0 ∧ t.duty.contRun = 0
              ∧ t.duty.confirmed = isActive s .runConfirm
              ∧ t.duty.confirm = (if isActive s .runConfirm then none else some 0)
              ∧ t.duty.starts = min (s.duty.starts + 1) 65535
              ∧ t.duty.window = (if s.cfg.startsPerHour = 0 then s.duty.window
                  else s.duty.window ++ [s.time.seconds]))))
        ∧ (s.duty.pump = .starting → t.duty.pump = .starting ∧ t.duty.contactor = true)
        ∧ (s.duty.pump = .running →
          (stops → t.duty.contactor = false
            ∧ t.duty.pump = if s.cfg.tMinOff = 0 then .idle else .lockedOff)
          ∧ (¬stops → t.duty.pump = .running ∧ t.duty.contactor = true)))
      ∧ (s.line.mode = .listen →
        (s.duty.pump = .starting ∨ s.duty.pump = .running →
          (t.stager.dEff = 0 → minRunExpired s = true → t.duty.contactor = false
            ∧ t.duty.pump = if s.cfg.tMinOff = 0 then .idle else .lockedOff)
          ∧ (0 < t.stager.dEff ∨ minRunExpired s = false →
            t.duty.pump = s.duty.pump ∧ t.duty.contactor = true))
        ∧ (s.duty.pump = .idle → t.duty.pump = .idle ∧ t.duty.contactor = false))
      ∧ (s.line.mode = .isolated ∨ s.line.mode = .lineFault →
        s.duty.pump ≠ .faulted → s.duty.pump ≠ .hand →
        t.duty.pump = s.duty.pump ∧ t.duty.contactor = s.duty.contactor)

/-! ### Screen and rake -/

/-- O42. SWITCH_CLEAR_EXPIRY, POST_RAKE_EXPIRY, HIGH_ALARM_EXPIRY and INTERVAL_TIMER_EXPIRY (R80, R92,
R94, R96, R97). The screen at a gate end (R89 to R91, R95): the sensing mode chosen again where a channel
changed; in DIFF the differential, its three runs and the condition by the first row that applies; flush.
The accepted changes of SCREEN_SW in SWITCH (R92) and of RAKE_LIMIT in RK_RUN (R99). That a SCREEN_SW
found active at a mode change gives HIGH with a locked rake as well is the model's reading (log 16). -/
def Obligations.ScreenTimersExpire : Prop :=
  (∀ (s : State) (n : Nat), PumpSafe s → RakeSafe s → s.screen.switchClear = some n →
    s.cfg.dwell * 100 ≤ n →
    ∃ t, exec .switchClearExpiry s = .next t
      ∧ (s.screen.condition ≠ .clear → Follows { s with screen := { s.screen with
          switchClear := none, condition := .clear, highAlarm := none, screenHigh := false } } t)
      ∧ (s.screen.condition = .clear →
          Follows { s with screen := { s.screen with switchClear := none } } t))
  ∧ (∀ (s : State) (n : Nat), PumpSafe s → RakeSafe s → s.screen.postRake = some n →
    s.cfg.dwell * 100 ≤ n →
    ∃ t, exec .postRakeExpiry s = .next t
      ∧ (s.screen.condition = .high → t.screen.condition = .blocked ∧ t.screen.postRake = none
          ∧ t.screen.highAlarm = none ∧ t.screen.screenHigh = false
          ∧ t.screen.rake = s.screen.rake
          ∧ t.duty.pump ≠ .starting ∧ t.duty.pump ≠ .running)
      ∧ (s.screen.condition ≠ .high →
          Follows { s with screen := { s.screen with postRake := none } } t))
  ∧ (∀ (s : State) (n : Nat), PumpSafe s → RakeSafe s → s.screen.highAlarm = some n →
    s.cfg.dwell * 100 ≤ n →
    ∃ t, exec .highAlarmExpiry s = .next t
      ∧ Follows { s with screen := { s.screen with highAlarm := none, screenHigh := true } } t)
  ∧ (∀ (s : State) (limit : Nat), PumpSafe s → RakeSafe s → s.screen.intervalDue = false →
    limit = (if s.screen.flush ∧ 0 < s.cfg.flushInterval then s.cfg.flushInterval * 6000
      else s.cfg.rakeInterval * 6000) → 0 < limit → limit ≤ s.screen.interval →
    ∃ t, exec .intervalTimerExpiry s = .next t ∧ Follows { s with screen := { s.screen with
      intervalDue := true
      rake := if s.screen.rake = .idle ∧ rakeStop s = false ∧ loaded s = true then .wait
        else s.screen.rake } } t)
  ∧ (∀ s t : State, t = screenGate s →
    (t.screen.sensing = if s.chanA.changed = true ∨ s.chanB.changed = true then
        some (if offersLevel s.chanA = true ∧ offersLevel s.chanB = true then .diff
          else if s.cfg.screenSwitchFitted then .switch else .none)
      else s.screen.sensing)
    ∧ (t.screen.sensing ≠ s.screen.sensing → t.screen.sensing ≠ some .diff →
        t.screen.condition = (if t.screen.sensing = some .switch ∧ isActive s .screenSw = true
          then .high else .unknown)
        ∧ t.screen.aboveBlocked = 0 ∧ t.screen.belowRake = 0 ∧ t.screen.belowBlocked = 0
        ∧ t.screen.postRake = none
        ∧ t.screen.switchClear = (if t.screen.sensing = some .switch ∧ isActive s .screenSw = false
          then some 0 else none))
    ∧ (t.screen.sensing = s.screen.sensing → t.screen.sensing ≠ some .diff →
        t.screen.condition = s.screen.condition ∧ t.screen.switchClear = s.screen.switchClear
        ∧ t.screen.postRake = s.screen.postRake ∧ t.duty = s.duty)
    ∧ (t.screen.sensing = s.screen.sensing → t.screen.sensing = some .diff →
        (∀ g, g = (diffGate s).screen → t.screen.condition = g.condition
          ∧ t.screen.delta = g.delta ∧ t.screen.aboveBlocked = g.aboveBlocked
          ∧ t.screen.belowRake = g.belowRake ∧ t.screen.belowBlocked = g.belowBlocked)
        ∧ t.duty = (diffGate s).duty)
    ∧ (t.screen.sensing ≠ s.screen.sensing → t.screen.sensing = some .diff →
        t.screen.delta = s.chanB.e - s.chanA.e
        ∧ t.screen.aboveBlocked = (if s.cfg.deltaB ≤ t.screen.delta then 1 else 0)
        ∧ t.screen.belowRake = (if t.screen.delta < s.cfg.deltaR then 1 else 0)
        ∧ t.screen.belowBlocked = (if t.screen.delta < s.cfg.deltaB then 1 else 0)
        ∧ t.screen.switchClear = none ∧ t.screen.postRake = none
        ∧ t.screen.condition =
          (if s.screen.rake = .locked ∧ s.cfg.deltaR ≤ t.screen.delta then .blocked
          else if 2 * s.cfg.dwell ≤ t.screen.belowRake then .clear
          else if s.cfg.deltaR ≤ t.screen.delta then .high else .unknown))
    ∧ (t.screen.condition = s.screen.condition → t.screen.sensing = s.screen.sensing →
        t.screen.highAlarm = s.screen.highAlarm ∧ t.screen.screenHigh = s.screen.screenHigh)
    ∧ (t.screen.condition ≠ s.screen.condition ∨ t.screen.sensing ≠ s.screen.sensing →
        t.screen.highAlarm = (if t.screen.condition = .high then some 0 else none)
        ∧ t.screen.screenHigh = false)
    ∧ t.screen.rake = s.screen.rake ∧ t.screen.motor = s.screen.motor
    ∧ t.screen.jams = s.screen.jams ∧ t.screen.cycles = s.screen.cycles
    ∧ t.screen.interval = s.screen.interval ∧ t.screen.pause = s.screen.pause
    ∧ (∀ limit : Nat, limit = (if t.screen.flush ∧ 0 < s.cfg.flushInterval then
          s.cfg.flushInterval * 6000 else s.cfg.rakeInterval * 6000) →
        (t.screen.intervalDue = true ↔ s.screen.intervalDue = true
          ∨ 0 < limit ∧ limit ≤ s.screen.interval))
    ∧ (t.screen.flush = true ↔ (0 < s.cfg.flushThreshold ∧ offersLevel s.chanA = true
        ∧ (s.cfg.flushThreshold : Int) ≤ s.chanA.rate)
      ∨ (s.line.mode ≠ .lineFault ∧ s.line.common.overflow = true)))
  ∧ (∀ s t : State, t = diffGate s →
    t.screen.delta = s.chanB.e - s.chanA.e
    ∧ t.screen.aboveBlocked
        = (if s.cfg.deltaB ≤ t.screen.delta then s.screen.aboveBlocked + 1 else 0)
    ∧ t.screen.belowRake = (if t.screen.delta < s.cfg.deltaR then s.screen.belowRake + 1 else 0)
    ∧ t.screen.belowBlocked
        = (if t.screen.delta < s.cfg.deltaB then s.screen.belowBlocked + 1 else 0)
    ∧ t.screen.condition =
        (if s.screen.rake = .locked ∧ s.cfg.deltaR ≤ t.screen.delta then .blocked
        else if 2 * s.cfg.dwell ≤ t.screen.belowRake then .clear
        else if s.screen.condition = .unknown ∨ s.screen.condition = .clear then
          if s.cfg.deltaR ≤ t.screen.delta then .high else s.screen.condition
        else if s.screen.condition = .high then
          if 2 * s.cfg.dwell ≤ t.screen.aboveBlocked then .blocked else .high
        else if 2 * s.cfg.dwell ≤ t.screen.belowBlocked ∧ s.screen.rake ≠ .locked then .high
        else .blocked)
    ∧ (s.screen.condition ≠ .blocked → t.screen.condition = .blocked →
        t.duty.pump ≠ .starting ∧ t.duty.pump ≠ .running))
  ∧ (∀ s : State, InputSafe s → (inputState s .screenSw).due = true →
    s.screen.sensing = some .switch →
    ∃ t, exec (.inputAcceptedChange .screenSw) s = .next t
      ∧ (isActive s .screenSw = false → t.screen.switchClear = none
        ∧ t.screen.postRake = s.screen.postRake
        ∧ t.screen.condition = (if s.screen.rake = .locked then .blocked
          else if s.screen.condition = .unknown ∨ s.screen.condition = .clear then .high
          else s.screen.condition))
      ∧ (isActive s .screenSw = true → t.screen.switchClear = some 0 ∧ t.screen.postRake = none
        ∧ t.screen.condition = s.screen.condition))
  ∧ ∀ s : State, InputSafe s → (inputState s .rakeLimit).due = true →
    isActive s .rakeLimit = false → s.screen.rake = .run →
    ∃ t, exec (.inputAcceptedChange .rakeLimit) s = .next t
      ∧ t.screen.cycles = min (s.screen.cycles + 1) 65535 ∧ t.screen.motor = false
      ∧ t.screen.rakeRun = none ∧ t.screen.rakeInrush = none ∧ t.screen.jams = 0
      ∧ t.screen.interval = 0 ∧ t.screen.intervalDue = false
      ∧ t.screen.condition = s.screen.condition
      ∧ t.screen.rake = (if (s.screen.condition = .high ∨ s.screen.condition = .blocked)
          ∧ rakeStop s = false ∧ loaded s = true then .wait else .idle)
      ∧ t.screen.postRake = (if s.screen.sensing = some .switch ∧ isActive s .screenSw = true
          ∧ s.screen.postRake = none then some 0 else s.screen.postRake)

/-- O43. RAKE_INRUSH_EXPIRY, RAKE_JAM and PAUSE_TIMER_EXPIRY (R91, R92, R99 to R101): a first jam rests
the rake, a second locks it; the screen is then judged at once; after the pause it waits to run. The start
of a run (R98, R99): GOOD_FRAME_END with a won claim of the rake, INRUSH, SUPPLY_LOW and ALL_STOP
recessive, the supply quiet and no rake stop takes RK_WAIT to RK_RUN, the motor on and both its timers
started. -/
def Obligations.RakeTimersExpire : Prop :=
  (∀ (s : State) (n : Nat), PumpSafe s → RakeSafe s → s.screen.rakeInrush = some n → 200 ≤ n →
    ∃ t, exec .rakeInrushExpiry s = .next t
      ∧ Follows { s with screen := { s.screen with rakeInrush := none } } t)
  ∧ (∀ (s : State) (n : Nat), PumpSafe s → RakeSafe s → s.screen.rakeRun = some n →
    s.cfg.tRake * 100 ≤ n →
    ∃ t, exec .rakeJam s = .next t ∧ t.alarms.rakeJam = some 0 ∧ t.screen.motor = false
      ∧ (s.screen.jams = 0 → Follows { s with
          alarms := { s.alarms with rakeJam := some 0 }
          screen := { s.screen with
            motor := false, rakeRun := none, rakeInrush := none, jams := 1, rake := .pause
            pause := some 0 } } t)
      ∧ (s.screen.jams = 1 → t.screen.rake = .locked ∧ t.screen.jams = 2
          ∧ t.screen.rakeRun = none
          ∧ (s.screen.sensing = some .diff → s.cfg.deltaR ≤ s.screen.delta →
              t.screen.condition = .blocked ∧ t.duty.pump ≠ .starting ∧ t.duty.pump ≠ .running)
          ∧ (s.screen.sensing = some .switch → isActive s .screenSw = true →
              t.screen.condition = .blocked ∧ t.duty.pump ≠ .starting ∧ t.duty.pump ≠ .running)))
  ∧ (∀ (s : State) (n : Nat), PumpSafe s → RakeSafe s → s.screen.pause = some n → 3000 ≤ n →
    ∃ t, exec .pauseTimerExpiry s = .next t
      ∧ Follows { s with screen := { s.screen with rake := .wait, pause := none } } t)
  ∧ ∀ (run : Nat) (c : Cells) (s : State) (d : Drive), s.line.mode = .joined →
    s.line.receiver = .inside → 4 ≤ run → run ≤ 6 → s.line.drive = some d →
    d.startKey = some (.screen, startField c) → s.screen.rake = .wait →
    (∀ i ∈ [1, 2, 3, 4, 5, 6, 7], c.getLsbD (stationCell (ownAddress s) + i) = true →
      d.cells.getLsbD (stationCell (ownAddress s) + i) = true) →
    c.getLsbD 19 = false → c.getLsbD 24 = false → c.getLsbD 27 = false →
    50 ≤ s.duty.supplyQuiet → isActive s .allStop = false → s.duty.mode ≠ .off →
    ∃ t, exec (.goodFrameEnd run c) s = .next t
      ∧ t.screen.rake = .run ∧ t.screen.motor = true ∧ t.screen.rakeRun = some 0
      ∧ t.screen.rakeInrush = some 0 ∧ t.screen.cycles = s.screen.cycles
      ∧ t.screen.condition = s.screen.condition

/-! ### Overflow, alarms, panel -/

/-- O44. PENDING_TIMER_EXPIRY and TAIL_TIMER_EXPIRY (R109, R111, R114): an event opens with its
OVERFLOW_START; it closes with its OVERFLOW_END and its OVERFLOW_TIME. The monitor of a weir bay at a gate
end (R105 to R108, R110, R113): the head and the level indication from channel A, blindness, the head
source with the moves it makes, and in an event the peak, the volume of each whole gate and the mark
incomplete. The model's own: the peak takes a greater head only, also at the gate end right after the
pending timer's expiry (log 43), and that gate end adds no volume also where a gate end went before the
expiry at the same moment (log 46). -/
def Obligations.EventOpensAndCloses : Prop :=
  (∀ (s : State) (n : Nat), PumpSafe s → RakeSafe s → s.ovf.state = .pending →
    s.ovf.blind = false → s.ovf.pending = some n → s.cfg.tOd * 100 ≤ n →
    ∃ t, exec .pendingTimerExpiry s = .next t ∧ Follows (handNotice { s with ovf := { s.ovf with
        state := .active, pending := none, startStamp := s.time.seconds
        tailStamp := s.time.seconds, peak := s.ovf.head, accumulator := 0, aboveTable := false
        incomplete := !s.ovf.volumeEnabled, prevGateOpen := false } }
      (newEntry .overflowStart (ownAddress s) 0 0 s.ovf.head true)) t)
  ∧ (∀ (s : State) (n volume : Nat), PumpSafe s → RakeSafe s → s.ovf.state = .tail →
    s.ovf.blind = false → s.ovf.tail = some n → s.cfg.tOt * 6000 ≤ n →
    volume = (if s.ovf.volumeEnabled then s.ovf.accumulator / 2000 else 0) →
    ∃ t, exec .tailTimerExpiry s = .next t ∧ Follows (handAll { s with ovf := { s.ovf with
        state := .idle, tail := none, prevGateOpen := false } }
      [newEntry .overflowEnd (ownAddress s) 0
        ((if s.ovf.incomplete then 1 else 0) + (if s.ovf.aboveTable then 2 else 0)
          + (if 65535 < volume then 4 else 0)) (min 65535 volume) true,
       newEntry .overflowTime (ownAddress s) (min 31 (s.ovf.peak / 100)) 0
        (min 65535 (((s.ovf.tailStamp - s.ovf.startStamp).toNat + 59) / 60)) true]) t)
  ∧ ∀ s t : State, t = overflowGate s →
    (s.straps.weirEn = false → t = s)
    ∧ (s.straps.weirEn = true →
      (s.chanA.mode = .healthy → t.ovf.head = s.chanA.e - s.cfg.crest
        ∧ t.ovf.levelActive = (decide (s.cfg.crest < s.chanA.e) && s.ovf.crestUsable))
      ∧ (s.chanA.mode = .suspect → t.ovf.head = s.ovf.head
        ∧ t.ovf.levelActive = s.ovf.levelActive)
      ∧ (s.chanA.mode = .starting ∨ s.chanA.mode = .faulted ∨ s.chanA.mode = .absent →
        t.ovf.head = 0 ∧ t.ovf.levelActive = false)
      ∧ t.ovf.blind = (!s.cfg.weirFloatFitted && !offersLevel s.chanA)
      ∧ t.ovf.prevGateOpen = overflowOpen t.ovf
      ∧ (t.ovf.blind = true → t.ovf.state = s.ovf.state ∧ t.ovf.sourceActive = s.ovf.sourceActive
        ∧ t.ovf.peak = s.ovf.peak ∧ t.ovf.accumulator = s.ovf.accumulator
        ∧ t.ovf.pending = s.ovf.pending ∧ t.ovf.tail = s.ovf.tail
        ∧ (s.ovf.blind = false → s.ovf.state = .active ∨ s.ovf.state = .tail →
            t.ovf.incomplete = true))
      ∧ (t.ovf.blind = false →
        t.ovf.sourceActive
          = (t.ovf.levelActive || (s.cfg.weirFloatFitted && isActive s .weirFloat))
        ∧ ((s.ovf.sourceActive = true ↔ s.ovf.state = .pending ∨ s.ovf.state = .active) →
          (s.ovf.state = .idle → t.ovf.state = (if t.ovf.sourceActive then .pending else .idle)
            ∧ (t.ovf.sourceActive = true → t.ovf.pending = some 0))
          ∧ (s.ovf.state = .pending →
            t.ovf.state = (if t.ovf.sourceActive then .pending else .idle)
            ∧ t.ovf.pending = (if t.ovf.sourceActive then s.ovf.pending else none))
          ∧ (s.ovf.state = .active → t.ovf.state = (if t.ovf.sourceActive then .active else .tail)
            ∧ (t.ovf.sourceActive = false → t.ovf.tail = some 0
              ∧ t.ovf.tailStamp = s.time.seconds))
          ∧ (s.ovf.state = .tail → t.ovf.state = (if t.ovf.sourceActive then .active else .tail)
            ∧ t.ovf.tail = (if t.ovf.sourceActive then none else s.ovf.tail)))
        ∧ (t.ovf.state = .active ∨ t.ovf.state = .tail →
          t.ovf.peak = (if s.chanA.mode = .healthy then max s.ovf.peak t.ovf.head else s.ovf.peak)
          ∧ (s.ovf.prevGateOpen = true → s.ovf.volumeEnabled = true → s.chanA.mode = .healthy →
            t.ovf.accumulator = min (2 ^ 32 - 1) (s.ovf.accumulator
                + (spillRate t.ovf.head s.cfg.spillHeads s.cfg.spillRates).1)
            ∧ t.ovf.aboveTable = (s.ovf.aboveTable
                || (spillRate t.ovf.head s.cfg.spillHeads s.cfg.spillRates).2)
            ∧ t.ovf.incomplete = s.ovf.incomplete)
          ∧ (s.ovf.prevGateOpen = true → s.ovf.volumeEnabled = false ∨ s.chanA.mode ≠ .healthy →
            t.ovf.accumulator = s.ovf.accumulator ∧ t.ovf.incomplete = true)
          ∧ (s.ovf.prevGateOpen = false → t.ovf.accumulator = s.ovf.accumulator
            ∧ t.ovf.incomplete = s.ovf.incomplete))
        ∧ (t.ovf.state = .idle ∨ t.ovf.state = .pending → t.ovf.peak = s.ovf.peak
          ∧ t.ovf.accumulator = s.ovf.accumulator)))

/-- O45. The spill rate of a head (R112): between two points of a usable table on the line between
their rates, truncated; from the last point on its rate, above the table; it never falls as the head
rises. Without volume enabled no rate is formed. -/
def Obligations.SpillRateOfHead : Prop :=
  (∀ (c : Settings) (h : Nat), spillUsable c = true → c.spillHeads.length = 9 →
    c.spillRates.length = 9 →
    (∀ i < 8, c.spillHeads.getD i 0 ≤ h → h < c.spillHeads.getD (i + 1) 0 →
      spillRate h c.spillHeads c.spillRates =
        (c.spillRates.getD i 0 + (c.spillRates.getD (i + 1) 0 - c.spillRates.getD i 0)
          * (h - c.spillHeads.getD i 0)
          / (c.spillHeads.getD (i + 1) 0 - c.spillHeads.getD i 0), false))
    ∧ (c.spillHeads.getD 8 0 ≤ h →
      spillRate h c.spillHeads c.spillRates = (c.spillRates.getD 8 0, true))
    ∧ (spillRate h c.spillHeads c.spillRates).1 ≤ c.spillRates.getD 8 0
    ∧ ∀ h' ≤ h, (spillRate h' c.spillHeads c.spillRates).1
        ≤ (spillRate h c.spillHeads c.spillRates).1)
  ∧ ∀ s : State, s.ovf.volumeEnabled = false →
      integrate s = { s with ovf := { s.ovf with incomplete := true } }

/-- O46. The moves of a record at a change of its effective condition (R121); a disabled record is not
moved (R118), nor is a latched one by its raw condition (R120); records of other codes keep still. An
acknowledgment (R122): both its steps on an enabled record, with the count and the first-active minute
kept; it is taken at an acknowledge press outside JOINED (R125), and at a good frame end whose ACK cell
read dominant outside LINE_FAULT (R124), by every record whose condition does not change there. What each
raw condition is (the table of 7.1, R117, R119, R173): the item of its owner that it stands for. That a
cause in the overflow fields alone does not raise CONFIG without WEIR_EN is the model's choice between
R104 and R173 (log 45). -/
def Obligations.RecordMoves : Prop :=
  (∀ s : State,
    rawCondition s .thermalTrip = isActive s .thermal
    ∧ rawCondition s .moisture = isActive s .moisture
    ∧ (rawCondition s .startFail = true ↔ s.alarms.startFail ≠ none)
    ∧ (rawCondition s .runLost = true ↔ s.alarms.runLost ≠ none)
    ∧ (rawCondition s .startsLimit = true ↔
        0 < s.cfg.startsPerHour ∧ s.cfg.startsPerHour ≤ s.duty.window.length)
    ∧ rawCondition s .changeoverBlocked = s.duty.changeoverBlocked
    ∧ rawCondition s .screenHigh = s.screen.screenHigh
    ∧ (rawCondition s .screenBlocked = true ↔ s.screen.condition = .blocked)
    ∧ (rawCondition s .rakeJam = true ↔ s.alarms.rakeJam ≠ none)
    ∧ (rawCondition s .levelAFault = true ↔ s.chanA.mode = .faulted)
    ∧ (rawCondition s .levelBFault = true ↔ s.chanB.mode = .faulted)
    ∧ (rawCondition s .dryRun = true ↔ isActive s .lowFloat = true ∧ 1 ≤ s.stager.dPre)
    ∧ rawCondition s .highFloat = isActive s .highFloat
    ∧ (rawCondition s .overflow = true ↔ s.ovf.state = .active ∨ s.ovf.state = .tail)
    ∧ (rawCondition s .lineFault = true ↔ s.line.mode = .lineFault)
    ∧ (rawCondition s .isolated = true ↔ s.line.mode = .isolated)
    ∧ (rawCondition s .config = true ↔ s.causeCfg = true
        ∨ s.loader.phase = .done ∧ s.loader.causeFound = true
          ∧ (s.straps.weirEn = true ∨ s.loader.overflowOnly = false))
    ∧ rawCondition s .supplyLow = isActive s .supplyLow
    ∧ rawCondition s .alone = s.line.alone
    ∧ (rawCondition s .telemetryDown = true ↔
        s.reporter.mode = .active ∧ s.reporter.linkUp = false)
    ∧ (rawCondition s .queueLoss = true ↔ s.alarms.queueLoss ≠ none)
    ∧ (rawCondition s .outOfService = true ↔ s.duty.pump = .outOfService)
    ∧ (rawCondition s .handMode = true ↔ s.duty.pump = .hand))
  ∧ ∀ (minute : Nat) (r : AlarmRecord),
    (r.state = .normal → recordActivated minute r = { r with
      state := .activeUnack, count := min (r.count + 1) 255, firstMinute := minute })
    ∧ (r.state = .clearedUnack → recordActivated minute r = { r with
      state := .activeUnack, count := min (r.count + 1) 255 })
    ∧ (r.state = .activeUnack ∨ r.state = .activeAck → recordActivated minute r = r)
    ∧ (r.state = .activeUnack → recordCleared r = { r with state := .clearedUnack })
    ∧ (r.state = .activeAck → recordCleared r = { r with state := .normal })
    ∧ (r.state = .normal ∨ r.state = .clearedUnack → recordCleared r = r)
    ∧ (∀ latches raw, r.enabled = false →
        recordRaw latches minute raw r = { r with raw := raw }
        ∧ recordAcknowledged latches r = r)
    ∧ (∀ raw, r.enabled = true → r.latched = true →
        recordRaw true minute raw r = { r with raw := raw })
    ∧ (∀ (s : State) (c d : AlarmCode), c ≠ d → recordOf (settleCode s c) d = recordOf s d)
    ∧ (∀ latches : Bool, r.enabled = true →
      (latches = true → r.latched = true → r.raw = false →
        recordAcknowledged latches r = { r with state := .normal, latched := false })
      ∧ (latches = false ∨ r.latched = false ∨ r.raw = true →
        recordAcknowledged latches r = { r with state :=
          if r.state = .activeUnack ∨ r.state = .activeAck then .activeAck else .normal }))
    ∧ (∀ s : State, InputSafe s → PumpSafe s → AlarmSafe s → loaded s = true →
      s.line.mode ≠ .joined → (inputState s .ackBtn).due = true → isActive s .ackBtn = false →
      ∃ t, exec (.inputAcceptedChange .ackBtn) s = .next t
        ∧ ∀ c, c ≠ .queueLoss → c ≠ .outOfService → c ≠ .handMode →
          recordOf t c = recordAcknowledged (latching c) (recordOf s c))
    ∧ ∀ (run : Nat) (cells : Cells) (s : State), PumpSafe s → AlarmSafe s → loaded s = true →
      s.line.receiver = .inside → 4 ≤ run → run ≤ 6 → s.line.mode ≠ .lineFault →
      cells.getLsbD 11 = true →
      ∃ t, exec (.goodFrameEnd run cells) s = .next t
        ∧ (t.line.mode = s.line.mode → ∀ c, c ≠ .queueLoss → c ≠ .outOfService →
            c ≠ .handMode → rawCondition t c = rawCondition s c →
            recordOf t c = recordAcknowledged (latching c) (recordOf s c))

/-- O47. PULSE_CONDITION_END, STRETCH_TIMER_EXPIRY and PULSE_TIMER_EXPIRY (R119, R130): the condition
has been raised for 1 s, and ends; the output's timer has run its stretch, and stops. The panel (R126, R129
to R132): what each source stands for; that a rise starts the timer of a steady or a pulse output; what
each output shows by its mode; when it is energised, and that its pin says so. That the stretch runs from
the rise, by the text of R130 and not by the worked example of chapter 7, is the model's choice (log 49). -/
def Obligations.AlarmAndPanelTimersExpire : Prop :=
  (∀ s : State,
    sourceOn s 0 = false ∧ sourceOn s 1 = s.duty.contactor
    ∧ sourceOn s 2 = s.duty.availableAtStart
    ∧ (sourceOn s 3 = true ↔ s.duty.pump = .faulted) ∧ sourceOn s 4 = s.duty.holdsLead
    ∧ (sourceOn s 5 = true ↔ s.duty.inrush ≠ none) ∧ sourceOn s 6 = s.screen.motor
    ∧ (sourceOn s 7 = true ↔ s.screen.condition = .blocked)
    ∧ (sourceOn s 8 = true ↔ s.screen.condition = .high)
    ∧ (sourceOn s 9 = true ↔ s.ovf.state = .active ∨ s.ovf.state = .tail
        ∨ s.line.mode ≠ .lineFault ∧ s.line.common.overflow = true)
    ∧ (sourceOn s 10 = true ↔ ∃ c, (recordOf s c).enabled = true ∧ (recordOf s c).state ≠ .normal)
    ∧ (sourceOn s 11 = true ↔ (∃ c, (recordOf s c).enabled = true
          ∧ ((recordOf s c).state = .activeUnack ∨ (recordOf s c).state = .clearedUnack))
        ∨ s.line.mode ≠ .lineFault ∧ s.line.common.unack = true)
    ∧ (sourceOn s 12 = true ↔ ∃ c, urgentCode c = true ∧ (recordOf s c).enabled = true
        ∧ (recordOf s c).state ≠ .normal)
    ∧ (sourceOn s 13 = true ↔ s.line.mode ≠ .joined)
    ∧ (sourceOn s 14 = true ↔ s.reporter.mode = .active)
    ∧ (sourceOn s 15 = true ↔ s.reporter.mode = .active ∧ s.reporter.linkUp = false)
    ∧ (∀ n, 1 ≤ n → n ≤ 8 → (sourceOn s (n + 15) = true ↔ n ≤ s.stager.dEff))
    ∧ (sourceOn s 24 = true ↔ isActive s .highFloat = true
        ∨ s.line.mode ≠ .lineFault ∧ s.line.common.highFloat = true)
    ∧ (sourceOn s 25 = true ↔ isActive s .lowFloat = true
        ∨ s.line.mode ≠ .lineFault ∧ s.line.common.dry = true)
    ∧ (sourceOn s 26 = true ↔ isActive s .supplyLow = true
        ∨ s.line.mode ≠ .lineFault ∧ s.line.common.supplyLow = true)
    ∧ (sourceOn s 27 = true ↔ isActive s .tideClosed = true
        ∨ s.line.mode ≠ .lineFault ∧ s.line.common.tide = true))
  ∧ (∀ (s : State) (o : OutputState),
    (∀ on : Bool, (followSource on o).source = on ∧ (followSource on o).entry = o.entry
      ∧ (on = false ∨ o.source = true →
          (followSource on o).stretch = o.stretch ∧ (followSource on o).pulse = o.pulse)
      ∧ (on = true → o.source = false →
          (followSource on o).stretch = (if o.entry.mode = .steady then
            if o.entry.stretch = 0 then none else some 0 else o.stretch)
          ∧ (followSource on o).pulse = (if o.entry.mode = .pulse then some 0 else o.pulse)))
    ∧ (o.entry.mode = .steady →
        (shownValue s o = true ↔ o.source = true ∨ o.stretch ≠ none))
    ∧ (o.entry.mode = .pulse → (shownValue s o = true ↔ o.pulse ≠ none))
    ∧ (o.entry.mode = .annunciated → o.entry.source ≠ 10 → o.entry.source ≠ 12 →
        shownValue s o = o.source)
    ∧ (o.entry.mode = .annunciated → o.entry.source = 10 ∨ o.entry.source = 12 →
        ∀ covered : AlarmState → Prop, (∀ st, covered st ↔ ∃ c, (recordOf s c).enabled = true
          ∧ (recordOf s c).state = st ∧ (o.entry.source = 12 → urgentCode c = true)) →
        (covered .activeUnack → (shownValue s o = true ↔ s.panel.phase % 100 < 50))
        ∧ (¬covered .activeUnack → covered .clearedUnack →
          (shownValue s o = true ↔ s.panel.phase < 100))
        ∧ (¬covered .activeUnack → ¬covered .clearedUnack →
          (shownValue s o = true ↔ covered .activeAck)))
    ∧ (energised s o = true ↔ s.loader.phase = .done
        ∧ (isActive s .lampTest = true ∨ (shownValue s o = true ↔ o.entry.invert = false)))
    ∧ ∀ (outputs : List OutputState) (n : Nat), n < 8 → outputs[n]? = some o →
        (pinsOf s outputs).getLsbD n = energised s o)
  ∧ (∀ (s : State) (n : Nat), PumpSafe s → RakeSafe s → 100 ≤ n →
    (s.alarms.startFail = some n → ∃ t, exec (.pulseConditionEnd .startFail) s = .next t
      ∧ Follows { s with alarms := { s.alarms with startFail := none } } t)
    ∧ (s.alarms.runLost = some n → ∃ t, exec (.pulseConditionEnd .runLost) s = .next t
      ∧ Follows { s with alarms := { s.alarms with runLost := none } } t)
    ∧ (s.alarms.rakeJam = some n → ∃ t, exec (.pulseConditionEnd .rakeJam) s = .next t
      ∧ Follows { s with alarms := { s.alarms with rakeJam := none } } t)
    ∧ (s.alarms.queueLoss = some n → ∃ t, exec (.pulseConditionEnd .queueLoss) s = .next t
      ∧ Follows { s with alarms := { s.alarms with queueLoss := none } } t
      ∧ (AlarmSafe s → t.alarms.queueLoss = none ∧ t.notices = s.notices
        ∧ t.reporter = s.reporter)))
  ∧ (∀ (k : Fin 8) (s : State) (n : Nat), PumpSafe s → RakeSafe s →
    (outputAt s k).stretch = some n → (outputAt s k).entry.stretch * 100 ≤ n →
    ∃ t, exec (.stretchTimerExpiry k) s = .next t ∧ Follows { s with panel := { s.panel with
      outputs := s.panel.outputs.set k.val { outputAt s k with stretch := none } } } t)
  ∧ ∀ (k : Fin 8) (s : State) (n : Nat), PumpSafe s → RakeSafe s →
    (outputAt s k).pulse = some n →
    (if (outputAt s k).entry.stretch = 0 then 1 else (outputAt s k).entry.stretch * 100) ≤ n →
    ∃ t, exec (.pulseTimerExpiry k) s = .next t ∧ Follows { s with panel := { s.panel with
      outputs := s.panel.outputs.set k.val { outputAt s k with pulse := none } } } t

/-! ### Town -/

/-- O48. TOWN_MESSAGE_INVALID and CHARACTER_GAP_TIMEOUT (R149, R150): a wrong first character, a length out
of 3 to 40, a wrong check or another house's number, a message that stops: counted, and discarded; the last
also while a message of the house is sent, since the port is free before the gap is found (log 13). -/
def Obligations.BadMessagesCounted : Prop :=
  (∀ (chars : List Byte) (s : State), PumpSafe s → RakeSafe s → s.reporter.mode = .active →
    s.reporter.port = .idle →
    (∃ c, chars = [c] ∧ c ≠ 0x5A#8)
      ∨ (∃ l, chars = [0x5A#8, l] ∧ (l.toNat < 3 ∨ 40 < l.toNat))
      ∨ (∃ l rest, chars = 0x5A#8 :: l :: rest ∧ 3 ≤ l.toNat ∧ l.toNat ≤ 40
          ∧ rest.length = l.toNat + 2
          ∧ (byte2 (crc16 (l :: rest.take l.toNat)) ≠ rest.drop l.toNat
            ∨ (rest.headD 0).toNat ≠ s.cfg.house)) →
    ∃ t, exec (.townMessageInvalid chars) s = .next t ∧ Follows { s with reporter :=
      { s.reporter with
        badMessages := min (s.reporter.badMessages + 1) 255, sinceChar := some 0 } } t)
  ∧ ∀ (chars : List Byte) (s : State), PumpSafe s → RakeSafe s → s.reporter.mode = .active →
    chars = [0x5A#8] ∨ (∃ l rest, chars = 0x5A#8 :: l :: rest ∧ 3 ≤ l.toNat ∧ l.toNat ≤ 40
      ∧ rest.length < l.toNat + 2) →
    ∃ t, exec (.characterGapTimeout chars) s = .next t ∧ Follows { s with reporter :=
      { s.reporter with
        badMessages := min (s.reporter.badMessages + 1) 255, sinceChar := none } } t

/-- O49. TOWN_POLL, TOWN_CLOCK, TOWN_REPORTING and TOWN_UNKNOWN_TYPE with room for an answer (R151,
R154, R158 to R160): the answer owed, and what is set. That a POLL refused for its length makes no resend
due either on a link that was DOWN is the model's choice (log 44). -/
def Obligations.TownAnswered : Prop :=
  (∀ (chars : List Byte) (s : State) (m : TownMessage), PumpSafe s → RakeSafe s →
    s.reporter.mode = .active → s.reporter.port = .idle → parseTown s.cfg.house chars = some m →
    answerRoom s = true → m.type = 1 →
    ∃ t, exec (.townPoll chars) s = .next t ∧ Follows { s with reporter :=
      { townHeard true s.reporter with answers := s.reporter.answers ++
        [⟨if m.len = 3 then .poll else .refused 2, 1, m.seq⟩] } } t)
  ∧ (∀ (chars : List Byte) (s : State) (m : TownMessage), PumpSafe s → RakeSafe s →
    s.reporter.mode = .active → s.reporter.port = .idle → parseTown s.cfg.house chars = some m →
    answerRoom s = true → m.type = 6 →
    ∃ t, exec (.townClock chars) s = .next t ∧ Follows { s with reporter :=
      { townHeard false s.reporter with
        clock := if m.len = 7 ∧ bodyWord m 2 < 1440 then some ⟨bodyWord m 0, bodyWord m 2, 0⟩
          else s.reporter.clock
        answers := s.reporter.answers ++ [⟨if m.len ≠ 7 then .refused 2
          else if bodyWord m 2 < 1440 then .done else .refused 6, 6, m.seq⟩] } } t)
  ∧ (∀ (chars : List Byte) (s : State) (m : TownMessage), PumpSafe s → RakeSafe s →
    s.reporter.mode = .active → s.reporter.port = .idle → parseTown s.cfg.house chars = some m →
    answerRoom s = true → m.type = 7 → m.len = 5 → bodyByte m 0 ≤ 2 → bodyByte m 1 ≤ 2 →
    ∃ t, exec (.townReporting chars) s = .next t ∧ Follows { s with reporter :=
      { townHeard false s.reporter with
        urgentEnable := if bodyByte m 0 = 1 then true else if bodyByte m 0 = 2 then false
          else s.reporter.urgentEnable
        routineEnable := if bodyByte m 1 = 1 then true else if bodyByte m 1 = 2 then false
          else s.reporter.routineEnable
        answers := s.reporter.answers ++ [⟨.done, 7, m.seq⟩] } } t)
  ∧ ∀ (chars : List Byte) (s : State) (m : TownMessage), PumpSafe s → RakeSafe s →
    s.reporter.mode = .active → s.reporter.port = .idle → parseTown s.cfg.house chars = some m →
    answerRoom s = true → m.type = 0 ∨ 7 < m.type →
    ∃ t, exec (.townUnknownType chars) s = .next t ∧ Follows { s with reporter :=
      { townHeard false s.reporter with
        answers := s.reporter.answers ++ [⟨.refused 1, m.type, m.seq⟩] } } t

/-- O50. TOWN_ACK (R158, R164): the record in flight with its sequence leaves its queue, a dump
suspended for it resumes, loss pending clears if its REPORT carried it; another sequence removes
nothing; the alarm flag asserts ACK. -/
def Obligations.TownAcknowledges : Prop :=
  ∀ (chars : List Byte) (s : State) (m : TownMessage), PumpSafe s → RakeSafe s →
    s.reporter.mode = .active → s.reporter.port = .idle → parseTown s.cfg.house chars = some m →
    m.type = 2 → m.len = 4 →
    ∃ t, exec (.townAck chars) s = .next t
      ∧ (∀ f, s.reporter.flight = some f → f.seq = m.seq → Follows { s with
          alarms := { s.alarms with ackTown := s.alarms.ackTown || bodyByte m 0 != 0 }
          reporter := { townHeard false s.reporter with
            flight := none
            urgentQueue := s.reporter.urgentQueue.filter (!·.inFlight)
            routineQueue := s.reporter.routineQueue.filter (!·.inFlight)
            dump := s.reporter.dump.map fun d => { d with suspended := false }
            lossPending := s.reporter.lossPending && !f.lossSent } } t)
      ∧ ((∀ f, s.reporter.flight = some f → f.seq ≠ m.seq) → Follows { s with
          alarms := { s.alarms with ackTown := s.alarms.ackTown || bodyByte m 0 != 0 }
          reporter := townHeard false s.reporter } t)

/-- O51. TOWN_DUMP, TOWN_INHIBIT and TOWN_RELEASE with room for an answer (R155, R162, R165): the dump
begun, its start brought forward to the oldest held record; the command relayed as a COMMAND notice,
which goes ahead of TELEMETRY_DOWN's where the link was DOWN (the model's reading, log 50); each
refusal. That a dump which replaces a suspended one is not suspended is the model's choice (log 39). A
message that finds no room on the answer list is dropped; one of the wrong length is refused with reason
2, one with a value out of range with reason 6; an ACK of the wrong length does nothing more than any
valid message does (R151, R158, R160). That a POLL dropped for a full list makes no resend due either on
a link that was DOWN is the model's choice (log 44). -/
def Obligations.TownDumpsAndRelays : Prop :=
  (∀ (chars : List Byte) (s : State) (m : TownMessage), PumpSafe s → RakeSafe s →
    s.reporter.mode = .active → s.reporter.port = .idle → parseTown s.cfg.house chars = some m →
    answerRoom s = true → m.type = 3 → m.len = 6 → bodyByte m 2 ≤ 15 →
    ∃ t, exec (.townDump chars) s = .next t
      ∧ (numberNewer s.reporter (bodyWord m 0) = true → Follows { s with reporter :=
          { townHeard false s.reporter with
            dump := none
            answers := s.reporter.answers ++ [⟨.refused 5, 3, m.seq⟩] } } t)
      ∧ (numberNewer s.reporter (bodyWord m 0) = false → Follows { s with reporter :=
          { townHeard false s.reporter with
            dump := some ⟨if numberOlder s.reporter (bodyWord m 0) then oldestNumber s.reporter
              else bodyWord m 0, bodyByte m 2 + 1, numberOlder s.reporter (bodyWord m 0), 0,
              m.seq, false, bodyByte m 2 + 1⟩ } } t))
  ∧ (∀ (c : Instr) (code : Nat) (chars : List Byte) (s : State) (m : TownMessage), PumpSafe s →
    RakeSafe s → s.reporter.mode = .active → s.reporter.port = .idle →
    parseTown s.cfg.house chars = some m → answerRoom s = true → m.len = 4 → bodyByte m 0 ≤ 7 →
    (c = .townInhibit chars ∧ m.type = 4 ∧ code = 1)
      ∨ (c = .townRelease chars ∧ m.type = 5 ∧ code = 2) →
    ∃ t, exec c s = .next t
      ∧ (freshAt s (bodyByte m 0) = false → Follows { s with reporter :=
          { townHeard false s.reporter with
            answers := s.reporter.answers ++ [⟨.refused 3, m.type, m.seq⟩] } } t)
      ∧ (freshAt s (bodyByte m 0) = true → s.reporter.command ≠ none → Follows { s with reporter :=
          { townHeard false s.reporter with
            answers := s.reporter.answers ++ [⟨.refused 7, m.type, m.seq⟩] } } t)
      ∧ (freshAt s (bodyByte m 0) = true → s.reporter.command = none → Follows (handNotice
          { s with reporter := { townHeard false s.reporter with
            command := some ⟨bodyByte m 0, code, m.type, m.seq, false, 0⟩ } }
          { newEntry .command (bodyByte m 0) code 0 0 true with forContext := true }) t))
  ∧ ∀ (c : Instr) (chars : List Byte) (s : State) (m : TownMessage), PumpSafe s → RakeSafe s →
    s.reporter.mode = .active → s.reporter.port = .idle → parseTown s.cfg.house chars = some m →
    ((answerRoom s = false → (c = .townPoll chars ∧ m.type = 1) ∨ (c = .townDump chars ∧ m.type = 3)
        ∨ (c = .townInhibit chars ∧ m.type = 4) ∨ (c = .townRelease chars ∧ m.type = 5)
        ∨ (c = .townClock chars ∧ m.type = 6) ∨ (c = .townReporting chars ∧ m.type = 7)
        ∨ (c = .townUnknownType chars ∧ (m.type = 0 ∨ 7 < m.type)) →
      ∃ t, exec c s = .next t
        ∧ Follows { s with reporter := townHeard (decide (m.type = 1)) s.reporter } t)
    ∧ (c = .townAck chars → m.type = 2 → m.len ≠ 4 →
      ∃ t, exec c s = .next t ∧ Follows { s with reporter := townHeard false s.reporter } t)
    ∧ (answerRoom s = true → (c = .townDump chars ∧ m.type = 3 ∧ m.len ≠ 6)
        ∨ (c = .townInhibit chars ∧ m.type = 4 ∧ m.len ≠ 4)
        ∨ (c = .townRelease chars ∧ m.type = 5 ∧ m.len ≠ 4)
        ∨ (c = .townReporting chars ∧ m.type = 7 ∧ m.len ≠ 5) →
      ∃ t, exec c s = .next t ∧ Follows { s with reporter := { townHeard false s.reporter with
        answers := s.reporter.answers ++ [⟨.refused 2, m.type, m.seq⟩] } } t)
    ∧ (answerRoom s = true → (c = .townDump chars ∧ m.type = 3 ∧ m.len = 6 ∧ 15 < bodyByte m 2)
        ∨ (c = .townInhibit chars ∧ m.type = 4 ∧ m.len = 4 ∧ 7 < bodyByte m 0)
        ∨ (c = .townRelease chars ∧ m.type = 5 ∧ m.len = 4 ∧ 7 < bodyByte m 0)
        ∨ (c = .townReporting chars ∧ m.type = 7 ∧ m.len = 5
          ∧ (2 < bodyByte m 0 ∨ 2 < bodyByte m 1)) →
      ∃ t, exec c s = .next t ∧ Follows { s with reporter := { townHeard false s.reporter with
        answers := s.reporter.answers ++ [⟨.refused 6, m.type, m.seq⟩] } } t))

/-- O52. PORT_SEND (R149, R152, R157 to R159, R161, R163, R164): an answer owed goes first, a DONE, a
REFUSED, or for a POLL the record in flight again, else the oldest record, urgent before routine, else
the STATUS; then a record due again; then, of a dump that is not suspended, an urgent report that
suspends it, the next DUMP_RECORD, from the oldest held where the ring has passed it, or its DUMP_END;
with no dump the oldest urgent record and then the oldest routine one goes as a REPORT. TEL_KEY is
raised with each. The 16 bytes of the STATUS: address, line state, D_eff, the eight station bytes, E_A,
the flags, both counters (11.2). That T_a stops while a record is sent again is the model's reading (log
23); that a resend already due is made with a POLL's answer is its choice (log 52). -/
def Obligations.PortSends : Prop :=
  (∀ (s : State) (a : Answer) (rest : List Answer), PumpSafe s → RakeSafe s →
    s.reporter.mode = .active → s.reporter.port = .idle → s.reporter.sinceChar = none →
    s.reporter.answers = a :: rest →
    ∃ t, exec .portSend s = .next t
      ∧ (a.kind = .done → Follows { s with reporter := { s.reporter with
          answers := rest, port := .keyUp 0, isReport := false
          message := houseMessage s.cfg.house 0x85 a.seq [BitVec.ofNat 8 a.type] } } t)
      ∧ (∀ reason, a.kind = .refused reason → Follows { s with reporter := { s.reporter with
          answers := rest, port := .keyUp 0, isReport := false
          message := houseMessage s.cfg.house 0x86 a.seq
            [BitVec.ofNat 8 a.type, BitVec.ofNat 8 reason] } } t)
      ∧ (a.kind = .poll → s.reporter.flight = none → s.reporter.urgentQueue = [] →
          s.reporter.routineQueue = [] → Follows { s with reporter := { s.reporter with
            answers := rest, port := .keyUp 0, isReport := false
            downSince := false, badMessages := 0, lostReports := 0
            message := houseMessage s.cfg.house 0x82 a.seq (statusBody s) } } t)
      ∧ (∀ f x, a.kind = .poll → s.reporter.flight = some f →
          (if f.urgent then s.reporter.urgentQueue else s.reporter.routineQueue).find? (·.inFlight)
            = some x →
          Follows { s with reporter := { s.reporter with
            answers := rest, port := .keyUp 0, isReport := true
            flight := some { f with
              retries := 0, ta := none, resendDue := false
              lossSent := f.lossSent || s.reporter.lossPending }
            message := houseMessage s.cfg.house 0x81
              (f.seq + recordFlags x.record + (if s.reporter.lossPending then 64 else 0))
              (recordBytes x.record) } } t)
      ∧ (∀ x more, a.kind = .poll → s.reporter.flight = none → s.reporter.urgentQueue = x :: more →
          Follows { s with reporter := { s.reporter with
            answers := rest, port := .keyUp 0, isReport := true
            flight := some ⟨true, s.reporter.nextSeq, 0, none, false, s.reporter.lossPending⟩
            nextSeq := (s.reporter.nextSeq + 1) % 16
            urgentQueue := { x with inFlight := true } :: more
            message := houseMessage s.cfg.house 0x81 (s.reporter.nextSeq + recordFlags x.record
              + (if s.reporter.lossPending then 64 else 0)) (recordBytes x.record) } } t)
      ∧ (∀ x more, a.kind = .poll → s.reporter.flight = none → s.reporter.urgentQueue = [] →
          s.reporter.routineQueue = x :: more → Follows { s with reporter := { s.reporter with
            answers := rest, port := .keyUp 0, isReport := true
            flight := some ⟨false, s.reporter.nextSeq, 0, none, false, s.reporter.lossPending⟩
            nextSeq := (s.reporter.nextSeq + 1) % 16
            routineQueue := { x with inFlight := true } :: more
            message := houseMessage s.cfg.house 0x81 (s.reporter.nextSeq + recordFlags x.record
              + (if s.reporter.lossPending then 64 else 0)) (recordBytes x.record) } } t))
  ∧ (∀ s : State, ∃ (stations : List Byte) (flags : Byte),
    statusBody s = [BitVec.ofNat 8 (ownAddress s), 1#8, BitVec.ofNat 8 s.stager.dEff] ++ stations
      ++ (if s.chanA.mode = .healthy ∨ s.chanA.mode = .suspect then
          [BitVec.ofNat 8 (s.chanA.e / 256), BitVec.ofNat 8 s.chanA.e] else [0xFF#8, 0xFF#8])
      ++ [flags, BitVec.ofNat 8 s.reporter.badMessages, BitVec.ofNat 8 s.reporter.lostReports]
    ∧ stations.length = 8
    ∧ (∀ a b, stations[a]? = some b →
      b.getLsbD 0 = freshAt s a ∧ b.getLsbD 1 = (peer s a).lead
      ∧ b.getLsbD 2 = (peer s a).available ∧ b.getLsbD 3 = (peer s a).running
      ∧ b.getLsbD 4 = (peer s a).starting ∧ b.getLsbD 5 = (peer s a).blocked
      ∧ b.getLsbD 6 = (peer s a).yielding
      ∧ (b.getLsbD 7 = true ↔ s.reporter.alarmView.getD a [] ≠ []))
    ∧ (flags.getLsbD 0 = true ↔ s.reporter.clock = none)
    ∧ flags.getLsbD 1 = s.reporter.urgentEnable ∧ flags.getLsbD 2 = s.reporter.routineEnable
    ∧ flags.getLsbD 3 = s.reporter.downSince ∧ ∀ i, 4 ≤ i → flags.getLsbD i = false)
  ∧ (∀ (s : State) (f : Flight) (x : QueuedRecord), PumpSafe s → RakeSafe s →
    s.reporter.mode = .active → s.reporter.port = .idle → s.reporter.sinceChar = none →
    s.reporter.answers = [] → s.reporter.flight = some f → f.resendDue = true →
    (if f.urgent then s.reporter.urgentQueue else s.reporter.routineQueue).find? (·.inFlight)
      = some x →
    ∃ t, exec .portSend s = .next t ∧ Follows { s with reporter := { s.reporter with
      port := .keyUp 0, isReport := true
      flight := some { f with
        ta := none, resendDue := false, lossSent := f.lossSent || s.reporter.lossPending }
      message := houseMessage s.cfg.house 0x81
        (f.seq + recordFlags x.record + (if s.reporter.lossPending then 64 else 0))
        (recordBytes x.record) } } t)
  ∧ (∀ (s : State) (d : DumpContext), PumpSafe s → RakeSafe s →
    s.reporter.mode = .active → s.reporter.port = .idle → s.reporter.sinceChar = none →
    s.reporter.answers = [] → (∀ f, s.reporter.flight = some f → f.resendDue = false) →
    s.reporter.dump = some d → d.suspended = false →
    (∀ x more, s.reporter.urgentQueue = x :: more → s.reporter.urgentEnable = true →
      s.reporter.linkUp = true → s.reporter.flight = none →
      ∃ t, exec .portSend s = .next t ∧ Follows { s with reporter := { s.reporter with
        port := .keyUp 0, isReport := true, dump := some { d with suspended := true }
        flight := some ⟨true, s.reporter.nextSeq, 0, none, false, s.reporter.lossPending⟩
        nextSeq := (s.reporter.nextSeq + 1) % 16
        urgentQueue := { x with inFlight := true } :: more
        message := houseMessage s.cfg.house 0x81 (s.reporter.nextSeq + recordFlags x.record
          + (if s.reporter.lossPending then 64 else 0)) (recordBytes x.record) } } t)
    ∧ (s.reporter.urgentQueue = [] ∨ s.reporter.urgentEnable = false ∨ s.reporter.linkUp = false
        ∨ s.reporter.flight ≠ none →
      ∀ next gap,
      next = (if numberOlder s.reporter d.next then oldestNumber s.reporter else d.next) →
      gap = (d.gap || numberOlder s.reporter d.next) →
      ∃ t, exec .portSend s = .next t
        ∧ (d.remaining = 0 ∨ numberNewer s.reporter next = true → Follows { s with reporter :=
          { s.reporter with
            port := .keyUp 0, isReport := false, dump := none
            message := houseMessage s.cfg.house 0x84 d.seq
              [BitVec.ofNat 8 (if gap then 1 else 0), BitVec.ofNat 8 d.sent] } } t)
        ∧ (∀ rec, 0 < d.remaining → numberNewer s.reporter next = false →
          recordNumbered s.reporter next = some rec → Follows { s with reporter :=
          { s.reporter with
            port := .keyUp 0, isReport := false
            dump := some { d with
              next := (next + 1) % 65536, remaining := d.remaining - 1, sent := d.sent + 1
              gap := gap }
            message := houseMessage s.cfg.house 0x83 (d.seq + recordFlags rec)
              ([BitVec.ofNat 8 (next / 256), BitVec.ofNat 8 next] ++ recordBytes rec) } } t)))
  ∧ (∀ (s : State) (x : QueuedRecord) (rest : List QueuedRecord), PumpSafe s → RakeSafe s →
    s.reporter.mode = .active → s.reporter.port = .idle → s.reporter.sinceChar = none →
    s.reporter.answers = [] → s.reporter.flight = none → s.reporter.dump = none →
    s.reporter.linkUp = true → s.reporter.urgentEnable = false ∨ s.reporter.urgentQueue = [] →
    s.reporter.routineEnable = true → s.reporter.routineQueue = x :: rest →
    ∃ t, exec .portSend s = .next t ∧ Follows { s with reporter := { s.reporter with
      port := .keyUp 0, isReport := true
      message := houseMessage s.cfg.house 0x81
        (s.reporter.nextSeq + recordFlags x.record + (if s.reporter.lossPending then 64 else 0))
        (recordBytes x.record)
      flight := some ⟨false, s.reporter.nextSeq, 0, none, false, s.reporter.lossPending⟩
      nextSeq := (s.reporter.nextSeq + 1) % 16
      routineQueue := { x with inFlight := true } :: rest } } t)
  ∧ ∀ (s : State) (x : QueuedRecord) (rest : List QueuedRecord), PumpSafe s → RakeSafe s →
    s.reporter.mode = .active → s.reporter.port = .idle → s.reporter.sinceChar = none →
    s.reporter.answers = [] → s.reporter.flight = none → s.reporter.dump = none →
    s.reporter.linkUp = true → s.reporter.urgentEnable = true →
    s.reporter.urgentQueue = x :: rest →
    ∃ t, exec .portSend s = .next t ∧ Follows { s with reporter := { s.reporter with
      port := .keyUp 0, isReport := true
      message := houseMessage s.cfg.house 0x81
        (s.reporter.nextSeq + recordFlags x.record + (if s.reporter.lossPending then 64 else 0))
        (recordBytes x.record)
      flight := some ⟨true, s.reporter.nextSeq, 0, none, false, s.reporter.lossPending⟩
      nextSeq := (s.reporter.nextSeq + 1) % 16
      urgentQueue := { x with inFlight := true } :: rest } } t

/-- O53. KEY_UP_DELAY_EXPIRY, TRANSMIT_END and T_A_EXPIRY (R149, R158): the message is sent after the
key-up delay; TEL_KEY drops after its last stop bit, and a REPORT's T_a starts; at T_a the record is
due again, or at the retry limit the link is DOWN. The tick from which TRANSMIT_END may be taken, by ten
bit times a character, is the model's choice (log 14). -/
def Obligations.PortTimersExpire : Prop :=
  (∀ (s : State) (n : Nat), PumpSafe s → RakeSafe s → s.reporter.port = .keyUp n →
    s.cfg.keyUp ≤ n →
    ∃ t, exec .keyUpDelayExpiry s = .next t
      ∧ Follows { s with reporter := { s.reporter with port := .sending 0 } } t)
  ∧ (∀ (s : State) (n : Nat), PumpSafe s → RakeSafe s → s.reporter.port = .sending n →
    1000 * s.reporter.message.length ≤ (n + 1) * baudOf s.cfg.baudCode →
    ∃ t, exec .transmitEnd s = .next t ∧ Follows { s with reporter := { s.reporter with
      port := .idle, message := [], isReport := false
      flight := if s.reporter.isReport then s.reporter.flight.map fun f => { f with ta := some 0 }
        else s.reporter.flight } } t)
  ∧ ∀ (s : State) (f : Flight) (n : Nat), PumpSafe s → RakeSafe s → s.reporter.flight = some f →
    f.ta = some n → s.cfg.ta * 100 ≤ n →
    ∃ t, exec .tAExpiry s = .next t
      ∧ (f.retries < s.cfg.retryLimit → Follows { s with reporter := { s.reporter with
          flight := some { f with retries := f.retries + 1, resendDue := true, ta := none } } } t)
      ∧ (s.cfg.retryLimit ≤ f.retries → Follows { s with reporter := { s.reporter with
          linkUp := false, downSince := true, flight := some { f with ta := none }
          dump := s.reporter.dump.map fun d => { d with suspended := false } } } t)

/-- O54. A message as sent is a message as received (11.2, R150, R176): the receiver reads the type,
the sequence, the length and the body that the sender framed. -/
def Obligations.MessagesAgree : Prop :=
  ∀ (house type seq : Nat) (body : List Byte), house < 256 → type < 256 → seq < 16 →
    body.length ≤ 37 →
    parseTown house (houseMessage house type seq body)
      = some ⟨type, seq, 3 + body.length, body⟩

/-- O55. A notice as driven is a notice as read (R2, R139, R140, R175): every kind, subject, code,
state and value in its range comes back from its cells. -/
def Obligations.NoticesAgree : Prop :=
  ∀ e : NoticeEntry, e.subject ≤ 7 → e.value < 65536 → fieldsInRange e.kind e.code e.state = true →
    bodyField (noticeCells (bodyOf e) (crc8 (bodyOf e))) = bodyOf e
    ∧ checkField (noticeCells (bodyOf e) (crc8 (bodyOf e))) = crc8 (bodyOf e)
    ∧ receivedOf (bodyOf e) = some ⟨e.kind, e.subject, e.code, e.state, e.value⟩
    ∧ ∀ k < 96, (noticeCells (bodyOf e) (crc8 (bodyOf e))).getLsbD k = false

/-! ### Whole-machine rules -/

/-- O56. A pump enters STARTING, or a rake RK_RUN, only at the end of a frame whose start-claim field
reads the key that the bay drove for it, with INRUSH, SUPPLY_LOW and ALL_STOP recessive, or by a
fallback start in LINE_FAULT (R74, R86, R98, R99). -/
def Obligations.StartsAreWon : Prop :=
  ∀ (c : Instr) (s t : State), exec c s = .next t →
    (s.duty.pump ≠ .starting → t.duty.pump = .starting →
      (∃ run cells d, c = .goodFrameEnd run cells ∧ s.line.mode = .joined
        ∧ s.duty.pump = .startWait ∧ s.line.drive = some d
        ∧ d.startKey = some (.duty, startField cells) ∧ cells.getLsbD 8 = false
        ∧ cells.getLsbD 19 = false ∧ cells.getLsbD 24 = false ∧ cells.getLsbD 27 = false)
      ∨ (c = .fallbackStart ∧ s.line.mode = .lineFault ∧ s.duty.pump = .idle))
    ∧ (s.screen.rake ≠ .run → t.screen.rake = .run →
      ∃ run cells d, c = .goodFrameEnd run cells ∧ s.line.mode = .joined
        ∧ s.screen.rake = .wait ∧ s.line.drive = some d
        ∧ d.startKey = some (.screen, startField cells)
        ∧ cells.getLsbD 19 = false ∧ cells.getLsbD 24 = false ∧ cells.getLsbD 27 = false)

/-- O57. ISOLATED is left only by RESET, with the driver cut all the while (R22); settings, straps and
image hold from the loader's finish to RESET (R166, R174). -/
def Obligations.HeldUntilReset : Prop :=
  ∀ (c : Instr) (s t : State), LineSafe s → c ≠ .reset → exec c s = .next t →
    (s.line.mode = .isolated → t.line.mode = .isolated ∧ t.line.driver = .cut
      ∧ t.line.drive = none ∧ t.line.due = false)
    ∧ (captured s = true → t.straps = s.straps)
    ∧ (loaded s = true → t.cfg = s.cfg ∧ loaded t = true ∧ t.loader.image = s.loader.image
        ∧ t.loader.reduced = s.loader.reduced ∧ t.loader.ready = s.loader.ready)

/-- O58. A pump leaves FAULTED, other than by RESET, only with every alarm of its cause set in NORMAL
(R64). -/
def Obligations.FaultsAreAcknowledged : Prop :=
  ∀ (c : Instr) (s t : State), Good s → c ≠ .reset → exec c s = .next t →
    s.duty.pump = .faulted → t.duty.pump ≠ .faulted →
    t.duty.causes = [] ∧ ∀ code ∈ s.duty.causes, (recordOf t code).state = .normal

/-! ### The invariants that every step keeps -/

/-- O59. Every step keeps the invariants of the pump, its changeover, the rake, the line, the levels, the
settings and the overflow. -/
def Obligations.PlantStaysSafe : Prop :=
  ∀ s t : State, Good s → step s = .next t →
    InputSafe t ∧ PumpSafe t ∧ ModeSafe t ∧ WindowSafe t ∧ RakeSafe t ∧ LineSafe t
      ∧ SettingsSafe t ∧ StageSafe t ∧ OverflowSafe t ∧ ChangeoverSafe t

/-- O60. Every step keeps the invariants of the alarm table, the panel, the notice queue and the
reporter. -/
def Obligations.HouseStaysSafe : Prop :=
  ∀ s t : State, Good s → step s = .next t →
    AlarmSafe t ∧ PanelSafe t ∧ QueueSafe t ∧ ReporterSafe t
end

