-- ==== Sys2Proof/Laws/State.lean ====
section
/-! SUPPORT. One lemma per field for each update of State: what it writes and what it keeps. -/

namespace Sys2Proof.Machine

open Sys2Proof

variable (s : State)

section SetDuty

variable (d : Duty)

@[simp] theorem setDuty_time : (setDuty s d).time = s.time := rfl
@[simp] theorem setDuty_inputs : (setDuty s d).inputs = s.inputs := rfl
@[simp] theorem setDuty_straps : (setDuty s d).straps = s.straps := rfl
@[simp] theorem setDuty_loader : (setDuty s d).loader = s.loader := rfl
@[simp] theorem setDuty_cfg : (setDuty s d).cfg = s.cfg := rfl
@[simp] theorem setDuty_causeCfg : (setDuty s d).causeCfg = s.causeCfg := rfl
@[simp] theorem setDuty_line : (setDuty s d).line = s.line := rfl
@[simp] theorem setDuty_gate : (setDuty s d).gate = s.gate := rfl
@[simp] theorem setDuty_chanA : (setDuty s d).chanA = s.chanA := rfl
@[simp] theorem setDuty_chanB : (setDuty s d).chanB = s.chanB := rfl
@[simp] theorem setDuty_stager : (setDuty s d).stager = s.stager := rfl
@[simp] theorem setDuty_duty : (setDuty s d).duty = d := rfl
@[simp] theorem setDuty_screen : (setDuty s d).screen = s.screen := rfl
@[simp] theorem setDuty_ovf : (setDuty s d).ovf = s.ovf := rfl
@[simp] theorem setDuty_alarms : (setDuty s d).alarms = s.alarms := rfl
@[simp] theorem setDuty_panel : (setDuty s d).panel = s.panel := rfl
@[simp] theorem setDuty_notices : (setDuty s d).notices = s.notices := rfl
@[simp] theorem setDuty_reporter : (setDuty s d).reporter = s.reporter := rfl
@[simp] theorem setDuty_pending : (setDuty s d).pending = s.pending := rfl
@[simp] theorem setDuty_free : (setDuty s d).free = s.free := rfl

end SetDuty

section SetStager

variable (g : Stager)

@[simp] theorem setStager_time : (setStager s g).time = s.time := rfl
@[simp] theorem setStager_inputs : (setStager s g).inputs = s.inputs := rfl
@[simp] theorem setStager_straps : (setStager s g).straps = s.straps := rfl
@[simp] theorem setStager_loader : (setStager s g).loader = s.loader := rfl
@[simp] theorem setStager_cfg : (setStager s g).cfg = s.cfg := rfl
@[simp] theorem setStager_causeCfg : (setStager s g).causeCfg = s.causeCfg := rfl
@[simp] theorem setStager_line : (setStager s g).line = s.line := rfl
@[simp] theorem setStager_gate : (setStager s g).gate = s.gate := rfl
@[simp] theorem setStager_chanA : (setStager s g).chanA = s.chanA := rfl
@[simp] theorem setStager_chanB : (setStager s g).chanB = s.chanB := rfl
@[simp] theorem setStager_stager : (setStager s g).stager = g := rfl
@[simp] theorem setStager_duty : (setStager s g).duty = s.duty := rfl
@[simp] theorem setStager_screen : (setStager s g).screen = s.screen := rfl
@[simp] theorem setStager_ovf : (setStager s g).ovf = s.ovf := rfl
@[simp] theorem setStager_alarms : (setStager s g).alarms = s.alarms := rfl
@[simp] theorem setStager_panel : (setStager s g).panel = s.panel := rfl
@[simp] theorem setStager_notices : (setStager s g).notices = s.notices := rfl
@[simp] theorem setStager_reporter : (setStager s g).reporter = s.reporter := rfl
@[simp] theorem setStager_pending : (setStager s g).pending = s.pending := rfl
@[simp] theorem setStager_free : (setStager s g).free = s.free := rfl

end SetStager

section SetScreen

variable (c : Screen)

@[simp] theorem setScreen_time : (setScreen s c).time = s.time := rfl
@[simp] theorem setScreen_inputs : (setScreen s c).inputs = s.inputs := rfl
@[simp] theorem setScreen_straps : (setScreen s c).straps = s.straps := rfl
@[simp] theorem setScreen_loader : (setScreen s c).loader = s.loader := rfl
@[simp] theorem setScreen_cfg : (setScreen s c).cfg = s.cfg := rfl
@[simp] theorem setScreen_causeCfg : (setScreen s c).causeCfg = s.causeCfg := rfl
@[simp] theorem setScreen_line : (setScreen s c).line = s.line := rfl
@[simp] theorem setScreen_gate : (setScreen s c).gate = s.gate := rfl
@[simp] theorem setScreen_chanA : (setScreen s c).chanA = s.chanA := rfl
@[simp] theorem setScreen_chanB : (setScreen s c).chanB = s.chanB := rfl
@[simp] theorem setScreen_stager : (setScreen s c).stager = s.stager := rfl
@[simp] theorem setScreen_duty : (setScreen s c).duty = s.duty := rfl
@[simp] theorem setScreen_screen : (setScreen s c).screen = c := rfl
@[simp] theorem setScreen_ovf : (setScreen s c).ovf = s.ovf := rfl
@[simp] theorem setScreen_alarms : (setScreen s c).alarms = s.alarms := rfl
@[simp] theorem setScreen_panel : (setScreen s c).panel = s.panel := rfl
@[simp] theorem setScreen_notices : (setScreen s c).notices = s.notices := rfl
@[simp] theorem setScreen_reporter : (setScreen s c).reporter = s.reporter := rfl
@[simp] theorem setScreen_pending : (setScreen s c).pending = s.pending := rfl
@[simp] theorem setScreen_free : (setScreen s c).free = s.free := rfl

end SetScreen

section SetOvf

variable (o : Overflow)

@[simp] theorem setOvf_time : (setOvf s o).time = s.time := rfl
@[simp] theorem setOvf_inputs : (setOvf s o).inputs = s.inputs := rfl
@[simp] theorem setOvf_straps : (setOvf s o).straps = s.straps := rfl
@[simp] theorem setOvf_loader : (setOvf s o).loader = s.loader := rfl
@[simp] theorem setOvf_cfg : (setOvf s o).cfg = s.cfg := rfl
@[simp] theorem setOvf_causeCfg : (setOvf s o).causeCfg = s.causeCfg := rfl
@[simp] theorem setOvf_line : (setOvf s o).line = s.line := rfl
@[simp] theorem setOvf_gate : (setOvf s o).gate = s.gate := rfl
@[simp] theorem setOvf_chanA : (setOvf s o).chanA = s.chanA := rfl
@[simp] theorem setOvf_chanB : (setOvf s o).chanB = s.chanB := rfl
@[simp] theorem setOvf_stager : (setOvf s o).stager = s.stager := rfl
@[simp] theorem setOvf_duty : (setOvf s o).duty = s.duty := rfl
@[simp] theorem setOvf_screen : (setOvf s o).screen = s.screen := rfl
@[simp] theorem setOvf_ovf : (setOvf s o).ovf = o := rfl
@[simp] theorem setOvf_alarms : (setOvf s o).alarms = s.alarms := rfl
@[simp] theorem setOvf_panel : (setOvf s o).panel = s.panel := rfl
@[simp] theorem setOvf_notices : (setOvf s o).notices = s.notices := rfl
@[simp] theorem setOvf_reporter : (setOvf s o).reporter = s.reporter := rfl
@[simp] theorem setOvf_pending : (setOvf s o).pending = s.pending := rfl
@[simp] theorem setOvf_free : (setOvf s o).free = s.free := rfl

end SetOvf

section SetLine

variable (l : Line)

@[simp] theorem setLine_time : (setLine s l).time = s.time := rfl
@[simp] theorem setLine_inputs : (setLine s l).inputs = s.inputs := rfl
@[simp] theorem setLine_straps : (setLine s l).straps = s.straps := rfl
@[simp] theorem setLine_loader : (setLine s l).loader = s.loader := rfl
@[simp] theorem setLine_cfg : (setLine s l).cfg = s.cfg := rfl
@[simp] theorem setLine_causeCfg : (setLine s l).causeCfg = s.causeCfg := rfl
@[simp] theorem setLine_line : (setLine s l).line = l := rfl
@[simp] theorem setLine_gate : (setLine s l).gate = s.gate := rfl
@[simp] theorem setLine_chanA : (setLine s l).chanA = s.chanA := rfl
@[simp] theorem setLine_chanB : (setLine s l).chanB = s.chanB := rfl
@[simp] theorem setLine_stager : (setLine s l).stager = s.stager := rfl
@[simp] theorem setLine_duty : (setLine s l).duty = s.duty := rfl
@[simp] theorem setLine_screen : (setLine s l).screen = s.screen := rfl
@[simp] theorem setLine_ovf : (setLine s l).ovf = s.ovf := rfl
@[simp] theorem setLine_alarms : (setLine s l).alarms = s.alarms := rfl
@[simp] theorem setLine_panel : (setLine s l).panel = s.panel := rfl
@[simp] theorem setLine_notices : (setLine s l).notices = s.notices := rfl
@[simp] theorem setLine_reporter : (setLine s l).reporter = s.reporter := rfl
@[simp] theorem setLine_pending : (setLine s l).pending = s.pending := rfl
@[simp] theorem setLine_free : (setLine s l).free = s.free := rfl

end SetLine

section SetReporter

variable (r : Reporter)

@[simp] theorem setReporter_time : (setReporter s r).time = s.time := rfl
@[simp] theorem setReporter_inputs : (setReporter s r).inputs = s.inputs := rfl
@[simp] theorem setReporter_straps : (setReporter s r).straps = s.straps := rfl
@[simp] theorem setReporter_loader : (setReporter s r).loader = s.loader := rfl
@[simp] theorem setReporter_cfg : (setReporter s r).cfg = s.cfg := rfl
@[simp] theorem setReporter_causeCfg : (setReporter s r).causeCfg = s.causeCfg := rfl
@[simp] theorem setReporter_line : (setReporter s r).line = s.line := rfl
@[simp] theorem setReporter_gate : (setReporter s r).gate = s.gate := rfl
@[simp] theorem setReporter_chanA : (setReporter s r).chanA = s.chanA := rfl
@[simp] theorem setReporter_chanB : (setReporter s r).chanB = s.chanB := rfl
@[simp] theorem setReporter_stager : (setReporter s r).stager = s.stager := rfl
@[simp] theorem setReporter_duty : (setReporter s r).duty = s.duty := rfl
@[simp] theorem setReporter_screen : (setReporter s r).screen = s.screen := rfl
@[simp] theorem setReporter_ovf : (setReporter s r).ovf = s.ovf := rfl
@[simp] theorem setReporter_alarms : (setReporter s r).alarms = s.alarms := rfl
@[simp] theorem setReporter_panel : (setReporter s r).panel = s.panel := rfl
@[simp] theorem setReporter_notices : (setReporter s r).notices = s.notices := rfl
@[simp] theorem setReporter_reporter : (setReporter s r).reporter = r := rfl
@[simp] theorem setReporter_pending : (setReporter s r).pending = s.pending := rfl
@[simp] theorem setReporter_free : (setReporter s r).free = s.free := rfl

end SetReporter

section SetQueue

variable (q : List NoticeEntry)

@[simp] theorem setQueue_time : (setQueue s q).time = s.time := rfl
@[simp] theorem setQueue_inputs : (setQueue s q).inputs = s.inputs := rfl
@[simp] theorem setQueue_straps : (setQueue s q).straps = s.straps := rfl
@[simp] theorem setQueue_loader : (setQueue s q).loader = s.loader := rfl
@[simp] theorem setQueue_cfg : (setQueue s q).cfg = s.cfg := rfl
@[simp] theorem setQueue_causeCfg : (setQueue s q).causeCfg = s.causeCfg := rfl
@[simp] theorem setQueue_line : (setQueue s q).line = s.line := rfl
@[simp] theorem setQueue_gate : (setQueue s q).gate = s.gate := rfl
@[simp] theorem setQueue_chanA : (setQueue s q).chanA = s.chanA := rfl
@[simp] theorem setQueue_chanB : (setQueue s q).chanB = s.chanB := rfl
@[simp] theorem setQueue_stager : (setQueue s q).stager = s.stager := rfl
@[simp] theorem setQueue_duty : (setQueue s q).duty = s.duty := rfl
@[simp] theorem setQueue_screen : (setQueue s q).screen = s.screen := rfl
@[simp] theorem setQueue_ovf : (setQueue s q).ovf = s.ovf := rfl
@[simp] theorem setQueue_alarms : (setQueue s q).alarms = s.alarms := rfl
@[simp] theorem setQueue_panel : (setQueue s q).panel = s.panel := rfl
@[simp] theorem setQueue_queue : (setQueue s q).notices.queue = q := rfl
@[simp] theorem setQueue_lost : (setQueue s q).notices.lost = s.notices.lost := rfl
@[simp] theorem setQueue_checkFail : (setQueue s q).notices.checkFail = s.notices.checkFail := rfl
@[simp] theorem setQueue_holdoff : (setQueue s q).notices.holdoff = s.notices.holdoff := rfl
@[simp] theorem setQueue_lastHolder : (setQueue s q).notices.lastHolder = s.notices.lastHolder := rfl
@[simp] theorem setQueue_command : (setQueue s q).notices.command = s.notices.command := rfl
@[simp] theorem setQueue_reporter : (setQueue s q).reporter = s.reporter := rfl
@[simp] theorem setQueue_pending : (setQueue s q).pending = s.pending := rfl
@[simp] theorem setQueue_free : (setQueue s q).free = s.free := rfl

end SetQueue

section SetRecord

variable (c : AlarmCode) (r : AlarmRecord)

@[simp] theorem setRecord_time : (setRecord s c r).time = s.time := rfl
@[simp] theorem setRecord_inputs : (setRecord s c r).inputs = s.inputs := rfl
@[simp] theorem setRecord_straps : (setRecord s c r).straps = s.straps := rfl
@[simp] theorem setRecord_loader : (setRecord s c r).loader = s.loader := rfl
@[simp] theorem setRecord_cfg : (setRecord s c r).cfg = s.cfg := rfl
@[simp] theorem setRecord_causeCfg : (setRecord s c r).causeCfg = s.causeCfg := rfl
@[simp] theorem setRecord_line : (setRecord s c r).line = s.line := rfl
@[simp] theorem setRecord_gate : (setRecord s c r).gate = s.gate := rfl
@[simp] theorem setRecord_chanA : (setRecord s c r).chanA = s.chanA := rfl
@[simp] theorem setRecord_chanB : (setRecord s c r).chanB = s.chanB := rfl
@[simp] theorem setRecord_stager : (setRecord s c r).stager = s.stager := rfl
@[simp] theorem setRecord_duty : (setRecord s c r).duty = s.duty := rfl
@[simp] theorem setRecord_screen : (setRecord s c r).screen = s.screen := rfl
@[simp] theorem setRecord_ovf : (setRecord s c r).ovf = s.ovf := rfl
@[simp] theorem setRecord_startFail : (setRecord s c r).alarms.startFail = s.alarms.startFail := rfl
@[simp] theorem setRecord_runLost : (setRecord s c r).alarms.runLost = s.alarms.runLost := rfl
@[simp] theorem setRecord_rakeJam : (setRecord s c r).alarms.rakeJam = s.alarms.rakeJam := rfl
@[simp] theorem setRecord_queueLoss : (setRecord s c r).alarms.queueLoss = s.alarms.queueLoss := rfl
@[simp] theorem setRecord_ackPress : (setRecord s c r).alarms.ackPress = s.alarms.ackPress := rfl
@[simp] theorem setRecord_ackTown : (setRecord s c r).alarms.ackTown = s.alarms.ackTown := rfl
@[simp] theorem setRecord_records :
    (setRecord s c r).alarms.records = s.alarms.records.set (codeNumber c - 1) r := rfl
@[simp] theorem setRecord_panel : (setRecord s c r).panel = s.panel := rfl
@[simp] theorem setRecord_notices : (setRecord s c r).notices = s.notices := rfl
@[simp] theorem setRecord_reporter : (setRecord s c r).reporter = s.reporter := rfl
@[simp] theorem setRecord_pending : (setRecord s c r).pending = s.pending := rfl
@[simp] theorem setRecord_free : (setRecord s c r).free = s.free := rfl

end SetRecord

end Sys2Proof.Machine
end

