-- ==== Sys2Proof/Laws/Closing.lean ====
section
/-! SUPPORT. What the closing work of an event can change, said once: handing a notice, settling the
alarms, the holds, the panel. Later proofs cite these and unfold none of it. -/

namespace Sys2Proof.Machine

open Sys2Proof

variable {s t u : State}

/-! ### Handing notices -/

/-- `s` with what handing notices may change taken from `t`. -/
def noticePart (s t : State) : State :=
  { s with
    notices := { s.notices with queue := t.notices.queue, lost := t.notices.lost }
    alarms := { s.alarms with queueLoss := t.alarms.queueLoss }
    reporter := { s.reporter with command := t.reporter.command, answers := t.reporter.answers } }

/-- Only the outgoing queue, the loss counter and its alarm, and the pending command with its answer
differ. -/
def OnlyNotices (s t : State) : Prop := t = noticePart s t

theorem OnlyNotices.refl (s : State) : OnlyNotices s s := rfl

theorem OnlyNotices.trans (h : OnlyNotices s t) (k : OnlyNotices t u) : OnlyNotices s u :=
  Eq.trans k ((congrArg (fun x => noticePart x u) (show t = noticePart s t from h)).trans rfl)

theorem setQueue_onlyNotices (s : State) (q : List NoticeEntry) : OnlyNotices s (setQueue s q) := rfl

theorem countLoss_onlyNotices (s : State) : OnlyNotices s (countLoss s) := rfl

theorem endCommand_onlyNotices (k : AnswerKind) (s : State) : OnlyNotices s (endCommand k s) := by
  unfold endCommand
  split
  · exact .refl s
  · rfl

theorem loseEntry_onlyNotices (e : NoticeEntry) (s : State) : OnlyNotices s (loseEntry e s) := by
  unfold loseEntry
  dsimp only
  split
  · exact (countLoss_onlyNotices s).trans (endCommand_onlyNotices _ _)
  · exact countLoss_onlyNotices s

theorem makeRoom_onlyNotices (s : State) : OnlyNotices s (makeRoom s) := by
  unfold makeRoom
  split
  · exact .refl s
  · split
    · exact .refl s
    · exact (setQueue_onlyNotices s _).trans (loseEntry_onlyNotices _ _)

/-- Handing a notice changes the queue and what a loss changes, nothing else (R133 to R136). -/
theorem handNotice_onlyNotices (s : State) (e : NoticeEntry) : OnlyNotices s (handNotice s e) := by
  unfold handNotice
  split
  · exact setQueue_onlyNotices s _
  · exact (makeRoom_onlyNotices s).trans (setQueue_onlyNotices _ _)

theorem OnlyNotices.foldl {α : Type} {f : State → α → State} (h : ∀ s x, OnlyNotices s (f s x)) :
    ∀ (l : List α) (s : State), OnlyNotices s (l.foldl f s)
  | [], s => .refl s
  | x :: l, s => (h s x).trans (OnlyNotices.foldl h l (f s x))

theorem handAll_onlyNotices (s : State) (es : List NoticeEntry) : OnlyNotices s (handAll s es) :=
  OnlyNotices.foldl handNotice_onlyNotices es s

/-! ### Settling the alarms -/

/-- `s` with what the Alarm Table's moves may change taken from `t`. -/
def alarmPart (s t : State) : State :=
  { noticePart s t with
    alarms := { s.alarms with queueLoss := t.alarms.queueLoss, records := t.alarms.records } }

/-- Only the alarm records and what handing notices changes differ. -/
def OnlyAlarms (s t : State) : Prop := t = alarmPart s t

theorem OnlyAlarms.refl (s : State) : OnlyAlarms s s := rfl

theorem OnlyAlarms.trans (h : OnlyAlarms s t) (k : OnlyAlarms t u) : OnlyAlarms s u :=
  Eq.trans k ((congrArg (fun x => alarmPart x u) (show t = alarmPart s t from h)).trans rfl)

theorem OnlyNotices.onlyAlarms (h : OnlyNotices s t) : OnlyAlarms s t := by
  unfold OnlyAlarms
  rw [h]
  rfl

theorem setRecord_onlyAlarms (s : State) (c : AlarmCode) (r : AlarmRecord) :
    OnlyAlarms s (setRecord s c r) := rfl

theorem takeRecord_onlyAlarms (s : State) (c : AlarmCode) (r : AlarmRecord) :
    OnlyAlarms s (takeRecord s c r) := by
  unfold takeRecord
  dsimp only
  split
  · exact setRecord_onlyAlarms s c r
  · exact (setRecord_onlyAlarms s c r).trans (handNotice_onlyNotices _ _).onlyAlarms

theorem settleCode_onlyAlarms (s : State) (c : AlarmCode) : OnlyAlarms s (settleCode s c) := by
  unfold settleCode
  dsimp only
  split
  · exact .refl s
  · split
    · exact takeRecord_onlyAlarms _ _ _
    · exact setRecord_onlyAlarms _ _ _

theorem OnlyAlarms.foldl {α : Type} {f : State → α → State} (h : ∀ s x, OnlyAlarms s (f s x)) :
    ∀ (l : List α) (s : State), OnlyAlarms s (l.foldl f s)
  | [], s => .refl s
  | x :: l, s => (h s x).trans (OnlyAlarms.foldl h l (f s x))

theorem acknowledgeCode_onlyAlarms (s : State) (c : AlarmCode) :
    OnlyAlarms s (acknowledgeCode s c) := takeRecord_onlyAlarms _ _ _

/-! ### The holds -/

/-- Only the Duty Controller differs. -/
def OnlyDuty (s t : State) : Prop := t = setDuty s t.duty

theorem OnlyDuty.trans (h : OnlyDuty s t) (k : OnlyDuty t u) : OnlyDuty s u :=
  Eq.trans k ((congrArg (fun x => setDuty x u.duty) (show t = setDuty s t.duty from h)).trans rfl)

theorem setDuty_onlyDuty (s : State) (d : Duty) : OnlyDuty s (setDuty s d) := rfl

theorem openContactor_onlyDuty (s : State) : OnlyDuty s (openContactor s) := by
  unfold openContactor
  split <;> rfl

theorem enterIdle_onlyDuty (s : State) : OnlyDuty s (enterIdle s) := rfl

theorem enterLockedOff_onlyDuty (s : State) : OnlyDuty s (enterLockedOff s) := by
  unfold enterLockedOff
  dsimp only
  split
  · exact (openContactor_onlyDuty s).trans (enterIdle_onlyDuty _)
  · exact (openContactor_onlyDuty s).trans (setDuty_onlyDuty _ _)

theorem closeInHand_onlyDuty (s : State) : OnlyDuty s (closeInHand s) := by
  unfold closeInHand
  split <;> rfl

/-- Applying the stop hold changes the Duty Controller alone (R62). -/
theorem applyHold_onlyDuty (s : State) : OnlyDuty s (applyHold s) := by
  unfold applyHold
  split
  · split
    · exact enterLockedOff_onlyDuty s
    · exact openContactor_onlyDuty s
  · exact closeInHand_onlyDuty s

/-- Only the Screen Controller differs. -/
def OnlyScreen (s t : State) : Prop := t = setScreen s t.screen

/-- Applying the rake stop changes the Screen Controller alone (R102). -/
theorem applyRakeStop_onlyScreen (s : State) : OnlyScreen s (applyRakeStop s) := by
  unfold applyRakeStop
  split
  · split <;> rfl
  · rfl

/-- Serving a rake request changes the Screen Controller alone (R97). -/
theorem serveRequest_onlyScreen (s : State) : OnlyScreen s (serveRequest s) := by
  unfold serveRequest
  split <;> rfl

/-! ### The closing work -/

/-- `s` with what the closing work of an event may change taken from `t`. -/
def closingPart (s t : State) : State :=
  { alarmPart s t with
    duty := t.duty, screen := t.screen
    panel := { s.panel with outputs := t.panel.outputs, pins := t.panel.pins } }

/-- The two controllers, the alarm records, the panel's outputs and what handing notices changes
differ, nothing else. -/
def OnlyClosing (s t : State) : Prop := t = closingPart s t

theorem OnlyClosing.trans (h : OnlyClosing s t) (k : OnlyClosing t u) : OnlyClosing s u :=
  Eq.trans k ((congrArg (fun x => closingPart x u) (show t = closingPart s t from h)).trans rfl)

theorem OnlyDuty.onlyClosing (h : OnlyDuty s t) : OnlyClosing s t := by
  unfold OnlyClosing
  rw [h]
  rfl

theorem OnlyScreen.onlyClosing (h : OnlyScreen s t) : OnlyClosing s t := by
  unfold OnlyClosing
  rw [h]
  rfl

theorem OnlyAlarms.onlyClosing (h : OnlyAlarms s t) : OnlyClosing s t := by
  unfold OnlyClosing
  rw [h]
  rfl

theorem settlePanel_onlyClosing (s : State) : OnlyClosing s (settlePanel s) := by
  unfold settlePanel
  split <;> rfl

/-- The holds change the Duty and the Screen Controller alone. -/
theorem serve_onlyClosing (s : State) : OnlyClosing s (serve s) :=
  (applyHold_onlyDuty s).onlyClosing.trans
    ((applyRakeStop_onlyScreen _).onlyClosing.trans (serveRequest_onlyScreen _).onlyClosing)

/-- Taking the changes of codes changes records, notices and the panel alone (R121, R123). -/
theorem takeCodes_onlyClosing (codes : List AlarmCode) (s : State) :
    OnlyClosing s (takeCodes codes s) :=
  (OnlyAlarms.foldl settleCode_onlyAlarms _ s).onlyClosing.trans (settlePanel_onlyClosing _)

theorem takeChanges_onlyClosing (take : AlarmCode → Bool) (s : State) :
    OnlyClosing s (takeChanges take s) :=
  (takeCodes_onlyClosing _ s).trans (takeCodes_onlyClosing _ _)

/-- Handing changes on changes records, notices and the panel alone. -/
theorem handOn_onlyClosing (s : State) : OnlyClosing s (handOn s) := takeChanges_onlyClosing _ s

/-- The closing work of an event, whole. -/
theorem settle_onlyClosing (s : State) : OnlyClosing s (settle s) :=
  (serve_onlyClosing s).trans (handOn_onlyClosing _)

/-- Leaving FAULTED changes the Duty Controller alone (R64). -/
theorem leaveFaulted_onlyDuty (s : State) : OnlyDuty s (leaveFaulted s) := by
  have off : ∀ t : State, OnlyDuty t (enterOutOfService t) := fun t =>
    (openContactor_onlyDuty t).trans (setDuty_onlyDuty _ _)
  have hand : ∀ t : State, OnlyDuty t (enterHand t) := by
    intro t
    unfold enterHand
    split
    · rfl
    · exact (setDuty_onlyDuty t _).trans (closeInHand_onlyDuty _)
  unfold leaveFaulted
  dsimp only
  split
  · exact (setDuty_onlyDuty s _).trans (off _)
  · exact (setDuty_onlyDuty s _).trans (hand _)
  · split
    · exact (setDuty_onlyDuty s _).trans (off _)
    · exact (setDuty_onlyDuty s _).trans (enterLockedOff_onlyDuty _)

/-- An acknowledgment (R122) reaches no further than the closing work does. -/
theorem releaseWaiting_onlyClosing (b s : State) : OnlyClosing s (releaseWaiting b s) := by
  have h : ∀ t : State, OnlyClosing t (unlockRake t) := fun _ => rfl
  unfold releaseWaiting
  dsimp only
  split <;> split
  · exact (leaveFaulted_onlyDuty s).onlyClosing.trans (h _)
  · exact h _
  · exact (leaveFaulted_onlyDuty s).onlyClosing
  · rfl

theorem acknowledge_onlyClosing (s : State) : OnlyClosing s (acknowledge s) := by
  unfold acknowledge
  split
  · exact ((OnlyAlarms.foldl acknowledgeCode_onlyAlarms _ s).onlyClosing.trans
      (settlePanel_onlyClosing _)).trans (releaseWaiting_onlyClosing _ _)
  · rfl

/-- The acknowledgment at a good frame end (R124), whatever changes come before it. -/
theorem acknowledgeFrame_onlyClosing (c : Cells) (s : State) :
    OnlyClosing s (acknowledgeFrame c s) := by
  unfold acknowledgeFrame
  split
  · exact (takeChanges_onlyClosing _ s).trans (acknowledge_onlyClosing _)
  · rfl

/-- What a good frame end leaves of the line is what the blocks before the acknowledgment left. -/
theorem frameEnd_line (c : Cells) (s : State) : (frameEnd c s).line
    = (houseFrame s.line.noticeWon c s.line.drive (plantFrame c s.line.drive
        (countLine c s.line.drive (emptyStale s (readFrame c s))))).line :=
  (congrArg (fun x => x.line) (acknowledgeFrame_onlyClosing c _)).trans rfl

theorem settle_closingPart (s : State) : settle s = closingPart s (settle s) := settle_onlyClosing s

section Kept

theorem OnlyClosing.time (h : OnlyClosing s t) : t.time = s.time :=
  (congrArg (fun x => x.time) h).trans rfl
theorem OnlyClosing.inputs (h : OnlyClosing s t) : t.inputs = s.inputs :=
  (congrArg (fun x => x.inputs) h).trans rfl
theorem OnlyClosing.straps (h : OnlyClosing s t) : t.straps = s.straps :=
  (congrArg (fun x => x.straps) h).trans rfl
theorem OnlyClosing.loader (h : OnlyClosing s t) : t.loader = s.loader :=
  (congrArg (fun x => x.loader) h).trans rfl
theorem OnlyClosing.cfg (h : OnlyClosing s t) : t.cfg = s.cfg :=
  (congrArg (fun x => x.cfg) h).trans rfl
theorem OnlyClosing.causeCfg (h : OnlyClosing s t) : t.causeCfg = s.causeCfg :=
  (congrArg (fun x => x.causeCfg) h).trans rfl
theorem OnlyClosing.line (h : OnlyClosing s t) : t.line = s.line :=
  (congrArg (fun x => x.line) h).trans rfl
theorem OnlyClosing.gate (h : OnlyClosing s t) : t.gate = s.gate :=
  (congrArg (fun x => x.gate) h).trans rfl
theorem OnlyClosing.chanA (h : OnlyClosing s t) : t.chanA = s.chanA :=
  (congrArg (fun x => x.chanA) h).trans rfl
theorem OnlyClosing.chanB (h : OnlyClosing s t) : t.chanB = s.chanB :=
  (congrArg (fun x => x.chanB) h).trans rfl
theorem OnlyClosing.stager (h : OnlyClosing s t) : t.stager = s.stager :=
  (congrArg (fun x => x.stager) h).trans rfl
theorem OnlyClosing.ovf (h : OnlyClosing s t) : t.ovf = s.ovf :=
  (congrArg (fun x => x.ovf) h).trans rfl
theorem OnlyClosing.pending (h : OnlyClosing s t) : t.pending = s.pending :=
  (congrArg (fun x => x.pending) h).trans rfl
theorem OnlyClosing.free (h : OnlyClosing s t) : t.free = s.free :=
  (congrArg (fun x => x.free) h).trans rfl
theorem OnlyClosing.phase (h : OnlyClosing s t) : t.panel.phase = s.panel.phase :=
  (congrArg (fun x => x.panel.phase) h).trans rfl
theorem OnlyClosing.ackPress (h : OnlyClosing s t) : t.alarms.ackPress = s.alarms.ackPress :=
  (congrArg (fun x => x.alarms.ackPress) h).trans rfl
theorem OnlyClosing.ackTown (h : OnlyClosing s t) : t.alarms.ackTown = s.alarms.ackTown :=
  (congrArg (fun x => x.alarms.ackTown) h).trans rfl
theorem OnlyClosing.startFail (h : OnlyClosing s t) : t.alarms.startFail = s.alarms.startFail :=
  (congrArg (fun x => x.alarms.startFail) h).trans rfl
theorem OnlyClosing.runLost (h : OnlyClosing s t) : t.alarms.runLost = s.alarms.runLost :=
  (congrArg (fun x => x.alarms.runLost) h).trans rfl
theorem OnlyClosing.rakeJam (h : OnlyClosing s t) : t.alarms.rakeJam = s.alarms.rakeJam :=
  (congrArg (fun x => x.alarms.rakeJam) h).trans rfl
theorem OnlyClosing.checkFail (h : OnlyClosing s t) : t.notices.checkFail = s.notices.checkFail :=
  (congrArg (fun x => x.notices.checkFail) h).trans rfl
theorem OnlyClosing.holdoff (h : OnlyClosing s t) : t.notices.holdoff = s.notices.holdoff :=
  (congrArg (fun x => x.notices.holdoff) h).trans rfl
theorem OnlyClosing.lastHolder (h : OnlyClosing s t) : t.notices.lastHolder = s.notices.lastHolder :=
  (congrArg (fun x => x.notices.lastHolder) h).trans rfl
theorem OnlyClosing.received (h : OnlyClosing s t) : t.notices.command = s.notices.command :=
  (congrArg (fun x => x.notices.command) h).trans rfl
/-- Of the Telemetry Reporter the closing work changes the pending command and its answer alone. -/
theorem OnlyClosing.reporter (h : OnlyClosing s t) : t.reporter = { s.reporter with
    command := t.reporter.command, answers := t.reporter.answers } :=
  (congrArg (fun x => x.reporter) h).trans rfl

variable (s : State)

@[simp] theorem settle_time : (settle s).time = s.time :=
  (settle_onlyClosing s).time
@[simp] theorem settle_inputs : (settle s).inputs = s.inputs :=
  (settle_onlyClosing s).inputs
@[simp] theorem settle_straps : (settle s).straps = s.straps :=
  (settle_onlyClosing s).straps
@[simp] theorem settle_loader : (settle s).loader = s.loader :=
  (settle_onlyClosing s).loader
@[simp] theorem settle_cfg : (settle s).cfg = s.cfg :=
  (settle_onlyClosing s).cfg
@[simp] theorem settle_causeCfg : (settle s).causeCfg = s.causeCfg :=
  (settle_onlyClosing s).causeCfg
@[simp] theorem settle_line : (settle s).line = s.line :=
  (settle_onlyClosing s).line
@[simp] theorem settle_gate : (settle s).gate = s.gate :=
  (settle_onlyClosing s).gate
@[simp] theorem settle_chanA : (settle s).chanA = s.chanA :=
  (settle_onlyClosing s).chanA
@[simp] theorem settle_chanB : (settle s).chanB = s.chanB :=
  (settle_onlyClosing s).chanB
@[simp] theorem settle_stager : (settle s).stager = s.stager :=
  (settle_onlyClosing s).stager
@[simp] theorem settle_ovf : (settle s).ovf = s.ovf :=
  (settle_onlyClosing s).ovf
@[simp] theorem settle_pending : (settle s).pending = s.pending :=
  (settle_onlyClosing s).pending
@[simp] theorem settle_free : (settle s).free = s.free :=
  (settle_onlyClosing s).free
@[simp] theorem settle_phase : (settle s).panel.phase = s.panel.phase :=
  (settle_onlyClosing s).phase
@[simp] theorem settle_ackPress : (settle s).alarms.ackPress = s.alarms.ackPress :=
  (settle_onlyClosing s).ackPress
@[simp] theorem settle_ackTown : (settle s).alarms.ackTown = s.alarms.ackTown :=
  (settle_onlyClosing s).ackTown
@[simp] theorem settle_startFail : (settle s).alarms.startFail = s.alarms.startFail :=
  (settle_onlyClosing s).startFail
@[simp] theorem settle_runLost : (settle s).alarms.runLost = s.alarms.runLost :=
  (settle_onlyClosing s).runLost
@[simp] theorem settle_rakeJam : (settle s).alarms.rakeJam = s.alarms.rakeJam :=
  (settle_onlyClosing s).rakeJam
@[simp] theorem settle_checkFail : (settle s).notices.checkFail = s.notices.checkFail :=
  (settle_onlyClosing s).checkFail
@[simp] theorem settle_holdoff : (settle s).notices.holdoff = s.notices.holdoff :=
  (settle_onlyClosing s).holdoff
@[simp] theorem settle_lastHolder : (settle s).notices.lastHolder = s.notices.lastHolder :=
  (settle_onlyClosing s).lastHolder
@[simp] theorem settle_received : (settle s).notices.command = s.notices.command :=
  (settle_onlyClosing s).received
theorem settle_reporter : (settle s).reporter = { s.reporter with
    command := (settle s).reporter.command, answers := (settle s).reporter.answers } :=
  (settle_onlyClosing s).reporter

end Kept

theorem settlePanel_duty (s : State) : (settlePanel s).duty = s.duty := by
  unfold settlePanel
  split <;> rfl

theorem settlePanel_screen (s : State) : (settlePanel s).screen = s.screen := by
  unfold settlePanel
  split <;> rfl

theorem OnlyAlarms.duty (h : OnlyAlarms s t) : t.duty = s.duty :=
  (congrArg (fun x => x.duty) h).trans rfl

theorem OnlyAlarms.screen (h : OnlyAlarms s t) : t.screen = s.screen :=
  (congrArg (fun x => x.screen) h).trans rfl

theorem OnlyScreen.duty (h : OnlyScreen s t) : t.duty = s.duty :=
  (congrArg (fun x => x.duty) h).trans rfl

theorem takeCodes_duty (codes : List AlarmCode) (s : State) : (takeCodes codes s).duty = s.duty :=
  (settlePanel_duty _).trans (OnlyAlarms.foldl settleCode_onlyAlarms codes s).duty

theorem takeCodes_screen (codes : List AlarmCode) (s : State) :
    (takeCodes codes s).screen = s.screen :=
  (settlePanel_screen _).trans (OnlyAlarms.foldl settleCode_onlyAlarms codes s).screen

/-- The closing work's Duty Controller is the stop hold's. -/
theorem settle_duty (s : State) : (settle s).duty = (applyHold s).duty :=
  (takeCodes_duty _ _).trans ((takeCodes_duty _ _).trans
    ((serveRequest_onlyScreen _).duty.trans (applyRakeStop_onlyScreen _).duty))

/-- The closing work's Screen Controller is the rake stop's and the request's. -/
theorem settle_screen (s : State) : (settle s).screen = (serve s).screen :=
  (takeCodes_screen _ _).trans (takeCodes_screen _ _)

/-! ### The outcome of an event -/

theorem taken_of_can {can : Bool} (f : State → State) (s : State) (h : can = true) :
    taken can f s = .next (settle (f s)) := by
  simp only [taken, h, if_true]

theorem taken_of_cannot {can : Bool} (f : State → State) (s : State) (h : can = false) :
    taken can f s = .next s := by
  simp [taken, h]

/-- An event leads to a next state: the state as it was, or its effect with the closing work. -/
theorem taken_cases {can : Bool} {f : State → State} {s t : State} (h : taken can f s = .next t) :
    (can = false ∧ t = s) ∨ (can = true ∧ t = settle (f s)) := by
  cases can
  · exact .inl ⟨rfl, by simpa [taken] using h.symm⟩
  · exact .inr ⟨rfl, by simpa [taken] using h.symm⟩

end Sys2Proof.Machine
end

