-- ==== Sys2Proof/Laws/Follows.lean ====
section
/-! SUPPORT. The closing work of an event on a state whose holds are taken: it is what `Follows` says
and nothing else. A later proof cites `settle_follows` and unfolds none of the closing work. -/

namespace Sys2Proof.Machine

open Sys2Proof

variable {s t : State}

/-! ### The holds of a safe state -/

theorem openContactor_of_open (h : s.duty.contactor = false) : openContactor s = s := by
  simp [openContactor, h]

theorem closeInHand_of_safe (h : PumpSafe s) : closeInHand s = s := by
  unfold closeInHand
  split
  · rename_i g
    simp only [Bool.and_eq_true, beq_iff_eq, Bool.not_eq_true'] at g
    exact absurd (h.2.2.1 g.1.1.1 g.2 g.1.2) (by simp [g.1.1.2])
  · rfl

/-- The stop hold has nothing to do on a safe pump (R62). -/
theorem applyHold_of_safe (h : PumpSafe s) : applyHold s = s := by
  unfold applyHold
  split
  · rename_i g
    have c : s.duty.contactor = false := by
      cases e : s.duty.contactor with
      | false => rfl
      | true => exact absurd (h.1 e).2.1 (by simp [g])
    have p : ¬(s.duty.pump = .starting ∨ s.duty.pump = .running) := fun q =>
      absurd (h.2.1 q) (by simp [c])
    simp only [not_or] at p
    simp [p.1, p.2, openContactor_of_open c]
  · exact closeInHand_of_safe h

/-- The rake stop has nothing to do on a safe rake (R102). -/
theorem applyRakeStop_of_safe (h : RakeSafe s) : applyRakeStop s = s := by
  unfold applyRakeStop
  split
  · rename_i g
    rcases h.2.2.2.2.1 g with e | e <;> simp [e]
  · rfl

/-- No request that could be served stands on a safe rake (R97). -/
theorem serveRequest_of_safe (h : RakeSafe s) : serveRequest s = s := by
  unfold serveRequest
  split
  · rename_i g
    simp only [Bool.and_eq_true, beq_iff_eq, Bool.not_eq_true'] at g
    exact absurd (h.2.2.2.2.2.2.1 g.1.1.1 g.1.1.2 g.2) (by simp [g.1.2])
  · rfl

theorem serve_of_safe (p : PumpSafe s) (r : RakeSafe s) : serve s = s := by
  unfold serve
  rw [applyHold_of_safe p, applyRakeStop_of_safe r, serveRequest_of_safe r]

/-! ### Settling the alarms -/

theorem rawCondition_alarmPart (s t : State) {c : AlarmCode} (h : c ≠ .queueLoss) :
    rawCondition (alarmPart s t) c = rawCondition s c := by
  cases c <;> first | rfl | exact absurd rfl h

theorem OnlyAlarms.raw (k : OnlyAlarms s t) {c : AlarmCode} (h : c ≠ .queueLoss) :
    rawCondition t c = rawCondition s c :=
  (congrArg (fun x => Machine.rawCondition x c) k).trans (rawCondition_alarmPart s t h)

theorem OnlyNotices.records (h : OnlyNotices s t) : t.alarms.records = s.alarms.records :=
  (congrArg (fun x => x.alarms.records) h).trans rfl

theorem OnlyNotices.recordOf (h : OnlyNotices s t) (c : AlarmCode) : recordOf t c = recordOf s c := by
  unfold Machine.recordOf
  rw [h.records]

theorem codeNumber_pos (c : AlarmCode) : 1 ≤ codeNumber c ∧ codeNumber c ≤ 23 := by
  cases c <;> decide

theorem codeNumber_injective {c d : AlarmCode} (h : codeNumber c = codeNumber d) : c = d := by
  revert h
  cases c <;> cases d <;> decide

theorem recordOf_setRecord_other (s : State) {c d : AlarmCode} (r : AlarmRecord) (h : d ≠ c) :
    recordOf (setRecord s d r) c = recordOf s c := by
  have n : codeNumber d - 1 ≠ codeNumber c - 1 := fun e =>
    h (codeNumber_injective (by have := codeNumber_pos c; have := codeNumber_pos d; omega))
  simp [recordOf, setRecord, List.getD_eq_getElem?_getD, List.getElem?_set_ne n]

theorem recordOf_takeRecord_other (s : State) {c d : AlarmCode} (r : AlarmRecord) (h : d ≠ c) :
    recordOf (takeRecord s d r) c = recordOf s c := by
  unfold takeRecord
  dsimp only
  split
  · exact recordOf_setRecord_other s r h
  · rw [(handNotice_onlyNotices _ _).recordOf, recordOf_setRecord_other s r h]

theorem recordOf_settleCode_other (s : State) {c d : AlarmCode} (h : d ≠ c) :
    recordOf (settleCode s d) c = recordOf s c := by
  unfold settleCode
  dsimp only
  split
  · rfl
  · split
    · exact recordOf_takeRecord_other s _ h
    · exact recordOf_setRecord_other s _ h

theorem recordOf_foldl_other {c : AlarmCode} : ∀ (l : List AlarmCode) (s : State), c ∉ l →
    recordOf (l.foldl settleCode s) c = recordOf s c
  | [], _, _ => rfl
  | d :: l, s, h => by
    rw [List.foldl_cons, recordOf_foldl_other l _ fun m => h (List.mem_cons_of_mem _ m),
      recordOf_settleCode_other s fun (e : d = c) => h (e ▸ List.mem_cons_self)]

theorem settleCode_of_agrees {c : AlarmCode} (h : rawCondition s c = (recordOf s c).raw) :
    settleCode s c = s := by
  simp [settleCode, h]

/-- A code whose raw condition is the one on record keeps its record, whatever other codes do. -/
theorem recordOf_foldl_settleCode {c : AlarmCode} (h : c ≠ .queueLoss) :
    ∀ (l : List AlarmCode) (s : State), rawCondition s c = (recordOf s c).raw →
      recordOf (l.foldl settleCode s) c = recordOf s c
  | [], _, _ => rfl
  | d :: l, s, a => by
    have k : recordOf (settleCode s d) c = recordOf s c := by
      by_cases e : d = c
      · subst e
        rw [settleCode_of_agrees a]
      · exact recordOf_settleCode_other s e
    have b : rawCondition (settleCode s d) c = (recordOf (settleCode s d) c).raw := by
      rw [(settleCode_onlyAlarms s d).raw h, k, a]
    rw [List.foldl_cons, recordOf_foldl_settleCode h l _ b, k]

theorem foldl_settleCode_of_agree (a : ∀ c, rawCondition s c = (recordOf s c).raw) :
    ∀ l : List AlarmCode, l.foldl settleCode s = s
  | [] => rfl
  | d :: l => by rw [List.foldl_cons, settleCode_of_agrees (a d), foldl_settleCode_of_agree a l]

/-! ### What the settling hands -/

/-- `s` with other alarm records and another panel. -/
def beside (rs : List AlarmRecord) (p : Panel) (s : State) : State :=
  { s with alarms := { s.alarms with records := rs }, panel := p }

theorem beside_beside (rs rs' : List AlarmRecord) (p p' : Panel) (s : State) :
    beside rs p (beside rs' p' s) = beside rs p s := rfl

theorem setRecord_eq (s : State) (c : AlarmCode) (r : AlarmRecord) :
    setRecord s c r = beside (s.alarms.records.set (codeNumber c - 1) r) s.panel s := rfl

theorem endCommand_beside (k : AnswerKind) (rs : List AlarmRecord) (p : Panel) (s : State) :
    endCommand k (beside rs p s) = beside rs p (endCommand k s) := by
  unfold endCommand
  show (match s.reporter.command with | none => _ | some c => _) = _
  cases s.reporter.command <;> rfl

theorem makeRoom_beside (rs : List AlarmRecord) (p : Panel) (s : State) :
    makeRoom (beside rs p s) = beside rs p (makeRoom s) := by
  unfold makeRoom
  show (if s.notices.queue.length < 16 then _ else
    match discarded s.notices.queue with | none => _ | some v => _) = _
  split
  · rfl
  · cases discarded s.notices.queue with
    | none => rfl
    | some v =>
      show loseEntry v (beside rs p (setQueue s (afterDiscard s.notices.queue))) =
        beside rs p (loseEntry v (setQueue s (afterDiscard s.notices.queue)))
      unfold loseEntry
      dsimp only
      split
      · exact endCommand_beside _ rs p (countLoss (setQueue s (afterDiscard s.notices.queue)))
      · rfl

/-- Handing a notice reads no alarm record and nothing of the panel. -/
theorem handNotice_beside (rs : List AlarmRecord) (p : Panel) (s : State) (e : NoticeEntry) :
    handNotice (beside rs p s) e = beside rs p (handNotice s e) := by
  unfold handNotice
  show (if mergeable s.notices.queue e then _ else _) = _
  split
  · rfl
  · dsimp only
    rw [makeRoom_beside]
    rfl

theorem handAll_beside (rs : List AlarmRecord) (p : Panel) :
    ∀ (es : List NoticeEntry) (s : State), handAll (beside rs p s) es = beside rs p (handAll s es)
  | [], _ => rfl
  | e :: es, s => by
    show handAll (handNotice (beside rs p s) e) es = beside rs p (handAll (handNotice s e) es)
    rw [handNotice_beside, handAll_beside rs p es]

theorem OnlyNotices.panel (h : OnlyNotices s t) : t.panel = s.panel :=
  (congrArg (fun x => x.panel) h).trans rfl

/-- A record set and notices handed: either first. -/
theorem handAll_setRecord (s : State) (c : AlarmCode) (r : AlarmRecord) (es : List NoticeEntry) :
    handAll (setRecord s c r) es = setRecord (handAll s es) c r := by
  rw [setRecord_eq, setRecord_eq, handAll_beside, (handAll_onlyNotices s es).records,
    (handAll_onlyNotices s es).panel]

theorem setRecord_same (s : State) (c : AlarmCode) : setRecord s c (recordOf s c) = s := by
  have h : s.alarms.records.set (codeNumber c - 1) (recordOf s c) = s.alarms.records := by
    refine List.ext_getElem? fun i => ?_
    rw [List.getElem?_set]
    split
    · rename_i e
      subst e
      split
      · rename_i b
        simp [recordOf, List.getD_eq_getElem?_getD, List.getElem?_eq_getElem b]
      · rename_i b
        exact (List.getElem?_eq_none (Nat.le_of_not_lt b)).symm
    · rfl
  rw [setRecord_eq, h]
  rfl

theorem handAll_append (s : State) (xs ys : List NoticeEntry) :
    handAll s (xs ++ ys) = handAll (handAll s xs) ys := List.foldl_append ..

/-- A code settled: its record set, and the notice that goes with its move. -/
theorem settleCode_handed (s : State) (c : AlarmCode) : settleCode s c
    = setRecord (handAll s (entryAfter s (rawCondition s c) c).toList) c
        (recordAfter s (rawCondition s c) c) := by
  by_cases h : rawCondition s c = (recordOf s c).raw
  · simp [settleCode, entryAfter, recordAfter, h, handAll, setRecord_same]
  · by_cases l : loaded s = true
    · by_cases q : (recordRaw (latching c) (minuteCount s) (rawCondition s c) (recordOf s c)).state
          = (recordOf s c).state
      · simp only [settleCode, entryAfter, recordAfter, h, l, if_false, if_true, takeRecord, q]
        rfl
      · simp only [settleCode, entryAfter, recordAfter, h, l, if_false, if_true, takeRecord, q]
        exact handAll_setRecord s c _ [_]
    · simp only [settleCode, entryAfter, recordAfter, h, l, if_false, Bool.false_eq_true]
      simp only [if_true, Option.toList_none, handAll, List.foldl_nil]

theorem OnlyClosing.loaded (h : OnlyClosing s t) : loaded t = loaded s :=
  (congrArg (fun x => Machine.loaded x) h).trans rfl

/-- What a record becomes, and its notice, rest on the record alone among what the closing work moves. -/
theorem recordAfter_of_same (k : OnlyClosing s t) {c : AlarmCode} (h : recordOf t c = recordOf s c)
    (raw : Bool) : recordAfter t raw c = recordAfter s raw c := by
  have m : minuteCount t = minuteCount s := (congrArg (fun x => minuteCount x) k).trans rfl
  simp only [recordAfter, h, k.loaded, m]

theorem entryAfter_of_same (k : OnlyClosing s t) {c : AlarmCode} (h : recordOf t c = recordOf s c)
    (raw : Bool) : entryAfter t raw c = entryAfter s raw c := by
  have m : ownAddress t = ownAddress s := (congrArg (fun x => ownAddress x) k).trans rfl
  simp only [entryAfter, h, recordAfter_of_same k h, alarmEntry, m]

/-- Codes settled one after another, each once and none QUEUE_LOSS: their notices are handed in their
order, and each record takes its own condition's move. -/
theorem foldl_settleCode_handed {s : State} : ∀ (l : List AlarmCode) (u : State), OnlyAlarms s u →
    l.Nodup → .queueLoss ∉ l → (∀ c ∈ l, recordOf u c = recordOf s c) →
    l.foldl settleCode u = l.foldl (fun t c => setRecord t c (recordAfter s (rawCondition s c) c))
      (handAll u (l.filterMap fun c => entryAfter s (rawCondition s c) c))
  | [], _, _, _, _, _ => rfl
  | c :: l, u, k, n, q, h => by
    have k' := k.trans (settleCode_onlyAlarms u c)
    have hc : c ≠ .queueLoss := fun e => q (e ▸ List.mem_cons_self)
    have hu := h c List.mem_cons_self
    have e := settleCode_handed u c
    have e' := foldl_settleCode_handed (s := s) l (settleCode u c) k'
      (List.nodup_cons.1 n).2 (fun m => q (List.mem_cons_of_mem _ m)) (fun d m => by
        rw [recordOf_settleCode_other u fun (x : c = d) => (List.nodup_cons.1 n).1 (x ▸ m)]
        exact h d (List.mem_cons_of_mem _ m))
    rw [List.foldl_cons, e', e, handAll_setRecord, k.raw hc, entryAfter_of_same k.onlyClosing hu,
      recordAfter_of_same k.onlyClosing hu, List.foldl_cons]
    cases x : entryAfter s (rawCondition s c) c <;> simp [x, handAll]

theorem mem_otherCodes (s : State) (c : AlarmCode) : c ∈ otherCodes s ↔ c ≠ .queueLoss := by
  have m : c ∈ allCodes := by cases c <;> decide
  cases h : rawCondition s c <;> simp [otherCodes, m, h]

theorem otherCodes_nodup (s : State) : (otherCodes s).Nodup := by
  have n : allCodes.Nodup := by decide
  refine List.nodup_append.2 ⟨n.filter _, n.filter _, fun a ha b hb e => ?_⟩
  subst e
  simp only [List.mem_filter, Bool.and_eq_true, Bool.not_eq_true'] at ha hb
  rw [ha.2.2] at hb
  exact absurd hb.2.2 (by decide)

/-- What the other codes hand is what `entriesAfter` says. -/
theorem entries_otherCodes (s : State) :
    (otherCodes s).filterMap (fun c => entryAfter s (rawCondition s c) c) = entriesAfter s := by
  unfold otherCodes entriesAfter
  rw [List.filterMap_append]
  congr 1
  all_goals
    refine List.filterMap_congr fun c m => ?_
    simp only [List.mem_filter, Bool.and_eq_true, Bool.not_eq_true'] at m
    rw [m.2.2]

/-- The codes but QUEUE_LOSS settled: what `othersMoved` says. -/
theorem foldl_otherCodes (s : State) : (otherCodes s).foldl settleCode s = othersMoved s := by
  rw [foldl_settleCode_handed (s := s) (otherCodes s) s (.refl s) (otherCodes_nodup s)
    (fun m => (mem_otherCodes s _).1 m rfl) (fun _ _ => rfl), entries_otherCodes]
  rfl

theorem othersMoved_onlyAlarms (s : State) : OnlyAlarms s (othersMoved s) := by
  rw [← foldl_otherCodes]
  exact OnlyAlarms.foldl settleCode_onlyAlarms _ s

theorem foldl_setRecord_beside (f : AlarmCode → AlarmRecord) : ∀ (l : List AlarmCode) (u : State),
    ∃ rs, l.foldl (fun t c => setRecord t c (f c)) u = beside rs u.panel u
  | [], u => ⟨u.alarms.records, rfl⟩
  | c :: l, u => by
    obtain ⟨rs, e⟩ := foldl_setRecord_beside f l (setRecord u c (f c))
    exact ⟨rs, e.trans rfl⟩

theorem othersMoved_beside (s : State) :
    ∃ rs, othersMoved s = beside rs s.panel (handAll s (entriesAfter s)) := by
  obtain ⟨rs, e⟩ := foldl_setRecord_beside (fun c => recordAfter s (rawCondition s c) c) (otherCodes s)
    (handAll s (entriesAfter s))
  exact ⟨rs, e.trans (by rw [(handAll_onlyNotices s _).panel])⟩

theorem recordOf_setRecord_same (n : s.alarms.records.length = 23) (c : AlarmCode) (r : AlarmRecord) :
    recordOf (setRecord s c r) c = r := by
  have b := codeNumber_pos c
  have l : codeNumber c - 1 < s.alarms.records.length := by omega
  simp [recordOf, setRecord, List.getD_eq_getElem?_getD, List.getElem?_set_self l]

theorem setRecord_length (s : State) (c : AlarmCode) (r : AlarmRecord) :
    (setRecord s c r).alarms.records.length = s.alarms.records.length := by simp [setRecord]

theorem settleCode_length (s : State) (c : AlarmCode) :
    (settleCode s c).alarms.records.length = s.alarms.records.length := by
  unfold settleCode takeRecord
  dsimp only
  split
  · rfl
  · split
    · split
      · exact setRecord_length ..
      · rw [(handNotice_onlyNotices _ _).records]
        exact setRecord_length ..
    · exact setRecord_length ..

theorem foldl_settleCode_length : ∀ (l : List AlarmCode) (s : State),
    (l.foldl settleCode s).alarms.records.length = s.alarms.records.length
  | [], _ => rfl
  | c :: l, s => (foldl_settleCode_length l (settleCode s c)).trans (settleCode_length s c)

theorem recordOf_settleCode_same (n : s.alarms.records.length = 23) (c : AlarmCode) :
    recordOf (settleCode s c) c = recordAfter s (rawCondition s c) c := by
  unfold settleCode takeRecord recordAfter
  dsimp only
  split
  · rfl
  · split
    · split
      · exact recordOf_setRecord_same n c _
      · rw [(handNotice_onlyNotices _ _).recordOf]
        exact recordOf_setRecord_same n c _
    · exact recordOf_setRecord_same n c _

theorem recordOf_foldl_same : ∀ (l : List AlarmCode) (u : State), OnlyAlarms s u →
    u.alarms.records.length = 23 → l.Nodup → .queueLoss ∉ l →
    (∀ c ∈ l, recordOf u c = recordOf s c) →
    ∀ c ∈ l, recordOf (l.foldl settleCode u) c = recordAfter s (rawCondition s c) c
  | [], _, _, _, _, _, _, _, m => absurd m List.not_mem_nil
  | d :: l, u, k, len, n, q, h, c, m => by
    have nd := List.nodup_cons.1 n
    rw [List.foldl_cons]
    rcases List.mem_cons.1 m with e | e
    · subst e
      have hc : c ≠ .queueLoss := fun e => q (e ▸ List.mem_cons_self)
      rw [recordOf_foldl_other l _ nd.1, recordOf_settleCode_same len, k.raw hc,
        recordAfter_of_same k.onlyClosing (h c m)]
    · refine recordOf_foldl_same l (settleCode u d) (k.trans (settleCode_onlyAlarms u d))
        ((settleCode_length u d).trans len) nd.2 (fun x => q (List.mem_cons_of_mem _ x))
        (fun x hx => ?_) c e
      rw [recordOf_settleCode_other u fun (y : d = x) => nd.1 (y ▸ hx)]
      exact h x (List.mem_cons_of_mem _ hx)

/-- Handing keeps a raised QUEUE_LOSS raised. -/
theorem handNotice_queueLoss {e : NoticeEntry} (h : s.alarms.queueLoss.isSome = true) :
    (handNotice s e).alarms.queueLoss.isSome = true := by
  have end_ : ∀ k (u : State), (endCommand k u).alarms = u.alarms := fun k u => by
    unfold endCommand
    split <;> rfl
  unfold handNotice
  split
  · exact h
  · show (makeRoom s).alarms.queueLoss.isSome = true
    unfold makeRoom
    split
    · exact h
    · split
      · exact h
      · unfold loseEntry
        dsimp only
        split
        · rw [end_]
          rfl
        · rfl

/-- QUEUE_LOSS, settled last, moves by the condition that it still has then. -/
theorem rawCondition_settleCode_queueLoss (s : State) :
    rawCondition (settleCode s .queueLoss) .queueLoss = rawCondition s .queueLoss := by
  by_cases h : s.alarms.queueLoss.isSome = true
  · rw [show rawCondition s .queueLoss = true from h]
    show (settleCode s .queueLoss).alarms.queueLoss.isSome = true
    unfold settleCode takeRecord
    dsimp only
    split
    · exact h
    · split
      · split
        · exact h
        · exact handNotice_queueLoss h
      · exact h
  · have f : rawCondition s .queueLoss = false := by simpa [rawCondition] using h
    rw [f]
    show (settleCode s .queueLoss).alarms.queueLoss.isSome = false
    unfold settleCode takeRecord
    dsimp only
    split
    · exact f
    · split
      · split
        · exact f
        · rename_i g
          exact absurd (by simp [f, recordRaw, latching]) g
      · exact f

theorem handedAfter_onlyNotices (s : State) : OnlyNotices s (handedAfter s) :=
  (handAll_onlyNotices s _).trans (handAll_onlyNotices _ _)

/-! ### The panel -/

theorem sourceOn_settlePanel (s : State) (n : Nat) : sourceOn (settlePanel s) n = sourceOn s n := by
  unfold settlePanel
  split <;> rfl

theorem outputs_settlePanel (s : State) : (settlePanel s).panel.outputs =
    if loaded s then s.panel.outputs.map fun o => followSource (sourceOn s o.entry.source) o
    else s.panel.outputs := by
  unfold settlePanel
  split <;> rfl

/-- The panel's following changes the outputs and the pins alone. -/
theorem settlePanel_eq (s : State) : settlePanel s = { s with panel := { s.panel with
    outputs := (settlePanel s).panel.outputs, pins := (settlePanel s).panel.pins } } := by
  unfold settlePanel
  split <;> rfl

theorem settlePanel_beside (s : State) :
    settlePanel s = beside s.alarms.records (settlePanel s).panel s := by
  unfold settlePanel
  split <;> rfl

theorem pins_settlePanel (s : State) : (settlePanel s).panel.pins =
    if loaded s then pinsOf (settlePanel s) (settlePanel s).panel.outputs else 0 := by
  unfold settlePanel
  split <;> rfl

theorem rawCondition_settlePanel (s : State) (c : AlarmCode) :
    rawCondition (settlePanel s) c = rawCondition s c := by
  rw [settlePanel_eq]
  cases c <;> rfl

theorem settlePanel_alarms (s : State) : (settlePanel s).alarms = s.alarms := by
  unfold settlePanel
  split <;> rfl

theorem settlePanel_notices (s : State) : (settlePanel s).notices = s.notices := by
  unfold settlePanel
  split <;> rfl

theorem settlePanel_reporter (s : State) : (settlePanel s).reporter = s.reporter := by
  unfold settlePanel
  split <;> rfl

theorem OnlyAlarms.outputs (h : OnlyAlarms s t) : t.panel.outputs = s.panel.outputs :=
  (congrArg (fun x => x.panel.outputs) h).trans rfl

/-! ### The closing work -/

theorem recordOf_settlePanel (s : State) (c : AlarmCode) :
    recordOf (settlePanel s) c = recordOf s c := by
  unfold recordOf
  rw [settlePanel_alarms]

/-- The closing work of a safe pump and rake: the other codes, the panel, QUEUE_LOSS, the panel. -/
theorem settle_of_safe (p : PumpSafe s) (r : RakeSafe s) :
    settle s = settlePanel (settleCode (settlePanel (othersMoved s)) .queueLoss) := by
  have e : handOn s = takeCodes [.queueLoss] (takeCodes (otherCodes s) s) := by
    simp only [handOn, takeChanges, List.filter_true]
  unfold settle
  rw [serve_of_safe p r, e, ← foldl_otherCodes]
  rfl

/-- The state in which QUEUE_LOSS has moved and only the panel's last following is to come: the records,
the panel as it followed before, and what handing the notices makes. -/
theorem settle_handed (s : State) : ∃ rs,
    settleCode (settlePanel (othersMoved s)) .queueLoss
      = beside rs (settlePanel (othersMoved s)).panel (handedAfter s) := by
  have k : OnlyClosing s (settlePanel (othersMoved s)) :=
    (othersMoved_onlyAlarms s).onlyClosing.trans (settlePanel_onlyClosing _)
  have q : recordOf (settlePanel (othersMoved s)) .queueLoss = recordOf s .queueLoss := by
    rw [recordOf_settlePanel, ← foldl_otherCodes]
    exact recordOf_foldl_other (otherCodes s) s fun m => (mem_otherCodes s _).1 m rfl
  obtain ⟨rs, e⟩ := othersMoved_beside s
  have b : settlePanel (othersMoved s)
      = beside rs (settlePanel (othersMoved s)).panel (handAll s (entriesAfter s)) := by
    conv => lhs; rw [settlePanel_beside, e]
    rw [e]
    rfl
  generalize settlePanel (othersMoved s) = n at b k q
  rw [settleCode_handed, entryAfter_of_same k q, recordAfter_of_same k q,
    show rawCondition n .queueLoss = (handAll s (entriesAfter s)).alarms.queueLoss.isSome by
      rw [b]
      rfl,
    setRecord_eq, show handAll n _ = beside rs n.panel (handedAfter s) by
      rw [b]
      exact handAll_beside _ _ _ _]
  exact ⟨_, rfl⟩

/-- On a safe pump and rake the closing work changes what `Follows` names and nothing else. -/
theorem settle_follows (p : PumpSafe s) (r : RakeSafe s) : Follows s (settle s) := by
  have e := settle_of_safe p r
  have o := othersMoved_onlyAlarms s
  have g : OnlyClosing s (settlePanel (othersMoved s)) :=
    o.onlyClosing.trans (settlePanel_onlyClosing _)
  have qa := settleCode_onlyAlarms (settlePanel (othersMoved s)) .queueLoss
  have ql : loaded (settleCode (settlePanel (othersMoved s)) .queueLoss) = loaded s :=
    (g.trans qa.onlyClosing).loaded
  have raw : ∀ c, c ≠ .queueLoss → rawCondition (settle s) c = rawCondition s c := fun c h => by
    rw [e, rawCondition_settlePanel, qa.raw h, rawCondition_settlePanel, o.raw h]
  have other : ∀ c, c ≠ .queueLoss → recordOf (settle s) c = recordOf (othersMoved s) c :=
    fun c h => by
      rw [e, recordOf_settlePanel, recordOf_settleCode_other _ fun x => h x.symm,
        recordOf_settlePanel]
  obtain ⟨rs, k⟩ := settle_handed s
  refine ⟨?_, ?_, ?_, ?_, ?_, ?_⟩
  · have ra : (settle s).alarms.records = rs := by
      rw [e, settlePanel_alarms, k]
      rfl
    have hp : (settle s).panel = { s.panel with
        outputs := (settle s).panel.outputs, pins := (settle s).panel.pins } := by
      rw [e]
      exact congrArg (fun x => x.panel) ((g.trans qa.onlyClosing).trans (settlePanel_onlyClosing _))
    rw [← hp, ra, e, settlePanel_eq, k]
    rfl
  · intro n
    have lm : (settlePanel (othersMoved s)).alarms.records.length = 23 := by
      rw [settlePanel_alarms, ← foldl_otherCodes, foldl_settleCode_length, n]
    refine ⟨by rw [e, settlePanel_alarms, settleCode_length, lm], fun c => ?_⟩
    by_cases h : c = .queueLoss
    · subst h
      have q : recordOf (settlePanel (othersMoved s)) .queueLoss = recordOf s .queueLoss := by
        rw [recordOf_settlePanel, ← foldl_otherCodes]
        exact recordOf_foldl_other (otherCodes s) s fun m => (mem_otherCodes s _).1 m rfl
      rw [e, recordOf_settlePanel, recordOf_settleCode_same lm, rawCondition_settlePanel (settleCode _ _),
        rawCondition_settleCode_queueLoss, recordAfter_of_same g q]
    · rw [other c h, raw c h, ← foldl_otherCodes]
      exact recordOf_foldl_same (otherCodes s) s (.refl s) n (otherCodes_nodup s)
        (fun m => (mem_otherCodes s _).1 m rfl) (fun _ _ => rfl) c ((mem_otherCodes s c).2 h)
  · intro x hx a
    rw [other x hx, ← foldl_otherCodes]
    exact recordOf_foldl_settleCode hx _ s a
  · intro a
    have m : othersMoved s = s := by rw [← foldl_otherCodes, foldl_settleCode_of_agree a]
    have ag : rawCondition (settlePanel s) .queueLoss = (recordOf (settlePanel s) .queueLoss).raw := by
      rw [rawCondition_settlePanel, recordOf_settlePanel, a]
    rw [e, m, settleCode_of_agrees ag, settlePanel_alarms, settlePanel_notices, settlePanel_reporter,
      settlePanel_alarms, settlePanel_notices, settlePanel_reporter]
    exact ⟨rfl, rfl, rfl⟩
  · rw [e, outputs_settlePanel, ql, qa.outputs, outputs_settlePanel, o.onlyClosing.loaded, o.outputs]
    cases loaded s <;> simp [outputsIn, sourceOn_settlePanel]
  · rw [e, pins_settlePanel, ql]

/-- An event that can be: its effect, and what follows on it. -/
theorem taken_follows {can : Bool} {f : State → State} (h : can = true) (p : PumpSafe (f s))
    (r : RakeSafe (f s)) : ∃ t, taken can f s = .next t ∧ Follows (f s) t :=
  ⟨settle (f s), taken_of_can f s h, settle_follows p r⟩

end Sys2Proof.Machine
end

