-- ==== Sys2Proof/Laws/PerInstr.lean ====
section
/-! SUPPORT. Statements made of every command, one lemma per constructor. -/

namespace Sys2Proof.Laws

open Sys2Proof

/-- No word of the table's bits spells the command: no row of the table has bits, so every command
comes from outside the part (log 32). -/
def Wordless.Statement (i : Instr) : Prop := ∀ nbits w : Nat, decodeTableWord nbits w ≠ some i

theorem Wordless.of_none (i : Instr) : Wordless.Statement i := fun _ _ h => nomatch h

theorem Wordless.reset :
    Wordless.Statement (.reset) := Wordless.of_none _
theorem Wordless.tick (pins : BitVec 15) (straps : CaptureReadings) :
    Wordless.Statement (.tick pins straps) := Wordless.of_none _
theorem Wordless.inputAcceptedChange (i : Input) :
    Wordless.Statement (.inputAcceptedChange i) := Wordless.of_none _
theorem Wordless.timeBaseSecond :
    Wordless.Statement (.timeBaseSecond) := Wordless.of_none _
theorem Wordless.hourlyPoint :
    Wordless.Statement (.hourlyPoint) := Wordless.of_none _
theorem Wordless.clockMinute :
    Wordless.Statement (.clockMinute) := Wordless.of_none _
theorem Wordless.startsWindowStampExpiry :
    Wordless.Statement (.startsWindowStampExpiry) := Wordless.of_none _
theorem Wordless.configReadComplete (image : List Byte) :
    Wordless.Statement (.configReadComplete image) := Wordless.of_none _
theorem Wordless.attemptFail (cause : ReadFailure) :
    Wordless.Statement (.attemptFail cause) := Wordless.of_none _
theorem Wordless.retryWaitExpiry (sdaCells : Nat) :
    Wordless.Statement (.retryWaitExpiry sdaCells) := Wordless.of_none _
theorem Wordless.loaderFinish :
    Wordless.Statement (.loaderFinish) := Wordless.of_none _
theorem Wordless.frameTimerExpiry :
    Wordless.Statement (.frameTimerExpiry) := Wordless.of_none _
theorem Wordless.syncDrive :
    Wordless.Statement (.syncDrive) := Wordless.of_none _
theorem Wordless.syncAttemptFail :
    Wordless.Statement (.syncAttemptFail) := Wordless.of_none _
theorem Wordless.syncLeadingEdge :
    Wordless.Statement (.syncLeadingEdge) := Wordless.of_none _
theorem Wordless.noticeClaimWon (field : BitVec 4) :
    Wordless.Statement (.noticeClaimWon field) := Wordless.of_none _
theorem Wordless.goodFrameEnd (run : Nat) (cells : Cells) :
    Wordless.Statement (.goodFrameEnd run cells) := Wordless.of_none _
theorem Wordless.badFrame (run : Nat) :
    Wordless.Statement (.badFrame run) := Wordless.of_none _
theorem Wordless.lineIdle (cells : Nat) :
    Wordless.Statement (.lineIdle cells) := Wordless.of_none _
theorem Wordless.receiverInStep (cells : Nat) :
    Wordless.Statement (.receiverInStep cells) := Wordless.of_none _
theorem Wordless.join :
    Wordless.Statement (.join) := Wordless.of_none _
theorem Wordless.ownAddressIsolate :
    Wordless.Statement (.ownAddressIsolate) := Wordless.of_none _
theorem Wordless.presenceFault :
    Wordless.Statement (.presenceFault) := Wordless.of_none _
theorem Wordless.jabberTrip (cells : Nat) :
    Wordless.Statement (.jabberTrip cells) := Wordless.of_none _
theorem Wordless.stuckCondition (cells : Nat) :
    Wordless.Statement (.stuckCondition cells) := Wordless.of_none _
theorem Wordless.silenceTimerExpiry :
    Wordless.Statement (.silenceTimerExpiry) := Wordless.of_none _
theorem Wordless.lineFaultFramesRecover :
    Wordless.Statement (.lineFaultFramesRecover) := Wordless.of_none _
theorem Wordless.lineFaultQuietRecover (cells : Nat) :
    Wordless.Statement (.lineFaultQuietRecover cells) := Wordless.of_none _
theorem Wordless.aloneDetect :
    Wordless.Statement (.aloneDetect) := Wordless.of_none _
theorem Wordless.leadUnusableHandover :
    Wordless.Statement (.leadUnusableHandover) := Wordless.of_none _
theorem Wordless.noLeadTake :
    Wordless.Statement (.noLeadTake) := Wordless.of_none _
theorem Wordless.noticeDrop :
    Wordless.Statement (.noticeDrop) := Wordless.of_none _
theorem Wordless.commandSetInhibit :
    Wordless.Statement (.commandSetInhibit) := Wordless.of_none _
theorem Wordless.commandClearInhibit :
    Wordless.Statement (.commandClearInhibit) := Wordless.of_none _
theorem Wordless.commandOtherCode :
    Wordless.Statement (.commandOtherCode) := Wordless.of_none _
theorem Wordless.pairingTimeout (subject : Fin 8) :
    Wordless.Statement (.pairingTimeout subject) := Wordless.of_none _
theorem Wordless.holdQuietClaim :
    Wordless.Statement (.holdQuietClaim) := Wordless.of_none _
theorem Wordless.openFieldActive :
    Wordless.Statement (.openFieldActive) := Wordless.of_none _
theorem Wordless.commandTimeout :
    Wordless.Statement (.commandTimeout) := Wordless.of_none _
theorem Wordless.gateEnd :
    Wordless.Statement (.gateEnd) := Wordless.of_none _
theorem Wordless.minOffExpiry :
    Wordless.Statement (.minOffExpiry) := Wordless.of_none _
theorem Wordless.inrushTimerExpiry :
    Wordless.Statement (.inrushTimerExpiry) := Wordless.of_none _
theorem Wordless.confirmTimerExpiry :
    Wordless.Statement (.confirmTimerExpiry) := Wordless.of_none _
theorem Wordless.runLossExpiry :
    Wordless.Statement (.runLossExpiry) := Wordless.of_none _
theorem Wordless.maxrunReached :
    Wordless.Statement (.maxrunReached) := Wordless.of_none _
theorem Wordless.changeoverTimerExpiry :
    Wordless.Statement (.changeoverTimerExpiry) := Wordless.of_none _
theorem Wordless.minRunExpiry :
    Wordless.Statement (.minRunExpiry) := Wordless.of_none _
theorem Wordless.fallbackDelayExpiry :
    Wordless.Statement (.fallbackDelayExpiry) := Wordless.of_none _
theorem Wordless.fallbackStart :
    Wordless.Statement (.fallbackStart) := Wordless.of_none _
theorem Wordless.switchClearExpiry :
    Wordless.Statement (.switchClearExpiry) := Wordless.of_none _
theorem Wordless.postRakeExpiry :
    Wordless.Statement (.postRakeExpiry) := Wordless.of_none _
theorem Wordless.highAlarmExpiry :
    Wordless.Statement (.highAlarmExpiry) := Wordless.of_none _
theorem Wordless.intervalTimerExpiry :
    Wordless.Statement (.intervalTimerExpiry) := Wordless.of_none _
theorem Wordless.rakeInrushExpiry :
    Wordless.Statement (.rakeInrushExpiry) := Wordless.of_none _
theorem Wordless.rakeJam :
    Wordless.Statement (.rakeJam) := Wordless.of_none _
theorem Wordless.pauseTimerExpiry :
    Wordless.Statement (.pauseTimerExpiry) := Wordless.of_none _
theorem Wordless.pendingTimerExpiry :
    Wordless.Statement (.pendingTimerExpiry) := Wordless.of_none _
theorem Wordless.tailTimerExpiry :
    Wordless.Statement (.tailTimerExpiry) := Wordless.of_none _
theorem Wordless.pulseConditionEnd (which : PulseAlarm) :
    Wordless.Statement (.pulseConditionEnd which) := Wordless.of_none _
theorem Wordless.stretchTimerExpiry (output : Fin 8) :
    Wordless.Statement (.stretchTimerExpiry output) := Wordless.of_none _
theorem Wordless.pulseTimerExpiry (output : Fin 8) :
    Wordless.Statement (.pulseTimerExpiry output) := Wordless.of_none _
theorem Wordless.townMessageInvalid (chars : List Byte) :
    Wordless.Statement (.townMessageInvalid chars) := Wordless.of_none _
theorem Wordless.characterGapTimeout (chars : List Byte) :
    Wordless.Statement (.characterGapTimeout chars) := Wordless.of_none _
theorem Wordless.townPoll (chars : List Byte) :
    Wordless.Statement (.townPoll chars) := Wordless.of_none _
theorem Wordless.townAck (chars : List Byte) :
    Wordless.Statement (.townAck chars) := Wordless.of_none _
theorem Wordless.townDump (chars : List Byte) :
    Wordless.Statement (.townDump chars) := Wordless.of_none _
theorem Wordless.townInhibit (chars : List Byte) :
    Wordless.Statement (.townInhibit chars) := Wordless.of_none _
theorem Wordless.townRelease (chars : List Byte) :
    Wordless.Statement (.townRelease chars) := Wordless.of_none _
theorem Wordless.townClock (chars : List Byte) :
    Wordless.Statement (.townClock chars) := Wordless.of_none _
theorem Wordless.townReporting (chars : List Byte) :
    Wordless.Statement (.townReporting chars) := Wordless.of_none _
theorem Wordless.townUnknownType (chars : List Byte) :
    Wordless.Statement (.townUnknownType chars) := Wordless.of_none _
theorem Wordless.portSend :
    Wordless.Statement (.portSend) := Wordless.of_none _
theorem Wordless.keyUpDelayExpiry :
    Wordless.Statement (.keyUpDelayExpiry) := Wordless.of_none _
theorem Wordless.transmitEnd :
    Wordless.Statement (.transmitEnd) := Wordless.of_none _
theorem Wordless.tAExpiry :
    Wordless.Statement (.tAExpiry) := Wordless.of_none _
theorem Wordless.dominantCellBeforeIdle :
    Wordless.Statement (.dominantCellBeforeIdle) := Wordless.of_none _
theorem Wordless.stuckConditionClear :
    Wordless.Statement (.stuckConditionClear) := Wordless.of_none _
theorem Wordless.levelPulseEdge (channel : Channel) :
    Wordless.Statement (.levelPulseEdge channel) := Wordless.of_none _

end Sys2Proof.Laws
end

