-- ==== Sys2Proof/Laws/Shared.lean ====
section
/-! SUPPORT. One lemma for each shared operation of the pump, the rake, the queues, the line and a good
frame end: all it does, said once, so that a later proof cites it and unfolds nothing. -/

namespace Sys2Proof.Machine

open Sys2Proof

variable {s : State}

/-! ### The pump (chapter 4) -/

/-- The contactor's opening (R62): all of it, on a closed contactor. -/
theorem openContactor_of_closed (h : s.duty.contactor = true) :
    openContactor s = { s with duty := { s.duty with
      contactor := false, minOff := startedMinOff s, inrush := none, confirm := none
      runLoss := none, minRun := none, contRun := 0, confirmed := false
      yielding := false, changeover := 0, changeoverBlocked := false } } := by
  simp [openContactor, h, setDuty, clearYielding]

theorem openContactor_contactor (s : State) : (openContactor s).duty.contactor = false := by
  unfold openContactor
  split
  · rfl
  · rename_i h
    simpa using h

theorem openContactor_pump (s : State) : (openContactor s).duty.pump = s.duty.pump := by
  unfold openContactor
  split <;> rfl

theorem openContactor_causes (s : State) : (openContactor s).duty.causes = s.duty.causes := by
  unfold openContactor
  split <;> rfl

theorem openContactor_mode (s : State) : (openContactor s).duty.mode = s.duty.mode := by
  unfold openContactor
  split <;> rfl

theorem openContactor_loader (s : State) : (openContactor s).loader = s.loader := by
  unfold openContactor
  split <;> rfl

/-- Entry to LOCKED_OFF (R63): it stays there while the minimum off timer runs or the loader has not
finished, and passes on to IDLE otherwise. -/
theorem enterLockedOff_cases (s : State) :
    (enterLockedOff s = setPump (openContactor s) .lockedOff
        ∧ ¬((openContactor s).duty.minOff = none ∧ loaded s = true))
      ∨ (enterLockedOff s = enterIdle (openContactor s)
        ∧ (openContactor s).duty.minOff = none ∧ loaded s = true) := by
  have l : loaded (openContactor s) = loaded s := by unfold loaded; rw [openContactor_loader]
  unfold enterLockedOff
  dsimp only
  split
  · rename_i h
    rw [l] at h
    exact .inr ⟨rfl, by simpa using h⟩
  · rename_i h
    rw [l] at h
    exact .inl ⟨rfl, by simpa using h⟩

theorem enterLockedOff_pump (s : State) :
    (enterLockedOff s).duty.pump = .lockedOff ∨ (enterLockedOff s).duty.pump = .idle := by
  rcases enterLockedOff_cases s with h | h
  · exact .inl (by rw [h.1]; rfl)
  · exact .inr (by rw [h.1]; rfl)

theorem enterLockedOff_contactor (s : State) : (enterLockedOff s).duty.contactor = false := by
  rcases enterLockedOff_cases s with h | h <;> rw [h.1] <;> exact openContactor_contactor s

theorem enterOutOfService_spec (s : State) :
    (enterOutOfService s).duty.pump = .outOfService
      ∧ (enterOutOfService s).duty.contactor = false :=
  ⟨rfl, openContactor_contactor s⟩

/-- A stop reaches only a pump in STARTING or RUNNING. -/
theorem stopAutomatic_cases (s : State) :
    ((s.duty.pump = .starting ∨ s.duty.pump = .running) ∧ stopAutomatic s = enterLockedOff s)
      ∨ (¬(s.duty.pump = .starting ∨ s.duty.pump = .running) ∧ stopAutomatic s = s) := by
  unfold stopAutomatic
  split
  · rename_i h
    exact .inl ⟨by simpa using h, rfl⟩
  · rename_i h
    exact .inr ⟨by simpa using h, rfl⟩

theorem mem_addCause (l : List AlarmCode) (c d : AlarmCode) :
    d ∈ addCause l c ↔ d ∈ l ∨ d = c := by
  unfold addCause
  split
  · rename_i h
    have m : c ∈ l := by simpa using h
    constructor
    · exact .inl
    · rintro (x | rfl) <;> assumption
  · simp

/-- Entry to FAULTED (R64): the contactor open, the cause in the set, nothing else in it that was not
there. -/
theorem enterFaulted_spec (c : AlarmCode) (s : State) :
    (enterFaulted c s).duty.pump = .faulted ∧ (enterFaulted c s).duty.contactor = false
      ∧ (∀ d, d ∈ (enterFaulted c s).duty.causes ↔ d ∈ s.duty.causes ∨ d = c) := by
  refine ⟨rfl, openContactor_contactor s, fun d => ?_⟩
  show d ∈ addCause (openContactor s).duty.causes c ↔ _
  rw [openContactor_causes, mem_addCause]

/-- The changeover timer at a tick (R77): while it runs it counts, up to its limit; else it keeps its
value. -/
theorem tickChangeover_cases (d : Duty) :
    (d.yielding = true ∧ d.waiting = [] ∧ tickChangeover d = min (d.changeover + 1) changeoverLimit)
      ∨ ((d.yielding = false ∨ d.waiting ≠ []) ∧ tickChangeover d = d.changeover) := by
  unfold tickChangeover
  split
  · rename_i h
    rw [Bool.and_eq_true, List.isEmpty_iff] at h
    exact .inl ⟨h.1, h.2, rfl⟩
  · rename_i h
    refine .inr ⟨?_, rfl⟩
    cases y : d.yielding with
    | false => exact .inl rfl
    | true => exact .inr fun w => h (by simp [y, w])

/-- The changeover timer at a good frame end (R77): to 0 where W is not empty and the limit not reached,
else nothing. -/
theorem holdChangeover_cases (s : State) :
    (s.duty.waiting ≠ [] ∧ s.duty.changeover < changeoverLimit
        ∧ holdChangeover s = { s with duty := { s.duty with changeover := 0 } })
      ∨ ((s.duty.waiting = [] ∨ changeoverLimit ≤ s.duty.changeover) ∧ holdChangeover s = s) := by
  unfold holdChangeover
  split
  · rename_i h
    simp only [Bool.and_eq_true, Bool.not_eq_true', decide_eq_true_eq] at h
    exact .inl ⟨fun w => by simp [w] at h, h.2, rfl⟩
  · rename_i h
    refine .inr ⟨?_, rfl⟩
    by_cases w : s.duty.waiting = []
    · exact .inl w
    · exact .inr (Nat.le_of_not_lt fun l => h (by simp [w, l]))

theorem enterHand_pump (s : State) : (enterHand s).duty.pump = .hand := by
  unfold enterHand
  split
  · rfl
  · unfold closeInHand
    split <;> rfl

/-! ### The screen and the rake (chapter 5) -/

theorem stopAutomatic_screen (s : State) : (stopAutomatic s).screen = s.screen := by
  rcases stopAutomatic_cases s with h | h
  · rw [h.2]
    exact (congrArg (·.screen) (show enterLockedOff s = _ from enterLockedOff_onlyDuty s)).trans rfl
  · rw [h.2]

theorem setCondition_condition (c : ScreenCondition) (s : State) :
    (setCondition c s).screen.condition = c := by
  unfold setCondition
  split
  · rename_i h
    exact h
  · dsimp only
    split
    · rw [stopAutomatic_screen]
      rfl
    · rfl

/-! ### The outgoing queue (chapter 8) -/

theorem joinQueue_length (q : List NoticeEntry) (e : NoticeEntry) :
    (joinQueue q e).length = q.length + 1 := by
  unfold joinQueue
  split
  · have h := congrArg List.length (List.takeWhile_append_dropWhile (p := (·.urgent)) (l := q))
    simp only [List.length_append, List.length_cons] at h ⊢
    omega
  · simp

theorem mem_joinQueue (q : List NoticeEntry) (e x : NoticeEntry) :
    x ∈ joinQueue q e ↔ x ∈ q ∨ x = e := by
  unfold joinQueue
  split
  · conv_rhs => rw [← List.takeWhile_append_dropWhile (p := (·.urgent)) (l := q)]
    simp only [List.mem_append, List.mem_cons]
    tauto
  · simp

theorem mergeInto_length (q : List NoticeEntry) (e : NoticeEntry) :
    (mergeInto q e).length = q.length := by simp [mergeInto]

/-- A discard takes one entry out, where one is not in flight (R136). -/
theorem afterDiscard_length {q : List NoticeEntry} (h : ∃ x ∈ q, x.inFlight = false) :
    (afterDiscard q).length + 1 = q.length := by
  obtain ⟨x, m, f⟩ := h
  have pos : 0 < q.length := List.length_pos_of_mem m
  unfold afterDiscard
  split
  · rename_i a
    obtain ⟨y, my, hy⟩ := List.any_eq_true.1 a
    rw [List.length_eraseP_of_mem my hy]
    omega
  · rename_i a
    have u : x.urgent = true := by
      cases e : x.urgent with
      | true => rfl
      | false => exact absurd (List.any_eq_true.2 ⟨x, m, by simp [e, f]⟩) a
    rw [List.length_eraseP_of_mem m (by simp [u, f])]
    omega

/-! ### The ends of frames (chapter 1) -/

theorem noticeReadBack_iff (driven c : Cells) : noticeReadBack driven c = true
    ↔ ∀ k, 96 ≤ k → k < 136 → c.getLsbD k = driven.getLsbD k := by
  simp only [noticeReadBack, List.all_eq_true, List.mem_range, beq_iff_eq]
  constructor
  · intro h k a b
    have := h (k - 96) (by omega)
    rwa [show 96 + (k - 96) = k by omega] at this
  · exact fun h j a => h _ (by omega) (by omega)

/-- The three results of a notice claim at a good frame end (R13). -/
theorem goodNotice_cases (won : Bool) (c : Cells) (d : Drive) :
    (won = false ∧ goodNotice won c d = .lost)
      ∨ (won = true ∧ (∀ k, 96 ≤ k → k < 136 → c.getLsbD k = d.cells.getLsbD k)
        ∧ goodNotice won c d = .carried)
      ∨ (won = true ∧ ¬(∀ k, 96 ≤ k → k < 136 → c.getLsbD k = d.cells.getLsbD k)
        ∧ goodNotice won c d = .notCarried) := by
  rw [← noticeReadBack_iff]
  cases won
  · exact .inl ⟨rfl, rfl⟩
  · cases h : noticeReadBack d.cells c
    · exact .inr (.inr ⟨rfl, by simp, by simp [goodNotice, h]⟩)
    · exact .inr (.inl ⟨rfl, rfl, by simp [goodNotice, h]⟩)

theorem badNotice_eq (s : State) : badNotice s
    = if s.line.drive.any (·.noticeKey.isSome) then
        noticeResult (if s.line.noticeWon then .notCarried else .lost) s
      else s := by
  unfold badNotice
  cases s.line.drive <;> simp

/-- A frame that breaks: bad at once where one is in progress (R8), and nothing where none is. -/
theorem breakFrame_cases (s : State) :
    (s.line.receiver = .inside ∧ breakFrame s = badFrameEnd 0 s)
      ∨ (s.line.receiver ≠ .inside ∧ breakFrame s = s) := by
  unfold breakFrame
  split
  · exact .inl ⟨‹_›, rfl⟩
  · exact .inr ⟨‹_›, rfl⟩

/-! ### The duty list (chapter 4) -/

/-- The duty list holds the fresh addresses (R69). -/
theorem mem_dutyListOf (s : State) (a : Nat) : a ∈ dutyListOf s ↔ a < 8 ∧ freshAt s a = true := by
  simp only [dutyListOf, List.mem_filter, List.mem_map, addresses]
  constructor
  · rintro ⟨⟨i, -, rfl⟩, f⟩
    exact ⟨Nat.mod_lt _ (by decide), f⟩
  · rintro ⟨l, f⟩
    refine ⟨⟨(a + 8 - (currentLead s).getD 0 % 8) % 8, ?_, ?_⟩, f⟩
    · have : (a + 8 - (currentLead s).getD 0 % 8) % 8 < 8 := Nat.mod_lt _ (by decide)
      simp only [List.mem_cons, List.not_mem_nil, or_false]
      omega
    · omega

/-- The next previous running set (R71): the other fresh addresses that show RUNNING and not YIELDING. -/
theorem mem_testUnplanned_prevRunning (s : State) (a : Nat) :
    a ∈ (testUnplanned (formDutyList s)).duty.prevRunning ↔ a < 8 ∧ a ≠ ownAddress s
      ∧ freshAt s a = true ∧ (peer s a).running = true ∧ (peer s a).yielding = false := by
  show a ∈ ((dutyListOf s).filter fun a => counted (peer s a)).filter (· != ownAddress s) ↔ _
  simp only [List.mem_filter, mem_dutyListOf, counted, Bool.and_eq_true, Bool.not_eq_true', bne_iff_ne]
  tauto

/-! ### What the holds and availability are formed of (chapter 4) -/

theorem stopHold_iff (s : State) : stopHold s = true ↔ isActive s .allStop = true
    ∨ isActive s .lowFloat = true ∨ isActive s .thermal = true
    ∨ s.line.mode ≠ .lineFault ∧ (s.line.common.allStop = true ∨ s.line.common.dry = true) := by
  simp only [stopHold, cellUsed, Bool.or_eq_true, Bool.and_eq_true, bne_iff_ne]
  tauto

theorem rakeStop_iff (s : State) : rakeStop s = true ↔ isActive s .allStop = true
    ∨ s.duty.mode = .off ∨ s.line.mode ≠ .lineFault ∧ s.line.common.allStop = true := by
  simp only [rakeStop, cellUsed, Bool.or_eq_true, Bool.and_eq_true, bne_iff_ne, beq_iff_eq]
  tauto

theorem available_iff (s : State) : available s = true ↔ IsAvailable s := by
  unfold available IsAvailable windowFull moistureBars
  cases isActive s .moisture <;>
    simp [Nat.one_le_iff_ne_zero, Nat.pos_iff_ne_zero, and_assoc]

/-! ### The house's part of a good frame end -/

/-- Only the notices, the alarms and the reporter differ. -/
def OnlyHouse (s t : State) : Prop :=
  t = { s with notices := t.notices, alarms := t.alarms, reporter := t.reporter }

theorem OnlyHouse.refl (s : State) : OnlyHouse s s := rfl

theorem OnlyHouse.trans {s t u : State} (h : OnlyHouse s t) (k : OnlyHouse t u) : OnlyHouse s u :=
  Eq.trans k ((congrArg (fun x : State =>
    { x with notices := u.notices, alarms := u.alarms, reporter := u.reporter }) h).trans rfl)

theorem OnlyNotices.onlyHouse {s t : State} (h : OnlyNotices s t) : OnlyHouse s t := by
  unfold OnlyHouse
  rw [h]
  rfl

theorem setReporter_onlyHouse (s : State) (r : Reporter) : OnlyHouse s (setReporter s r) := rfl

theorem noticeResult_onlyHouse (r : NoticeResult) (s : State) : OnlyHouse s (noticeResult r s) := by
  unfold noticeResult
  split
  · exact .refl s
  · cases r
    · rfl
    · dsimp only
      split <;> rfl
    · rfl

theorem handResult_onlyHouse (won : Bool) (c : Cells) (drive : Option Drive) (s : State) :
    OnlyHouse s (handResult won c drive s) := by
  unfold handResult
  split
  · split
    · exact noticeResult_onlyHouse _ s
    · exact .refl s
  · exact .refl s

theorem buildRecord_onlyHouse (urgent : Bool) (r : ReportRecord) (s : State) :
    OnlyHouse s (buildRecord urgent r s) := by
  have e : ∀ (r : ReportRecord) (t : State), OnlyHouse t (enqueueReport urgent r t) := by
    intro r t
    unfold enqueueReport
    split <;> rfl
  exact OnlyHouse.trans (t := appendHistory (stampRecord s r) s) rfl (e _ _)

/-- Recording a notice changes the reporter, and what the end of a command changes (R153, R165). -/
theorem recordNotice_onlyHouse (n : Received) (s : State) : OnlyHouse s (recordNotice n s) := by
  have event : ∀ a w code d (t : State), OnlyHouse t (buildOverflowEvent a w code d t) :=
    fun _ _ _ _ _ => OnlyHouse.trans (t := setPairing _ _ _) rfl (buildRecord_onlyHouse _ _ _)
  unfold recordNotice
  split
  · exact (buildRecord_onlyHouse _ _ s).trans rfl
  · exact buildRecord_onlyHouse _ _ s
  · dsimp only
    split
    · exact (event _ _ _ _ s).trans rfl
    · rfl
  · split
    · split
      · exact event _ _ _ _ s
      · exact .refl s
    · exact .refl s
  · exact buildRecord_onlyHouse _ _ s
  · exact .refl s
  · split
    · split
      · exact (endCommand_onlyNotices _ s).onlyHouse
      · exact .refl s
    · exact .refl s

theorem reporterResult_onlyHouse (c : Cells) (drive : Option Drive) (s : State) :
    OnlyHouse s (reporterResult c drive s) := by
  have active : OnlyHouse s (enterActive s) := by
    unfold enterActive
    exact (setReporter_onlyHouse s _).trans (buildRecord_onlyHouse _ _ _)
  unfold reporterResult
  split
  · unfold reporterFrame
    split
    · exact .refl s
    · rfl
    · split
      · exact .refl s
      · split
        · exact active
        · rfl
    · split
      · exact .refl s
      · split
        · exact .refl s
        · rfl
  · exact .refl s

theorem receiveNotice_onlyHouse (c : Cells) (s : State) : OnlyHouse s (receiveNotice c s) := by
  unfold receiveNotice
  split
  · dsimp only
    split
    · split
      · exact OnlyHouse.trans (t := { s with notices := _ }) rfl (recordNotice_onlyHouse _ _)
      · rfl
    · rfl
  · exact .refl s

theorem countAfterNotice_onlyHouse (carried : Bool) (s : State) :
    OnlyHouse s (countAfterNotice carried s) := by
  unfold countAfterNotice
  dsimp only
  split <;> split <;> rfl

theorem refresh_onlyHouse (c : Cells) (s : State) : OnlyHouse s (refresh c s) := by
  unfold refresh
  split
  · exact .refl s
  · split
    · exact OnlyHouse.trans (t := { s with notices := _ }) rfl (handAll_onlyNotices _ _).onlyHouse
    · exact .refl s

/-- The Notice Unit's and the reporter's part of a good frame end reaches nothing of the plant. -/
theorem houseFrame_onlyHouse (won : Bool) (c : Cells) (drive : Option Drive) (s : State) :
    OnlyHouse s (houseFrame won c drive s) :=
  (handResult_onlyHouse won c drive s).trans <| (reporterResult_onlyHouse c drive _).trans <|
    (receiveNotice_onlyHouse c _).trans <| (countAfterNotice_onlyHouse _ _).trans <|
    refresh_onlyHouse c _

theorem OnlyHouse.line {s t : State} (h : OnlyHouse s t) : t.line = s.line :=
  (congrArg (·.line) h).trans rfl
theorem OnlyHouse.duty {s t : State} (h : OnlyHouse s t) : t.duty = s.duty :=
  (congrArg (·.duty) h).trans rfl
theorem OnlyHouse.screen {s t : State} (h : OnlyHouse s t) : t.screen = s.screen :=
  (congrArg (·.screen) h).trans rfl
theorem OnlyHouse.stager {s t : State} (h : OnlyHouse s t) : t.stager = s.stager :=
  (congrArg (·.stager) h).trans rfl

/-! ### The Duty Controller at a good frame end -/

theorem takeChanges_duty (take : AlarmCode → Bool) (s : State) :
    (takeChanges take s).duty = s.duty := (takeCodes_duty _ _).trans (takeCodes_duty _ _)

/-- An acknowledgment reaches only a FAULTED pump (R64). -/
theorem acknowledge_duty (h : s.duty.pump ≠ .faulted) : (acknowledge s).duty = s.duty := by
  unfold acknowledge
  split
  · have d : (settlePanel (allCodes.foldl acknowledgeCode s)).duty = s.duty :=
      (settlePanel_duty _).trans (OnlyAlarms.foldl acknowledgeCode_onlyAlarms allCodes s).duty
    generalize settlePanel (allCodes.foldl acknowledgeCode s) = u at d
    have f : faultReleased s u = false := by simp [faultReleased, d, h]
    simp only [releaseWaiting, f, Bool.false_eq_true, if_false]
    split
    · exact d
    · exact d
  · rfl

theorem acknowledgeFrame_duty (c : Cells) (h : s.duty.pump ≠ .faulted) :
    (acknowledgeFrame c s).duty = s.duty := by
  unfold acknowledgeFrame
  split
  · have d := takeChanges_duty (changeFirst s) s
    exact (acknowledge_duty (by rwa [d])).trans d
  · rfl

/-- After the Duty Controller's own work the plant's blocks change the screen alone. -/
theorem plantFrame_duty (c : Cells) (drive : Option Drive) (s : State) :
    let v := applyRakeStop (applyHold (formDemand c s))
    (plantFrame c drive s).duty = (dutyFrame ((s.line.mode == .joined) && startWon .duty c drive
      && !inhibitTakenFirst c v) (commonOf c) v).duty := by
  unfold plantFrame rakeFrame retakeFlush expireInterval
  dsimp only
  split <;> split <;> rfl

/-- A good frame end's Duty Controller is that of its own work, where the pump is not FAULTED. -/
theorem frameEnd_duty (c : Cells) (s : State)
    (h : (plantFrame c s.line.drive (countLine c s.line.drive
      (emptyStale s (readFrame c s)))).duty.pump ≠ .faulted) :
    (frameEnd c s).duty = (plantFrame c s.line.drive (countLine c s.line.drive
      (emptyStale s (readFrame c s)))).duty := by
  have d := (houseFrame_onlyHouse s.line.noticeWon c s.line.drive (plantFrame c s.line.drive
    (countLine c s.line.drive (emptyStale s (readFrame c s))))).duty
  exact (acknowledgeFrame_duty c (by rwa [d])).trans d

/-! ### The report queues (chapter 9) -/

/-- A report queue never grows past its size (R156). -/
theorem joinReports_length {cap : Nat} {q : List QueuedRecord} (r : ReportRecord)
    (h : q.length ≤ cap) (f : q.length = cap → ∃ x ∈ q, x.inFlight = false) :
    (joinReports cap q r).1.length ≤ cap := by
  unfold joinReports
  split
  · simpa using h
  · split
    · simp only [List.length_append, List.length_singleton]
      omega
    · have e : q.length = cap := by omega
      obtain ⟨x, m, n⟩ := f e
      have pos : 0 < q.length := List.length_pos_of_mem m
      simp only [List.length_append, List.length_singleton]
      rw [List.length_eraseP_of_mem m (by simp [n])]
      omega

/-- The history ring holds at most 64 records (R155). -/
theorem appendHistory_length (r : ReportRecord) (h : s.reporter.history.length ≤ 64) :
    (appendHistory r s).reporter.history.length ≤ 64 := by
  unfold appendHistory
  simp only [setReporter, List.length_append, List.length_singleton]
  split
  · simp only [List.length_drop]
    omega
  · omega

/-! ### Counters and timers -/

theorem satSucc_le (top n : Nat) : satSucc top n ≤ top := Nat.min_le_right _ _

theorem reached_iff (t : Timer) (limit : Nat) :
    reached t limit = true ↔ ∃ e, t = some e ∧ limit ≤ e := by
  unfold reached
  split <;> simp

end Sys2Proof.Machine
end

