-- ==== Sys2Proof/Tests/Slice0.lean ====
section
/-! SUPPORT. The model's own tests: ill-formed commands, the manual's worked examples, one step of each
command on a small state, and for every statement with hypotheses a state that meets them. -/

namespace Sys2Proof.Tests.Slice0

open Sys2Proof Sys2Proof.Machine

set_option Elab.async false

/-! ### Helpers -/

/-- The state that a command leaves. -/
def after (c : Instr) (s : State) : State :=
  match exec c s with
  | .next t => t
  | _ => s

/-- The command leaves a next state other than by changing nothing, so it was not passed over. -/
def moves (c : Instr) (s : State) : Bool := decide (after c s ≠ s)

/-- Settings with the figures of the manual's worked examples. -/
def cfg : Settings where
  house := 42
  baudCode := 1
  keyUp := 10
  ta := 5
  retryLimit := 3
  routineDefault := true
  calA := ⟨2000, 10000, 6000, 2⟩
  calB := ⟨2000, 10000, 6000, 2⟩
  q := 4
  stageCount := 4
  startLevels := [1800, 2400, 2900, 3300, 0, 0, 0, 0]
  stopLevels := [1200, 1900, 2300, 2700, 0, 0, 0, 0]
  tideOffset := 300
  highFloatStage := 5
  tConfirm := 5
  tInrush := 10
  tMinRun := 60
  tMinOff := 30
  tMaxRun := 60
  startsPerHour := 6
  moisturePolicy := 1
  screenSwitchFitted := true
  deltaR := 150
  deltaB := 400
  dwell := 30
  rakeInterval := 60
  flushInterval := 10
  flushThreshold := 80
  tRake := 90
  weirFloatFitted := false
  crest := 3400
  tOd := 30
  tOt := 10
  spillHeads := [0, 50, 100, 150, 200, 300, 400, 600, 800]
  spillRates := [0, 30, 85, 160, 245, 450, 690, 1270, 1960]
  enableMask := List.replicate 23 true
  debounce := 5
  outputs := [⟨5, false, .steady, 3⟩, ⟨13, true, .steady, 0⟩, ⟨1, false, .steady, 0⟩,
    ⟨10, false, .annunciated, 0⟩, ⟨9, false, .steady, 0⟩, ⟨12, false, .annunciated, 0⟩,
    ⟨11, false, .pulse, 15⟩, ⟨11, false, .steady, 0⟩]

/-- Bay 2, loaded, in LISTEN, with both channels HEALTHY and its pump IDLE. -/
def bay : State := settle { State.reset with
  loader := { Loader.reset with phase := .done, ready := cfg }
  cfg := cfg
  straps := ⟨2, true, true, true, true⟩
  chanA := ⟨.healthy, 0, 2600, 0, 2600, [2551, 2560, 2568, 2576, 2583, 2590, 2596, 2600], 0, 0, true,
    false⟩
  chanB := ⟨.healthy, 0, 2700, 0, 2700, [2700, 2700, 2700, 2700, 2700, 2700, 2700, 2700], 0, 0, true,
    false⟩
  stager := ⟨true, 2, 0, 0, 0, 0, false⟩
  duty := { Duty.reset with pump := .idle, minOff := none }
  screen := { Screen.reset with sensing := some .diff, delta := 100, condition := .clear }
  ovf := { Overflow.reset with blind := false, volumeEnabled := true, crestUsable := true }
  panel := { Panel.reset with outputs := cfg.outputs.map fun e => ⟨e, false, none, none⟩ }
  reporter := { Reporter.reset with mode := .standby } }

/-- The bay with its line changed. -/
def withLine (f : Line → Line) (s : State) : State := { s with line := f s.line }
def withDuty (f : Duty → Duty) (s : State) : State := { s with duty := f s.duty }
def withScreen (f : Screen → Screen) (s : State) : State := { s with screen := f s.screen }
def withOvf (f : Overflow → Overflow) (s : State) : State := { s with ovf := f s.ovf }
def withReporter (f : Reporter → Reporter) (s : State) : State := { s with reporter := f s.reporter }
def withNotices (f : Notices → Notices) (s : State) : State := { s with notices := f s.notices }

/-- The bay JOINED, outside a frame on an idle line. -/
def joined : State := withLine (fun l => { l with
  mode := .joined, receiver := .outside, recessiveRun := 10 }) bay

/-- The bay with one input's accepted value set, and the sample's change of another due. -/
def withInput (i : Input) (x : InputState) (s : State) : State :=
  { s with inputs := s.inputs.set (inputIndex i) x }

/-- The change of an input to active is due. -/
def pressing (i : Input) (s : State) : State := withInput i ⟨false, 5, true⟩ s

/-- An input stands active. -/
def holding (i : Input) (s : State) : State := withInput i ⟨true, 0, false⟩ s

/-! ### The premises as checks -/

def pumpDec (s : State) : Decidable (PumpSafe s) := by unfold PumpSafe; infer_instance
def rakeDec (s : State) : Decidable (RakeSafe s) := by unfold RakeSafe; infer_instance
def lineDec (s : State) : Decidable (LineSafe s) := by unfold LineSafe; infer_instance

/-- The premises that most statements make. -/
def quietBay (s : State) : Bool := @decide _ (pumpDec s) && @decide _ (rakeDec s)

theorem both {s : State} {p : Prop} (h : quietBay s = true) (hp : p) :
    PumpSafe s ∧ RakeSafe s ∧ p := by
  simp only [quietBay, Bool.and_eq_true, decide_eq_true_eq] at h
  exact ⟨h.1, h.2, hp⟩

theorem bay_quiet : quietBay bay = true := by decide +kernel
theorem joined_quiet : quietBay joined = true := by decide +kernel
theorem test_bay : bay.duty.pump = .idle ∧ bay.notices.queue = [] ∧ bay.screen.rake = .idle := by decide +kernel


/-! ### WellFormed refuses ill-formed commands -/

theorem test_refuses_short_image : (Instr.configReadComplete []).wellFormed = false := by decide
theorem test_refuses_long_image :
    (Instr.configReadComplete (List.replicate 257 0#8)).wellFormed = false := by decide +kernel
theorem test_refuses_read_failure :
    (Instr.attemptFail (.busBusy (.sending 3))).wellFormed = false
    ∧ (Instr.attemptFail (.busBusy (.reading [0#8]))).wellFormed = false
    ∧ (Instr.attemptFail (.stretchTooLong (.reading (List.replicate 257 0#8)))).wellFormed = false := by
  decide +kernel
theorem test_refuses_good_run_3 : (Instr.goodFrameEnd 3 0).wellFormed = false := by decide
theorem test_refuses_good_run_7 : (Instr.goodFrameEnd 7 0).wellFormed = false := by decide
theorem test_refuses_bad_run_0 : (Instr.badFrame 0).wellFormed = false := by decide
theorem test_refuses_bad_run_5 : (Instr.badFrame 5).wellFormed = false := by decide
theorem test_refuses_bad_run_8 : (Instr.badFrame 8).wellFormed = false := by decide
theorem test_refuses_no_cells : (Instr.lineIdle 0).wellFormed = false
    ∧ (Instr.receiverInStep 0).wellFormed = false ∧ (Instr.jabberTrip 0).wellFormed = false
    ∧ (Instr.stuckCondition 0).wellFormed = false
    ∧ (Instr.lineFaultQuietRecover 0).wellFormed = false := by decide
theorem test_refuses_no_characters : (Instr.townMessageInvalid []).wellFormed = false
    ∧ (Instr.characterGapTimeout []).wellFormed = false := by decide
theorem test_refuses_45_characters :
    (Instr.townMessageInvalid (List.replicate 45 0#8)).wellFormed = false
    ∧ (Instr.characterGapTimeout (List.replicate 44 0#8)).wellFormed = false := by decide +kernel
theorem test_refuses_short_messages : (Instr.townPoll [0x5A#8]).wellFormed = false
    ∧ (Instr.townAck [0x5A#8]).wellFormed = false ∧ (Instr.townDump [0x5A#8]).wellFormed = false
    ∧ (Instr.townInhibit [0x5A#8]).wellFormed = false
    ∧ (Instr.townRelease [0x5A#8]).wellFormed = false
    ∧ (Instr.townClock [0x5A#8]).wellFormed = false
    ∧ (Instr.townReporting [0x5A#8]).wellFormed = false
    ∧ (Instr.townUnknownType [0x5A#8]).wellFormed = false := by decide
theorem test_takes_well_formed : (Instr.badFrame 7).wellFormed = true
    ∧ (Instr.goodFrameEnd 4 0).wellFormed = true ∧ Instr.reset.wellFormed = true := by decide

/-! ### The manual's worked examples, function by function -/

/-- R2: a three-cell field holding 5 is recessive, dominant, recessive; true is dominant here. -/
theorem test_field_of_5 : fieldCells 3 5 = [false, true, false] := by decide
theorem test_field_reads_5 : numericField (toCells [false, true, false]) 0 3 = 5 := by decide +kernel

/-- 11.1: bay 5's field is cells 72 to 79. -/
theorem test_station_cell : stationCell 5 = 72 := by decide

/-- 1.4: bay 2 drives 1 001 and, having lost, releases; with 1 000 100 of bay 4 the field reads as
bay 4's key. -/
theorem test_claim_contention :
    startField (toCells (recessive 12 ++ fieldCells 4 0b1001)
      ||| toCells (recessive 12 ++ fieldCells 7 0b1000100)) = 0b1000100 := by decide +kernel
theorem test_pump_key :
    pumpKey (withDuty (fun d => { d with index := some 1 }) bay) = 0b1001010 := by decide +kernel
/-- 4.10's examples: with priority the first cell is 0. -/
theorem test_pump_key_priority : pumpKey (withDuty (fun d => { d with index := some 0, unplanned := 600 })
    { bay with straps := { bay.straps with address := 0 } }) = 0 := by decide +kernel
/-- 8, three bays share the claim: a routine head at bay 1 has key 1 001, an urgent one at bay 6 0 110. -/
theorem test_notice_keys :
    noticeKey { bay with straps := { bay.straps with address := 1 } }
      (newEntry .summary 1 0 0 0 false) = 0b1001
    ∧ noticeKey { bay with straps := { bay.straps with address := 6 } }
      (newEntry .alarm 6 9 1 1 true) = 0b0110 := by decide +kernel

/-- 2.8, conversions and classifications. -/
theorem test_convert_5500 : classify cfg.calA 5500 = some 2625 := by decide
theorem test_convert_5501 : classify cfg.calA 5501 = some 2626 := by decide
theorem test_classify_11000 : classify cfg.calA 11000 = some 6000 := by decide
theorem test_classify_12000 : classify cfg.calA 12000 = some 6000 := by decide
theorem test_classify_12001 : classify cfg.calA 12001 = none := by decide
theorem test_classify_open : classify cfg.calA 0 = none := by decide
theorem test_filter_up : filterLevel 2 2600 2626 = 2607 := by decide
theorem test_filter_down : filterLevel 2 2607 2601 = 2605 := by decide
theorem test_rate : rateOf 2607 2551 = 56 := by decide
theorem test_predict : predict cfg.calA 4 2607 56 = 2831 := by decide
theorem test_predict_clamped : predict cfg.calA 4 1190 (-400) = 0 := by decide
theorem test_ring : (updateLevel cfg.calA 4 2626 bay.chanA).ring
    = [2560, 2568, 2576, 2583, 2590, 2596, 2600, 2607] := by decide +kernel

/-- A channel of the probe's example in a state, with a count and its runs. -/
def probe (mode : ChannelMode) (e count bad good : Nat) : LevelChannel :=
  ⟨mode, count, e, 0, e, List.replicate 8 e, bad, good, true, false⟩

/-- The state, level and runs after a gate end of the probe's example (2.9). -/
def gateOf (c : LevelChannel) : ChannelMode × Nat × Nat × Nat :=
  let t := gateChannel cfg.calA 4 c
  (t.mode, t.e, t.badRun, t.goodRun)

theorem test_gate_g1 : gateOf (probe .healthy 2607 5520 0 0) = (.healthy, 2615, 0, 0) := by decide
theorem test_gate_g2 : gateOf (probe .healthy 2615 0 0 0) = (.suspect, 2615, 1, 0) := by decide
theorem test_gate_g3 : gateOf (probe .suspect 2615 0 1 0) = (.suspect, 2615, 2, 0) := by decide
theorem test_gate_g4 : gateOf (probe .suspect 2615 5540 2 0) = (.healthy, 2625, 0, 0) := by decide
theorem test_gate_g7 : gateOf (probe .suspect 2625 12400 2 0) = (.faulted, 2625, 3, 0) := by decide
theorem test_gate_g8 : (gateOf (probe .faulted 2625 5600 3 0)).2.2.2 = 1 := by decide
theorem test_gate_g9 : (gateOf (probe .faulted 2625 0 3 1)).2.2.2 = 0 := by decide
theorem test_gate_g11 : (gateOf (probe .faulted 2625 5640 3 1)).1 = .faulted := by decide
theorem test_gate_g12 : gateChannel cfg.calA 4 (probe .faulted 2625 5680 3 2) = { gateChannel cfg.calA 4
    (probe .faulted 2625 5680 3 2) with
      mode := .healthy, e := 2760, p := 2760, rate := 0, ring := List.replicate 8 2760 } := by decide

/-- 3, start levels with the tide closed. -/
theorem test_tide_levels : [1, 2, 3, 4].map (adjustedStart cfg true) = [1500, 2100, 2600, 3000] := by
  decide
theorem test_table_usable : tableUsable cfg = true := by decide
/-- 10: T = 1200, 1900, 1850, 2700 is unusable. -/
theorem test_table_unusable :
    tableUsable { cfg with stopLevels := [1200, 1900, 1850, 2700, 0, 0, 0, 0] } = false := by decide
theorem test_stage_a : evaluateStage cfg false 2 2607 2831 = 2 := by decide
theorem test_stage_b : evaluateStage cfg false 2 2660 3100 = 3 := by decide
theorem test_stage_b_closed : evaluateStage cfg true 2 2660 3100 = 4 := by decide
theorem test_stage_c : evaluateStage cfg false 4 2750 2598 = 4 := by decide
theorem test_stage_d : evaluateStage cfg false 4 2700 2460 = 3 := by decide
theorem test_stage_e : evaluateStage cfg false 3 2280 1800 = 2 := by decide
theorem test_stage_f : evaluateStage cfg false 2 1190 0 = 0 := by decide
theorem test_stage_recovery : upStage cfg false 0 2760 = 2 ∧ upStage cfg true 0 2760 = 3 := by decide

/-- Cells read dominant. -/
def cellsOf (l : List Nat) : Cells := BitVec.ofNat 136 (l.foldl (fun n k => n + 2 ^ k) 0)

/-- D_pre and D_eff formed from a frame with these cells dominant (3, forming D_eff). -/
def demandOf (l : List Nat) : Nat × Nat :=
  let t := formDemand (cellsOf l) bay
  (t.stager.dPre, t.stager.dEff)

theorem test_demand_line : demandOf [0, 1, 2] = (3, 3) := by decide +kernel
theorem test_demand_high_float : demandOf [0, 1, 2, 26] = (5, 5) := by decide +kernel
theorem test_demand_tide : demandOf [0, 1, 2, 25] = (3, 3) := by decide +kernel
theorem test_demand_dry : demandOf [0, 1, 2, 8] = (3, 0) := by decide +kernel
theorem test_demand_high_float_dry : demandOf [0, 1, 2, 26, 8] = (5, 0) := by decide +kernel
theorem test_demand_all_stop : demandOf [0, 1, 2, 27] = (3, 0) := by decide +kernel

/-- 6.4, the spill rate of the example's heads. -/
def rateAt (h : Nat) : Nat × Bool := spillRate h cfg.spillHeads cfg.spillRates

theorem test_spill_usable : spillUsable cfg = true := by decide
theorem test_spill_40 : rateAt 40 = (24, false) := by decide
theorem test_spill_130 : rateAt 130 = (130, false) := by decide
theorem test_spill_250 : rateAt 250 = (347, false) := by decide
theorem test_spill_599 : rateAt 599 = (1267, false) := by decide
theorem test_spill_800 : rateAt 800 = (1960, true) := by decide
theorem test_spill_820 : rateAt 820 = (1960, true) := by decide

/-- 10: a blank memory of FFh is not good. -/
theorem test_blank_image : imageGood (List.replicate 256 0xFF#8) = false := by decide +kernel
/-- 10: Δb 120 is clamped to 160 from Δr 150, T_inrush 0 to 1. -/
theorem test_clamps : clamp (150 + 10) 2000 120 = 160 ∧ clamp 1 60 0 = 1 := by decide

/-- 8, one bay's queue: A7 waits, RAKE_JAM joins before it, A7/3 merges in its place. -/
def queueOf (l : List NoticeEntry) : State := withNotices (fun n => { n with queue := l }) bay
def shape (s : State) : List (Nat × Nat) := s.notices.queue.map fun x => (x.code, x.state)
theorem test_urgent_joins_before_routine :
    shape (handNotice (queueOf [newEntry .alarm 2 7 1 1 false]) (newEntry .alarm 2 9 1 1 true))
      = [(9, 1), (7, 1)] := by decide +kernel
theorem test_merge_in_place :
    shape (handNotice (queueOf [newEntry .alarm 2 9 1 1 true, newEntry .alarm 2 7 1 1 false])
      (newEntry .alarm 2 7 3 1 false)) = [(9, 1), (7, 3)] := by decide +kernel
/-- 8: from a queue of A8 urgent and 15 routine entries the oldest routine one, A7, goes. -/
def fullQueue : List NoticeEntry :=
  newEntry .alarm 2 8 2 1 true :: newEntry .alarm 2 7 0 1 false
    :: List.replicate 14 (newEntry .summary 2 6 0 0 false)
theorem test_full_queue : ((shape (handNotice (queueOf fullQueue) (newEntry .alarm 2 9 0 1 true))).take 3,
    (handNotice (queueOf fullQueue) (newEntry .alarm 2 9 0 1 true)).notices.lost)
      = ([(8, 2), (9, 0), (6, 0)], 1) := by decide +kernel

/-- The published check value of this CRC-16 (polynomial 1021h, FFFFh, no inversion): "123456789"
gives 29B1h. -/
theorem test_crc16 : crc16 ([49, 50, 51, 52, 53, 54, 55, 56, 57].map (BitVec.ofNat 8)) = 0x29B1 := by
  decide +kernel
/-- By hand: the body 1 gives the remainder of x^8, which is x^2 + x + 1; the body 2, x^3 + x^2 + x. -/
theorem test_crc8 : crc8 1 = 7 ∧ crc8 2 = 14 := by decide +kernel

/-- 11.1: kind 4 digits, subject 4, code 5, state 3, value 16. -/
theorem test_body : bodyOf (newEntry .alarm 2 9 1 3 true)
    = 0b00000010010010010000000000000011 := by decide
/-- 11.2: a POLL, sequence 3, to house 42: start, length 3, house, type, sequence, CRC. -/
theorem test_message_head : (houseMessage 42 1 3 []).take 5 = [0x5A#8, 3#8, 42#8, 1#8, 3#8] := by
  decide +kernel
theorem test_no_word : Sys2Proof.decodeTableWord 8 0 = none := by decide

/-! ### One step of each command -/

/-- A pump RUNNING, confirmed, past its inrush. -/
def running : State := withDuty (fun d => { d with
  pump := .running, contactor := true, confirmed := true, minRun := some 5999, contRun := 5999 }) joined

/-- A pump STARTING, its inrush and confirm timers running. -/
def starting : State := withDuty (fun d => { d with
  pump := .starting, contactor := true, inrush := some 0, confirm := some 0, minRun := some 0 }) joined

/-- A pump in HAND, closed. -/
def inHand : State := withDuty (fun d => { d with
  pump := .hand, mode := .hand, contactor := true }) (holding .modeHand bay)

/-- A pump FAULTED by THERMAL, its alarm not acknowledged. -/
def faulted : State := settle (withDuty (fun d => { d with pump := .faulted, causes := [.thermalTrip] })
  (holding .thermal bay))

/-- A frame that this station began, and its cells as driven. -/
def inFrame (s : State) : State := frameStart s
def driven (s : State) : Cells := (s.line.drive.map (·.cells)).getD 0

/-- A pump in START_WAIT, first of W, its supply quiet for 51 frames, in a frame it began. -/
def claiming : State := inFrame (withDuty (fun d => { d with
  pump := .startWait, supplyQuiet := 51, index := some 0, waiting := [2], dutyList := [2] })
  { joined with stager := { joined.stager with dEff := 1 } })

/-- In LINE_FAULT, its local call on, its fallback delay over. -/
def fallback : State := withDuty (fun d => { d with fallbackDelay := .expired, supplyInactive := 500 })
  (withLine (fun l => { l with mode := .lineFault })
    { bay with stager := { bay.stager with dEff := 3, localCall := true } })

/-- A rake in RK_RUN. -/
def raking (s : State) : State := withScreen (fun g => { g with
  rake := .run, motor := true, rakeRun := some 9000, rakeInrush := some 200 }) s

/-- An active reporter on a free port. -/
def reporting : State := withReporter (fun r => { r with mode := .active, lossPending := false }) joined

/-- The reporter with an answer, a record, a command. -/
def answer (k : AnswerKind) : Answer := ⟨k, 6, 3⟩
def rec1 : ReportRecord := ⟨.alarm, 2, 9, 1, 1, none, none⟩
def flying (n : Nat) : State := withReporter (fun r => { r with
  flight := some ⟨true, 5, n, some 500, false, true⟩, urgentQueue := [⟨rec1, true⟩]
  lossPending := true }) reporting

theorem test_reset : after .reset running = { State.reset with pending := [], free := 0 } := by
  decide +kernel
/-- R27: the fifth tick with a changed sample makes the change due; R26: the tick is counted. -/
theorem test_tick_fifth_change :
    inputState (after (.tick 0x7FEF#15 ⟨0#7, 0⟩) (withInput .highFloat ⟨false, 4, false⟩ bay)) .highFloat
      = ⟨false, 5, true⟩ := by decide +kernel
/-- R166: ADDR0 and ADDR1 tied low give address 3; an open WEIR_EN is not fitted. -/
theorem test_tick_straps :
    (after (.tick 0x7FFF#15 ⟨0b1000100#7, 0⟩) State.reset).straps = ⟨3, true, true, true, false⟩ := by
  decide +kernel
theorem test_input_accepted : isActive (after (.inputAcceptedChange .tideClosed) (pressing .tideClosed bay)) .tideClosed = true := by
  decide +kernel
/-- R66: RUN_CONFIRM while the confirm timer runs, the inrush timer expired. -/
theorem test_run_confirm : (after (.inputAcceptedChange .runConfirm) (pressing .runConfirm
    (withDuty (fun d => { d with inrush := none }) starting))).duty.pump = .running := by decide +kernel
theorem test_second_wraps_minute : (after .timeBaseSecond { running with
    time := ⟨59, 100, false⟩, duty := { running.duty with runSeconds := 59, runMinutes := 7 } }).duty.runMinutes
      = 8 := by decide +kernel
theorem test_second_hour : (after .timeBaseSecond { bay with time := ⟨3599, 100, false⟩ }).time.hourlyDue
    = true := by decide +kernel
theorem test_hourly_point : (after .hourlyPoint { bay with time := ⟨3600, 0, true⟩ }).notices.queue.map (·.code)
    = [0, 1, 2, 3, 4, 5, 6] := by decide +kernel
theorem test_clock_minute_day : (after .clockMinute (withReporter (fun r => { r with
    clock := some ⟨65535, 1439, 6000⟩ }) reporting)).reporter.clock = some ⟨0, 0, 0⟩ := by decide +kernel
theorem test_stamp_expiry : (after .startsWindowStampExpiry { bay with
    time := ⟨3700, 0, false⟩, duty := { bay.duty with window := [100, 101] } }).duty.window = [101] := by
  decide +kernel
/-- R170: a blank memory gives reduced mode. -/
def reading : State := { State.reset with
  loader := { Loader.reset with phase := .reading, busDriven := true } }
theorem test_read_blank :
    (after (.configReadComplete (List.replicate 256 0xFF#8)) reading).loader.reduced = true := by
  decide +kernel
/-- R169: the address not acknowledged; the loader waits, having sent one byte. -/
theorem test_attempt_fail : (after (.attemptFail (.noAcknowledge 0)) reading).loader.sent = [0xA0#8]
    ∧ (after (.attemptFail (.noAcknowledge 0)) reading).loader.wait = some 0 := by decide +kernel
theorem test_retry : (after (.retryWaitExpiry 0) { reading with
    loader := { reading.loader with wait := some 1 } }).loader.attempt = 2 := by decide +kernel
/-- A loader in CHECKING for a tick with an image's settings ready. -/
def checking : State := { State.reset with
  straps := ⟨2, true, true, true, false⟩
  loader := { Loader.reset with phase := .checking, ready := cfg, checkTicks := some 1 } }
theorem test_loader_finish : (after .loaderFinish checking).chanA.mode = .starting
    ∧ (after .loaderFinish checking).reporter.mode = .standby := by decide +kernel
/-- R173: an unusable table makes CONFIG active, and its notice is queued. -/
theorem test_loader_finish_config : (after .loaderFinish { checking with
    loader := { checking.loader with ready := { cfg with stopLevels := List.replicate 8 0 } } }).notices.queue
      = [newEntry .alarm 2 17 1 1 false] := by decide +kernel
/-- R5: bay 2's frame timer is 1000 + 6 cells. -/
theorem test_frame_timer : moves .frameTimerExpiry (withLine (fun l => { l with frameCells := 1005 }) joined) = false
    ∧ (after .frameTimerExpiry (withLine (fun l => { l with frameCells := 1006 }) joined)).line.due = true := by
  decide +kernel
theorem test_sync_drive : (after .syncDrive (withLine (fun l => { l with due := true }) joined)).line.driver
    = .driving := by decide +kernel
theorem test_third_sync_fails : (after .syncAttemptFail (withLine (fun l => { l with
    syncDriving := true, syncFail := 2 }) joined)).line.mode = .lineFault := by decide +kernel
/-- R11, R175: PRESENT, AVAILABLE and BEAT of bay 2 are cells 48, 50 and 55. -/
theorem test_leading_edge : [48, 49, 50, 51, 55].map (driven (after .syncLeadingEdge joined)).getLsbD
    = [true, false, true, false, true] := by decide +kernel
def telling : State := inFrame (withNotices (fun n => { n with queue := [newEntry .alarm 2 9 1 3 true] }) joined)
/-- R139: a won notice drives its body in cells 96 to 127, dominant for 0. -/
theorem test_notice_won : bodyField (driven (after (.noticeClaimWon 2#4) telling))
    = 0b00000010010010010000000000000011 := by decide +kernel
/-- R74: a won claim on clear cells starts the pump, stamped. -/
theorem test_frame_end_starts : (after (.goodFrameEnd 4 (driven claiming ||| cellsOf [0])) claiming).duty.pump
    = .starting := by decide +kernel
/-- R74: with INRUSH dominant it stays in START_WAIT. -/
theorem test_frame_end_inrush : (after (.goodFrameEnd 4 (driven claiming ||| cellsOf [0, 19])) claiming).duty.pump
    = .startWait := by decide +kernel
theorem test_bad_frame : (after (.badFrame 7) telling).line.receiver = .searching
    ∧ (after (.badFrame 7) telling).line.badFrames = 1 := by decide +kernel
theorem test_line_idle : (after (.lineIdle 10) (withLine (fun l => { l with recessiveRun := 0 }) joined)).line.recessiveRun
    = 10 := by decide +kernel
theorem test_in_step : moves (.receiverInStep 149) bay = false
    ∧ (after (.receiverInStep 150) bay).line.receiver = .outside := by decide +kernel
theorem test_dominant_cell : (after .dominantCellBeforeIdle (withLine (fun l => { l with recessiveRun := 9 }) joined)).line.receiver
    = .searching := by decide +kernel
theorem test_join : (after .join (withLine (fun l => { l with goodRun := 5 }) bay)).line.mode = .joined := by
  decide +kernel
theorem test_own_address : (after .ownAddressIsolate (withLine (fun l => { l with ownCount := 2 }) bay)).line.driver
    = .cut := by decide +kernel
theorem test_presence_fault : (after .presenceFault (withLine (fun l => { l with presenceFail := 3 }) running)).line.mode
    = .lineFault := by decide +kernel
theorem test_jabber : moves (.jabberTrip 160) joined = false
    ∧ (after (.jabberTrip 161) running).duty.pump = .lockedOff := by decide +kernel
theorem test_stuck : moves (.stuckCondition 160) joined = false
    ∧ (after (.stuckCondition 161) joined).line.mode = .lineFault := by decide +kernel
theorem test_stuck_clear : (after .stuckConditionClear (withLine (fun l => { l with
    mode := .lineFault, stuck := 161 }) bay)).line.stuck = 0 := by decide +kernel
theorem test_silence : (after .silenceTimerExpiry (withLine (fun l => { l with silenceCells := 3000 }) bay)).line.due
    = true := by decide +kernel
theorem test_frames_recover : (after .lineFaultFramesRecover (withLine (fun l => { l with faultGood := 10 })
    fallback)).line.mode = .listen := by decide +kernel
theorem test_quiet_recover : moves (.lineFaultQuietRecover 3000) fallback = false
    ∧ (after (.lineFaultQuietRecover 3000)
      (withLine (fun l => { l with quiet := 3000 }) fallback)).stager.localCall = false := by
  decide +kernel
theorem test_alone : (after .aloneDetect (withLine (fun l => { l with aloneCount := 10 }) joined)).line.alone
    = true := by decide +kernel
/-- The bay's entries: bay 2 and bay 5 fresh, bay 5 showing LEAD, bay 2 AVAILABLE. -/
def house : State := withDuty (fun d => { d with lead := some 5 }) (withLine (fun l => { l with
  peers := (List.replicate 8 PeerEntry.unheard).set 2
      { PeerEntry.unheard with heard := true, age := 0, available := true }
    |>.set 5 { PeerEntry.unheard with heard := true, age := 0, lead := true } }) joined)
theorem test_lead_handover : (after .leadUnusableHandover (withDuty (fun d => { d with leadUnusable := 50 })
    house)).duty.holdsLead = true := by decide +kernel
theorem test_no_lead : (after .noLeadTake (withDuty (fun d => { d with
    noLead := 3, lead := none, availableAtEnd := true }) house)).duty.holdsLead
    = true := by decide +kernel
theorem test_notice_drop : (after .noticeDrop (queueOf [{ newEntry .alarm 2 9 1 1 true with attempts := 8 }])).notices.lost
    = 1 := by decide +kernel
theorem test_set_inhibit : (after .commandSetInhibit (withNotices (fun n => { n with command := some 1 })
    running)).duty.pump = .outOfService := by decide +kernel
theorem test_clear_inhibit : (after .commandClearInhibit (withNotices (fun n => { n with command := some 2 })
    (withDuty (fun d => { d with inhibit := true, pump := .outOfService }) bay))).duty.pump = .idle := by
  decide +kernel
theorem test_other_code : (after .commandOtherCode (withNotices (fun n => { n with command := some 9 })
    bay)).notices.queue = [newEntry .commandResult 2 9 1 0 true] := by decide +kernel
def paired : State := withReporter (fun r => { r with
  pairing := r.pairing.set 0 (some ⟨1, 207, 20⟩) }) reporting
theorem test_pairing_timeout : (after (.pairingTimeout 0) paired).reporter.history
    = [⟨.overflowEvent, 0, 0, 1, 207, none, none⟩] := by decide +kernel
theorem test_hold_quiet : (after .holdQuietClaim (withReporter (fun r => { r with holdQuiet := 3 }) joined)).reporter.mode
    = .claiming := by decide +kernel
def at7 : State := withReporter (fun r => { r with openField := 6 })
  { joined with straps := { joined.straps with address := 7 } }
theorem test_open_field : (after .openFieldActive at7).reporter.mode = .active := by decide +kernel
def commanded : State := withReporter (fun r => { r with
  command := some ⟨4, 1, 4, 9, true, 20⟩ }) reporting
theorem test_command_timeout : (after .commandTimeout commanded).reporter.answers
    = [⟨.refused 4, 4, 9⟩] := by decide +kernel
/-- R45 to R49: the gate of row b reaches stage 3; the gate's 50 ticks are taken off. -/
theorem test_gate_end : (after .gateEnd { bay with
    gate := 51, chanA := { bay.chanA with count := 5501 } }).chanA.e = 2607
    ∧ (after .gateEnd { bay with gate := 51, chanA := { bay.chanA with count := 5501 } }).gate = 1 := by
  decide +kernel
theorem test_pulse_b : (after (.levelPulseEdge .b) bay).chanB.count = 1
    ∧ (after (.levelPulseEdge .b) bay).chanA.count = 0 := by decide +kernel
theorem test_min_off : (after .minOffExpiry (withDuty (fun d => { d with
    pump := .lockedOff, minOff := some 3000 }) bay)).duty.pump = .idle := by decide +kernel
theorem test_inrush_expiry : (after .inrushTimerExpiry (withDuty (fun d => { d with
    inrush := some 1000, confirm := none, confirmed := true }) starting)).duty.pump = .running := by
  decide +kernel
/-- 4, a start that fails: FAULTED, open, START_FAIL in the cause set and ACTIVE_UNACK. -/
theorem test_start_fail : (after .confirmTimerExpiry (withDuty (fun d => { d with confirm := some 500 })
    starting)).duty.causes = [.startFail]
    ∧ (recordOf (after .confirmTimerExpiry (withDuty (fun d => { d with confirm := some 500 })
      starting)) .startFail).state = .activeUnack := by decide +kernel
theorem test_run_lost : (after .runLossExpiry (withDuty (fun d => { d with runLoss := some 200 }) running)).duty.pump
    = .faulted := by decide +kernel
theorem test_maxrun : (after .maxrunReached (withDuty (fun d => { d with contRun := 360000 }) running)).duty.yielding
    = true := by decide +kernel
theorem test_changeover : (after .changeoverTimerExpiry (withDuty (fun d => { d with
    yielding := true, changeover := 12000 }) running)).duty.changeoverBlocked = true := by decide +kernel
/-- R77: yielding, W empty or not, this much counted. -/
def waitingRelief (counted : Nat) (w : List Nat) : State := withDuty (fun d => { d with
  yielding := true, changeover := counted, waiting := w }) running
/-- R26, R77: the timer counts at the tick, to 120 s, and not at the second; with W not empty it waits. -/
theorem test_changeover_counts :
    (after (.tick 0x7FFF#15 ⟨0#7, 0⟩) (waitingRelief 11999 [])).duty.changeover = 12000
    ∧ (after (.tick 0x7FFF#15 ⟨0#7, 0⟩) (waitingRelief 12000 [])).duty.changeover = 12000
    ∧ (after (.tick 0x7FFF#15 ⟨0#7, 0⟩) (waitingRelief 0 [5])).duty.changeover = 0
    ∧ (after .timeBaseSecond { waitingRelief 11900 [] with time := ⟨59, 100, false⟩ }).duty.changeover
      = 11900 ∧ moves .changeoverTimerExpiry (waitingRelief 11999 []) = false := by decide +kernel
def fallingBack : State := { running with
  line := { running.line with mode := .lineFault }, duty := { running.duty with minRun := some 6000 } }
theorem test_min_run : (after .minRunExpiry fallingBack).duty.pump = .lockedOff := by decide +kernel
/-- R86: address 2 waits 2 × (10 + 1) s. -/
theorem test_fallback_delay : moves .fallbackDelayExpiry (withDuty (fun d => { d with
    fallbackDelay := .running 2199 }) fallback) = false
    ∧ (after .fallbackDelayExpiry (withDuty (fun d => { d with
      fallbackDelay := .running 2200 }) fallback)).duty.fallbackDelay = .expired := by decide +kernel
theorem test_fallback_start : (after .fallbackStart fallback).duty.pump = .starting
    ∧ (after .fallbackStart fallback).duty.window = [0] := by decide +kernel
theorem test_switch_clear : (after .switchClearExpiry (withScreen (fun g => { g with
    sensing := some .switch, condition := .high, rake := .wait, switchClear := some 3000 }) bay)).screen.condition
      = .clear := by decide +kernel
theorem test_post_rake : (after .postRakeExpiry (withScreen (fun g => { g with
    sensing := some .switch, condition := .high, rake := .wait, postRake := some 3000 }) running)).duty.pump
      = .lockedOff := by decide +kernel
theorem test_high_alarm : (recordOf (after .highAlarmExpiry (withScreen (fun g => { g with
    condition := .high, rake := .wait, highAlarm := some 3000 }) bay)) .screenHigh).state
      = .activeUnack := by decide +kernel
/-- R96: in flush the interval is 10 minutes; the rake waits to run. -/
theorem test_interval : (after .intervalTimerExpiry (withScreen (fun g => { g with
    flush := true, interval := 60000 }) bay)).screen.rake = .wait := by decide +kernel
theorem test_rake_inrush : (after .rakeInrushExpiry (raking bay)).screen.rakeInrush = none := by decide +kernel
/-- 5, a jammed rake: the first jam rests, the second locks. -/
theorem test_first_jam : (after .rakeJam (raking bay)).screen.rake = .pause := by decide +kernel
theorem test_second_jam : (after .rakeJam (withScreen (fun g => { g with jams := 1 }) (raking bay))).screen.rake
    = .locked := by decide +kernel
theorem test_pause : (after .pauseTimerExpiry (withScreen (fun g => { g with
    rake := .pause, pause := some 3000, jams := 1 }) bay)).screen.rake = .wait := by decide +kernel
/-- 6, one event: OVERFLOW_START with value 70 at T_od. -/
def spilling : State := withOvf (fun o => { o with
  state := .pending, sourceActive := true, levelActive := true, head := 70, pending := some 3000 }) bay
theorem test_event_opens : ((after .pendingTimerExpiry spilling).notices.queue.filter
    (·.kind == .overflowStart)).map (·.value) = [70] := by decide +kernel
/-- 6, one event: volume 207, state 1 (incomplete), peak code 2, 22 minutes. -/
def tailing : State := withOvf (fun o => { o with
  state := .tail, tail := some 60000, peak := 250, accumulator := 415285, incomplete := true
  startStamp := 30, tailStamp := 1300 }) bay
theorem test_event_closes : ((after .tailTimerExpiry tailing).notices.queue.filter
    (·.kind != .alarm)).map (fun e => (e.code, e.state, e.value)) = [(0, 1, 207), (2, 0, 22)] := by
  decide +kernel
theorem test_pulse_end : (after (.pulseConditionEnd .rakeJam) { bay with
    alarms := { bay.alarms with rakeJam := some 100 } }).alarms.rakeJam = none := by decide +kernel
/-- 7, PANEL1: stretched 3 s; PANEL6: a pulse of 15 s. -/
theorem test_stretch : ((after (.stretchTimerExpiry 1) { bay with panel := { bay.panel with
    outputs := bay.panel.outputs.set 1 ⟨⟨5, false, .steady, 3⟩, false, some 300, none⟩ } }).panel.outputs.getD 1
      ⟨⟨0, false, .steady, 0⟩, false, none, none⟩).stretch = none := by decide +kernel
theorem test_pulse_timer : (after (.pulseTimerExpiry 6) { bay with panel := { bay.panel with
    outputs := bay.panel.outputs.set 6 ⟨⟨11, false, .pulse, 15⟩, false, none, some 1500⟩
    pins := 64 } }).panel.pins.getLsbD 6 = false := by decide +kernel
theorem test_invalid_length : (after (.townMessageInvalid [0x5A#8, 41#8]) reporting).reporter.badMessages
    = 1 := by decide +kernel
theorem test_gap : (after (.characterGapTimeout [0x5A#8, 3#8]) reporting).reporter.badMessages = 1 := by
  decide +kernel
/-- A message from town to house 42. -/
def town (type seq : Nat) (body : List Byte) : List Byte := houseMessage 42 type seq body
theorem test_poll : (after (.townPoll (town 1 3 [])) reporting).reporter.answers
    = [⟨.poll, 1, 3⟩] := by decide +kernel
theorem test_ack : (after (.townAck (town 2 5 [1#8])) (flying 0)).reporter.flight = none
    ∧ (after (.townAck (town 2 5 [1#8])) (flying 0)).alarms.ackTown = true := by decide +kernel
/-- R162: no record is held, so number 0 is newer than the newest and is refused with reason 5. -/
theorem test_dump_refused : (after (.townDump (town 3 6 [0#8, 0#8, 0#8])) reporting).reporter.answers
    = [⟨.refused 5, 3, 6⟩] := by decide +kernel
/-- R165: a COMMAND with code 1 for bay 2 itself joins the queue; for bay 4, not fresh, reason 3. -/
def freshBay : State := withLine (fun l => { l with peers := house.line.peers }) reporting
theorem test_inhibit : (after (.townInhibit (town 4 7 [5#8])) freshBay).notices.queue.map (fun e =>
    (e.kind, e.subject, e.code)) = [(.command, 5, 1)] := by decide +kernel
theorem test_release_not_fresh : (after (.townRelease (town 5 8 [4#8])) freshBay).reporter.answers
    = [⟨.refused 3, 5, 8⟩] := by decide +kernel
theorem test_clock : (after (.townClock (town 6 1 [0#8, 9#8, 5#8, 0x9F#8])) reporting).reporter.clock
    = some ⟨9, 1439, 0⟩ := by decide +kernel
theorem test_clock_refused : (after (.townClock (town 6 1 [0#8, 9#8, 5#8, 0xA0#8])) reporting).reporter.answers
    = [⟨.refused 6, 6, 1⟩] := by decide +kernel
theorem test_reporting : (after (.townReporting (town 7 2 [2#8, 0#8])) reporting).reporter.urgentEnable
    = false := by decide +kernel
theorem test_unknown : (after (.townUnknownType (town 9 4 [])) reporting).reporter.answers
    = [⟨.refused 1, 9, 4⟩] := by decide +kernel
theorem test_port_send : (after .portSend (withReporter (fun r => { r with
    answers := [answer .done] }) reporting)).reporter.message = houseMessage 42 0x85 3 [6#8] := by
  decide +kernel
theorem test_key_up : (after .keyUpDelayExpiry (withReporter (fun r => { r with port := .keyUp 10 })
    reporting)).reporter.port = .sending 0 := by decide +kernel
/-- R149: 8 characters at 2400 baud take 33.3 ms: three ticks can have passed. -/
def sending (n : Nat) : State := withReporter (fun r => { r with
  port := .sending n, message := houseMessage 42 0x85 3 [6#8] }) reporting
theorem test_transmit_end : moves .transmitEnd (sending 2) = false
    ∧ (after .transmitEnd (sending 3)).reporter.port = .idle := by decide +kernel
theorem test_ta_resend : (after .tAExpiry (flying 2)).reporter.flight
    = some ⟨true, 5, 3, none, true, true⟩ := by decide +kernel
theorem test_ta_down : (after .tAExpiry (flying 3)).reporter.linkUp = false := by decide +kernel
/-- R62: ALL_STOP opens a pump in HAND and leaves it there. -/
theorem test_hand_held : (after (.inputAcceptedChange .allStop) (pressing .allStop inHand)).duty.pump = .hand
    ∧ (after (.inputAcceptedChange .allStop) (pressing .allStop inHand)).duty.contactor = false := by
  decide +kernel
/-- An empty queue: a cell passes (log 2). -/
def stepped (s : State) : State :=
  match step s with
  | .next t => t
  | _ => s
theorem test_step_idle : (stepped bay).line.frameCells = 1 := by decide +kernel
theorem test_step_front : (stepped { bay with pending := [.levelPulseEdge .a, .gateEnd] }).pending
    = [.gateEnd] := by decide +kernel

/-! ### Witnesses: the hypotheses of each statement are met, clause by clause -/

/-- O1. -/
theorem witness_StepRunsFront : { bay with pending := [.gateEnd, .portSend] }.pending
    = .gateEnd :: [.portSend] ∧ bay.pending = [] := by decide +kernel

/-- O3. -/
theorem witness_IllFormedPassedOver : (Instr.badFrame 4).wellFormed = false := by decide

/-- O6. -/
theorem witness_TickAdvances : PumpSafe bay ∧ RakeSafe bay ∧ captured bay = true :=
  both (by decide +kernel) (by decide +kernel)

/-- O8: MODE_OFF closed, MODE_HAND closed alone, both open. -/
theorem witness_FirstTick : PumpSafe State.reset ∧ RakeSafe State.reset ∧ captured State.reset = false :=
  both (by decide +kernel) (by decide +kernel)
theorem witness_FirstTick_modes :
    isActive (after (.tick 0x7FBF#15 ⟨0#7, 0⟩) State.reset) .modeOff = true
    ∧ isActive (after (.tick 0x7FDF#15 ⟨0#7, 0⟩) State.reset) .modeHand = true
    ∧ isActive (after (.tick 0x7FDF#15 ⟨0#7, 0⟩) State.reset) .modeOff = false
    ∧ isActive (after (.tick 0x7FFF#15 ⟨0#7, 0⟩) State.reset) .modeHand = false := by decide +kernel

/-- O9, O10, O11: an input's change is due. -/
def inputDec (s : State) : Decidable (InputSafe s) := by unfold InputSafe; infer_instance
def modeDec (s : State) : Decidable (ModeSafe s) := by unfold ModeSafe; infer_instance
def inputBay (s : State) : Bool :=
  quietBay s && @decide _ (inputDec s) && @decide _ (modeDec s)
theorem allFour {s : State} {p : Prop} (h : inputBay s = true) (hp : p) :
    InputSafe s ∧ PumpSafe s ∧ ModeSafe s ∧ RakeSafe s ∧ p := by
  simp only [inputBay, quietBay, Bool.and_eq_true, decide_eq_true_eq] at h
  exact ⟨h.1.2, h.1.1.1, h.2, h.1.1.2, hp⟩
theorem witness_InputAccepted : InputSafe (pressing .ackBtn joined)
    ∧ PumpSafe (pressing .ackBtn joined) ∧ ModeSafe (pressing .ackBtn joined)
    ∧ RakeSafe (pressing .ackBtn joined) ∧ (inputState (pressing .ackBtn joined) .ackBtn).due = true
    ∧ isActive (pressing .ackBtn joined) .ackBtn = false ∧ loaded (pressing .ackBtn joined) = true
    ∧ (pressing .ackBtn joined).line.mode = .joined :=
  allFour (by decide +kernel) (by decide +kernel)
theorem witness_ThermalTrips : InputSafe (pressing .thermal running)
    ∧ PumpSafe (pressing .thermal running) ∧ ModeSafe (pressing .thermal running)
    ∧ RakeSafe (pressing .thermal running) ∧ (inputState (pressing .thermal running) .thermal).due = true
    ∧ isActive (pressing .thermal running) .thermal = false
    ∧ (pressing .thermal running).duty.contactor = true :=
  allFour (by decide +kernel) (by decide +kernel)
theorem witness_StopsAreTaken_running : InputSafe (pressing .allStop (raking running))
    ∧ PumpSafe (pressing .allStop (raking running)) ∧ ModeSafe (pressing .allStop (raking running))
    ∧ RakeSafe (pressing .allStop (raking running))
    ∧ (inputState (pressing .allStop (raking running)) .allStop).due = true
    ∧ isActive (pressing .allStop (raking running)) .allStop = false
    ∧ (pressing .allStop (raking running)).duty.pump = .running
    ∧ (pressing .allStop (raking running)).screen.rake = .run :=
  allFour (by decide +kernel) (by decide +kernel)
theorem witness_StopsAreTaken_hand : InputSafe (pressing .lowFloat inHand)
    ∧ PumpSafe (pressing .lowFloat inHand) ∧ ModeSafe (pressing .lowFloat inHand)
    ∧ RakeSafe (pressing .lowFloat inHand) ∧ (inputState (pressing .lowFloat inHand) .lowFloat).due = true
    ∧ isActive (pressing .lowFloat inHand) .lowFloat = false ∧ inHand.duty.pump = .hand :=
  allFour (by decide +kernel) (by decide +kernel)
theorem witness_StopsAreTaken_off : InputSafe (pressing .modeOff faulted)
    ∧ PumpSafe (pressing .modeOff faulted) ∧ ModeSafe (pressing .modeOff faulted)
    ∧ RakeSafe (pressing .modeOff faulted) ∧ (inputState (pressing .modeOff faulted) .modeOff).due = true
    ∧ isActive (pressing .modeOff faulted) .modeOff = false ∧ faulted.duty.pump = .faulted :=
  allFour (by decide +kernel) (by decide +kernel)

/-- O12, each at its limit. -/
def atSecond : State := { running with time := ⟨3599, 100, false⟩ }
theorem witness_TimeCounts_second : PumpSafe atSecond ∧ RakeSafe atSecond ∧ 100 ≤ atSecond.time.subTicks :=
  both (by decide +kernel) (by decide +kernel)
def atMinute : State := withReporter (fun r => { r with clock := some ⟨9, 1439, 6000⟩ }) reporting
theorem witness_TimeCounts_minute : PumpSafe atMinute ∧ RakeSafe atMinute
    ∧ atMinute.reporter.clock = some ⟨9, 1439, 6000⟩ ∧ 6000 ≤ 6000 :=
  both (by decide +kernel) (by decide +kernel)
def atStamp : State := { withDuty (fun d => { d with window := [100] }) bay with time := ⟨3700, 0, false⟩ }
theorem witness_TimeCounts_stamp : PumpSafe atStamp ∧ RakeSafe atStamp ∧ atStamp.duty.window = 100 :: []
    ∧ 3600 ≤ (atStamp.time.seconds - 100).toNat :=
  both (by decide +kernel) (by decide +kernel)

/-- O13. -/
def atHour : State := { bay with time := ⟨3600, 0, true⟩ }
theorem witness_HourlySummaries : PumpSafe atHour ∧ RakeSafe atHour ∧ atHour.time.hourlyDue = true :=
  both (by decide +kernel) (by decide +kernel)

/-- O14. -/
theorem witness_ImageRead_complete : PumpSafe reading ∧ RakeSafe reading ∧ reading.loader.phase = .reading
    ∧ reading.loader.wait = none ∧ reading.loader.sdaHeld = false
    ∧ (List.replicate 256 (0xFF#8)).length = 256 :=
  both (by decide +kernel) (by decide +kernel)
def fourth : State := { reading with loader := { reading.loader with attempt := 4, sdaHeld := true } }
/-- A stop that fails after a whole read, a repeated start that fails, SCL held in the second data byte. -/
theorem witness_ImageRead_first_attempt (cause : ReadFailure) (h : cause ∈ [.noAcknowledge 3,
      .busBusy (.reading (List.replicate 256 0xFF#8)), .busBusy (.sending 4),
      .stretchTooLong (.reading [0xFF#8])]) : PumpSafe reading ∧ RakeSafe reading
    ∧ reading.loader.phase = .reading ∧ reading.loader.wait = none ∧ reading.loader.attempt < 4
    ∧ reading.loader.sdaHeld = false ∧ readFailure cause = true :=
  both (by decide +kernel) ⟨by decide +kernel, by decide +kernel, by decide +kernel, by decide +kernel,
    (by decide +kernel : ∀ c ∈ ([.noAcknowledge 3, .busBusy (.reading (List.replicate 256 0xFF#8)),
      .busBusy (.sending 4), .stretchTooLong (.reading [0xFF#8])] : List ReadFailure),
      readFailure c = true) cause h⟩
theorem witness_ImageRead_fourth_attempt : PumpSafe fourth ∧ RakeSafe fourth
    ∧ fourth.loader.phase = .reading ∧ fourth.loader.wait = none ∧ 4 ≤ fourth.loader.attempt
    ∧ fourth.loader.sdaHeld = true ∧ readFailure (.busBusy (.sending 0)) = true
    ∧ readFailure (.stretchTooLong (.sending 0)) = true :=
  both (by decide +kernel) (by decide +kernel)
theorem witness_ImageRead_data : (List.replicate 256 0xFF#8 : List Byte).length ≤ 256
    ∧ ([] : List Byte).length ≤ 256 := by decide +kernel
def waitingOver : State := { reading with loader := { reading.loader with wait := some 1 } }
theorem witness_ImageRead_retry : PumpSafe waitingOver ∧ RakeSafe waitingOver
    ∧ waitingOver.loader.phase = .reading ∧ waitingOver.loader.wait = some 1 ∧ 1 ≤ 1 :=
  both (by decide +kernel) (by decide +kernel)

/-- O15, with a pump in HAND, and with THERMAL active. -/
def checkingHand : State := withDuty (fun d => { d with pump := .hand, mode := .hand })
  (holding .modeHand checking)
theorem witness_LoaderFinishes_hand : PumpSafe checkingHand ∧ RakeSafe checkingHand
    ∧ checkingHand.loader.phase = .checking ∧ checkingHand.loader.checkTicks = some 1 ∧ 1 ≤ 1
    ∧ checkingHand.duty.pump = .hand ∧ stopHold checkingHand = false :=
  both (by decide +kernel) (by decide +kernel)
theorem witness_LoaderFinishes_thermal : PumpSafe (holding .thermal checking)
    ∧ RakeSafe (holding .thermal checking) ∧ (holding .thermal checking).loader.phase = .checking
    ∧ (holding .thermal checking).loader.checkTicks = some 1
    ∧ isActive (holding .thermal checking) .thermal = true :=
  both (by decide +kernel) (by decide +kernel)

/-- O16, O17, O18. -/
def framed (f : Line → Line) : State := withLine f joined
theorem witness_OwnSync_timer : PumpSafe (framed fun l => { l with frameCells := 1006 })
    ∧ RakeSafe (framed fun l => { l with frameCells := 1006 })
    ∧ captured (framed fun l => { l with frameCells := 1006 }) = true
    ∧ (framed fun l => { l with frameCells := 1006 }).line.frameExpired = false
    ∧ 1000 + 3 * ownAddress (framed fun l => { l with frameCells := 1006 }) ≤ 1006 :=
  both (by decide +kernel) (by decide +kernel)
def dueBay : State := framed fun l => { l with due := true }
theorem witness_OwnSync_drive : PumpSafe dueBay ∧ RakeSafe dueBay ∧ dueBay.line.mode = .joined
    ∧ dueBay.line.due = true ∧ dueBay.line.receiver = .outside ∧ 10 ≤ dueBay.line.recessiveRun
    ∧ dueBay.line.syncDriving = false := both (by decide +kernel) (by decide +kernel)
def drivingSync (n : Nat) : State := framed fun l => { l with syncDriving := true, syncFail := n }
theorem witness_OwnSync_fail : PumpSafe (drivingSync 1) ∧ RakeSafe (drivingSync 1)
    ∧ (drivingSync 1).line.syncDriving = true ∧ (drivingSync 1).line.syncFail < 2 :=
  both (by decide +kernel) (by decide +kernel)
def listening : State := withLine (fun l => { l with receiver := .outside, recessiveRun := 10 }) bay
theorem witness_FrameTaken : PumpSafe listening ∧ RakeSafe listening
    ∧ listening.line.receiver = .outside ∧ 10 ≤ listening.line.recessiveRun
    ∧ listening.line.mode ≠ .joined := both (by decide +kernel) (by decide +kernel)
def claimant : State := withNotices (fun n => { n with queue := [newEntry .alarm 2 9 1 3 true] }) joined
theorem witness_FrameDriven : PumpSafe claimant ∧ RakeSafe claimant
    ∧ claimant.line.receiver = .outside ∧ 10 ≤ claimant.line.recessiveRun
    ∧ claimant.line.mode = .joined ∧ contendingHead claimant = some (newEntry .alarm 2 9 1 3 true) :=
  both (by decide +kernel) (by decide +kernel)

/-- O19. -/
theorem witness_NoticeDriven : ∃ d, PumpSafe telling ∧ RakeSafe telling
    ∧ telling.line.receiver = .inside ∧ telling.line.noticeWon = false ∧ telling.line.drive = some d
    ∧ d.noticeKey = some (2#4).toNat :=
  ⟨_, both (by decide +kernel) ⟨by decide +kernel, by decide +kernel, rfl, by decide +kernel⟩⟩

/-- O20, O21: inside a frame, JOINED with a drive, in LISTEN and in LINE_FAULT. -/
def listenFrame : State := withLine (fun l => { l with receiver := .inside }) bay
def faultFrame : State := withLine (fun l => { l with receiver := .inside, mode := .lineFault }) bay
theorem witness_FrameUpdatesPeers : telling.line.receiver = .inside ∧ telling.line.mode = .joined
    ∧ telling.line.drive.isSome = true := by decide +kernel
theorem witness_FrameUpdatesPeers_listen : listenFrame.line.receiver = .inside
    ∧ listenFrame.line.mode ≠ .joined ∧ 4 ≤ 6 ∧ 6 ≤ 6 := by decide +kernel
theorem witness_FrameFormsDemand : listenFrame.line.receiver = .inside ∧ loaded listenFrame = true
    ∧ listenFrame.line.mode ≠ .lineFault := by decide +kernel
theorem witness_FrameFormsDemand_fault : faultFrame.line.receiver = .inside ∧ loaded faultFrame = true
    ∧ faultFrame.line.mode = .lineFault ∧ 4 ≤ 4 ∧ 4 ≤ 6 := by decide +kernel

/-- O22, at run lengths 1, 3 and 7, with a notice in flight. -/
theorem witness_BadFrameCounted : ∃ d, PumpSafe telling ∧ RakeSafe telling
    ∧ telling.line.receiver = .inside ∧ (1 ≤ 1 ∧ 3 ≤ 3 ∨ 7 = 7)
    ∧ telling.line.drive = some d ∧ d.noticeKey ≠ none :=
  ⟨_, both (by decide +kernel) ⟨by decide +kernel, by decide, rfl, by decide +kernel⟩⟩

/-- O23. -/
theorem witness_LineConditions_idle : PumpSafe joined ∧ RakeSafe joined
    ∧ joined.line.receiver = .outside ∧ 10 ≤ 10 := both (by decide +kernel) (by decide +kernel)
theorem witness_LineConditions_step : PumpSafe bay ∧ RakeSafe bay ∧ captured bay = true
    ∧ bay.line.receiver = .searching ∧ 150 ≤ 150 := both (by decide +kernel) (by decide +kernel)
def before10 : State := framed fun l => { l with recessiveRun := 9 }
theorem witness_LineConditions_dominant : PumpSafe before10 ∧ RakeSafe before10
    ∧ captured before10 = true ∧ before10.line.receiver = .outside ∧ before10.line.recessiveRun < 10 :=
  both (by decide +kernel) (by decide +kernel)
def joining : State := withLine (fun l => { l with goodRun := 5, silenceCells := 3000 }) bay
theorem witness_LineConditions_join : PumpSafe joining ∧ RakeSafe joining
    ∧ joining.line.mode = .listen ∧ 5 ≤ joining.line.goodRun ∧ captured joining = true
    ∧ 3000 ≤ joining.line.silenceCells := both (by decide +kernel) (by decide +kernel)

/-- O24, O25: safe states that isolate or fault. -/
def idleDec (r : Reporter) : Decidable (ReporterIdle r) := by unfold ReporterIdle; infer_instance
def flightDec (r : Reporter) : Decidable (FlightSafe r) := by
  unfold FlightSafe; split <;> infer_instance
def dumpDec (d : DumpContext) : Decidable (DumpSafe d) := by unfold DumpSafe; infer_instance
def reporterDec (s : State) : Decidable (ReporterSafe s) := by
  unfold ReporterSafe
  haveI := idleDec; haveI := flightDec; haveI := dumpDec
  infer_instance
def lineBay (s : State) : Bool := @decide _ (lineDec s) && @decide _ (reporterDec s)
theorem lines {s : State} {p : Prop} (h : lineBay s = true) (hp : p) : LineSafe s ∧ ReporterSafe s ∧ p := by
  simp only [lineBay, Bool.and_eq_true, decide_eq_true_eq] at h
  exact ⟨h.1, h.2, hp⟩
def seen : State := withLine (fun l => { l with ownCount := 2 }) bay
theorem witness_Isolates_address : LineSafe seen ∧ ReporterSafe seen ∧ seen.line.mode = .listen
    ∧ 2 ≤ seen.line.ownCount := lines (by decide +kernel) (by decide +kernel)
theorem witness_Isolates_jabber : LineSafe running ∧ ReporterSafe running ∧ 160 < 161
    ∧ captured running = true ∧ running.line.mode ≠ .isolated := lines (by decide +kernel) (by decide +kernel)
def unheardBay : State := withLine (fun l => { l with presenceFail := 3 }) running
theorem witness_LineFaults_presence : LineSafe unheardBay ∧ ReporterSafe unheardBay
    ∧ loaded unheardBay = true ∧ unheardBay.line.mode = .joined ∧ 3 ≤ unheardBay.line.presenceFail :=
  lines (by decide +kernel) (by decide +kernel)
theorem witness_LineFaults_sync : LineSafe (drivingSync 2) ∧ ReporterSafe (drivingSync 2)
    ∧ loaded (drivingSync 2) = true ∧ (drivingSync 2).line.syncDriving = true
    ∧ 2 ≤ (drivingSync 2).line.syncFail := lines (by decide +kernel) (by decide +kernel)
theorem witness_LineFaults_stuck : LineSafe running ∧ ReporterSafe running ∧ loaded running = true
    ∧ 160 < 161 ∧ running.line.stuck ≤ 160 ∧ running.line.mode = .joined :=
  lines (by decide +kernel) (by decide +kernel)

/-- O26. -/
def stuckBay : State := withLine (fun l => { l with mode := .lineFault, stuck := 161, faultGood := 10 }) bay
theorem witness_LineRecovers_clear : PumpSafe stuckBay ∧ RakeSafe stuckBay ∧ 160 < stuckBay.line.stuck :=
  both (by decide +kernel) (by decide +kernel)
theorem witness_LineRecovers_frames : stuckBay.line.mode = .lineFault ∧ 10 ≤ stuckBay.line.faultGood := by
  decide +kernel
def quietFault : State := withLine (fun l => { l with quiet := 3000 }) fallback
theorem witness_LineRecovers_quiet : quietFault.line.mode = .lineFault ∧ 3000 ≤ 3000
    ∧ 3000 ≤ quietFault.line.quiet ∧ quietFault.line.stuck ≤ 160
    ∧ quietFault.line.receiver ≠ .inside := by decide +kernel

/-- O27. -/
def aloneBay : State := framed fun l => { l with aloneCount := 10 }
theorem witness_LeadAndAlone_alone : PumpSafe aloneBay ∧ RakeSafe aloneBay
    ∧ aloneBay.line.mode = .joined ∧ 10 ≤ aloneBay.line.aloneCount :=
  both (by decide +kernel) (by decide +kernel)
def leaderless : State := withDuty (fun d => { d with
  noLead := 3, lead := none, availableAtEnd := true }) house
theorem witness_LeadAndAlone_take : PumpSafe leaderless ∧ RakeSafe leaderless
    ∧ leaderless.line.mode = .joined ∧ 3 ≤ leaderless.duty.noLead ∧ leaderless.duty.availableAtEnd = true
    ∧ freshAt leaderless (ownAddress leaderless) = true
    ∧ (peer leaderless (ownAddress leaderless)).available = true
    ∧ (∀ a < ownAddress leaderless,
        ¬(freshAt leaderless a = true ∧ (peer leaderless a).available = true)) :=
  both (by decide +kernel) (by decide +kernel)
def unusableLead : State := withDuty (fun d => { d with leadUnusable := 50 }) house
theorem witness_LeadAndAlone_handover : PumpSafe unusableLead ∧ RakeSafe unusableLead
    ∧ unusableLead.line.mode = .joined ∧ 50 ≤ unusableLead.duty.leadUnusable
    ∧ nextLead unusableLead = some 2 := both (by decide +kernel) (by decide +kernel)

/-- O28: a waiting ALARM, room, a full queue whose victim is routine, and one all urgent. -/
def entry (urgent : Bool) (code : Nat) : NoticeEntry := newEntry .summary 2 code 0 0 urgent
theorem witness_NoticeHanded_merge : (newEntry .alarm 2 7 3 1 false).kind = .alarm
    ∧ (queueOf [newEntry .alarm 2 7 1 1 false]).notices.queue.any (fun x => x.kind == .alarm
      && x.code == 7 && !x.inFlight && decide (x.attempts < 8)) = true := by decide +kernel
theorem witness_NoticeHanded_room : mergeable (queueOf [entry true 1, entry false 2]).notices.queue
      (entry true 3) = false
    ∧ (queueOf [entry true 1, entry false 2]).notices.queue = [entry true 1] ++ [entry false 2]
    ∧ [entry true 1].all (·.urgent) = true ∧ [entry false 2].all (!·.urgent) = true
    ∧ (queueOf [entry true 1, entry false 2]).notices.queue.length < 16 := by decide +kernel
def sixteen : State := queueOf (entry true 1 :: entry false 2 :: List.replicate 14 (entry false 3))
theorem witness_NoticeHanded_routine : mergeable sixteen.notices.queue (entry true 4) = false
    ∧ sixteen.notices.queue.length = 16
    ∧ sixteen.notices.queue = [entry true 1] ++ entry false 2 :: List.replicate 14 (entry false 3)
    ∧ (entry false 2).inFlight = false ∧ (entry false 2).forContext = false
    ∧ [entry true 1].all (fun x => x.urgent || x.inFlight) = true := by decide +kernel
def allUrgent : State := queueOf ({ entry true 1 with inFlight := true } :: entry true 2
  :: List.replicate 14 (entry true 3))
theorem witness_NoticeHanded_urgent : mergeable allUrgent.notices.queue (entry true 4) = false
    ∧ allUrgent.notices.queue.length = 16
    ∧ allUrgent.notices.queue = [{ entry true 1 with inFlight := true }] ++ entry true 2
      :: List.replicate 14 (entry true 3)
    ∧ (entry true 2).inFlight = false ∧ (entry true 2).forContext = false
    ∧ [{ entry true 1 with inFlight := true }].all (·.inFlight) = true
    ∧ (List.replicate 14 (entry true 3)).all (fun x => x.urgent || x.inFlight) = true := by decide +kernel

/-- O29, O30, O31, O32. -/
def spentBay (mine : Bool) : State := withReporter (fun r => { r with
    command := if mine then some ⟨4, 1, 4, 9, false, 0⟩ else none })
  (withNotices (fun n => { n with queue := [entry true 1,
    { newEntry .command 4 1 0 0 true with attempts := 8, forContext := mine }] }) reporting)
theorem witness_NoticeDropped (mine : Bool) : PumpSafe (spentBay mine) ∧ RakeSafe (spentBay mine)
    ∧ (spentBay mine).notices.queue = [entry true 1]
      ++ { newEntry .command 4 1 0 0 true with attempts := 8, forContext := mine } :: []
    ∧ [entry true 1].any spent = false := by
  cases mine
  · exact both (by decide +kernel) (by decide +kernel)
  · exact both (by decide +kernel) (by decide +kernel)
theorem witness_NoticeDropped_command :
    (spentBay true).reporter.command = some ⟨4, 1, 4, 9, false, 0⟩ := by decide +kernel
def told (code : Nat) (s : State) : State := withNotices (fun n => { n with command := some code }) s
def inhibited : State := withDuty (fun d => { d with inhibit := true, pump := .outOfService }) bay
theorem witness_CommandsApplied_set : InputSafe (told 1 running) ∧ PumpSafe (told 1 running)
    ∧ ModeSafe (told 1 running) ∧ RakeSafe (told 1 running) ∧ (told 1 running).notices.command = some 1 :=
  allFour (by decide +kernel) (by decide +kernel)
theorem witness_CommandsApplied_set_again : InputSafe (told 1 inhibited) ∧ PumpSafe (told 1 inhibited)
    ∧ ModeSafe (told 1 inhibited) ∧ RakeSafe (told 1 inhibited)
    ∧ (told 1 inhibited).notices.command = some 1 ∧ inhibited.duty.inhibit = true
    ∧ inhibited.duty.mode = .auto := allFour (by decide +kernel) (by decide +kernel)
theorem witness_CommandsApplied_clear : InputSafe (told 2 inhibited) ∧ PumpSafe (told 2 inhibited)
    ∧ ModeSafe (told 2 inhibited) ∧ RakeSafe (told 2 inhibited)
    ∧ (told 2 inhibited).notices.command = some 2 := allFour (by decide +kernel) (by decide +kernel)
theorem witness_CommandsApplied_clear_again : InputSafe (told 2 bay) ∧ PumpSafe (told 2 bay)
    ∧ ModeSafe (told 2 bay) ∧ RakeSafe (told 2 bay) ∧ (told 2 bay).notices.command = some 2
    ∧ bay.duty.inhibit = false ∧ bay.duty.pump ≠ .outOfService := allFour (by decide +kernel) (by decide +kernel)
theorem witness_CommandsApplied_other : PumpSafe (told 0 bay) ∧ RakeSafe (told 0 bay)
    ∧ (told 0 bay).notices.command = some 0 ∧ 0 ≠ 1 ∧ 0 ≠ 2 := both (by decide +kernel) (by decide +kernel)
theorem witness_ReporterTimeouts_pairing : waitingEndOf paired 0 = some ⟨1, 207, 20⟩ ∧ 20 ≤ 20
    ∧ paired.reporter.mode = .active ∧ paired.reporter.urgentQueue.length < 16 := by decide +kernel
theorem witness_ReporterTimeouts_standby :
    waitingEndOf (withReporter (fun r => { r with mode := .standby }) paired) 0 = some ⟨1, 207, 20⟩
    ∧ (withReporter (fun r => { r with mode := .standby }) paired).reporter.mode ≠ .active := by decide +kernel
theorem witness_ReporterTimeouts_command : PumpSafe commanded ∧ RakeSafe commanded
    ∧ commanded.reporter.command = some ⟨4, 1, 4, 9, true, 20⟩ ∧ 20 ≤ 20 :=
  both (by decide +kernel) (by decide +kernel)
def quietHold : State := withReporter (fun r => { r with holdQuiet := 3 }) joined
theorem witness_RoleTaken_claim : PumpSafe quietHold ∧ RakeSafe quietHold
    ∧ quietHold.reporter.mode = .standby ∧ quietHold.line.mode = .joined ∧ ownAddress quietHold ≠ 7
    ∧ 3 ≤ quietHold.reporter.holdQuiet := both (by decide +kernel) (by decide +kernel)
theorem witness_RoleTaken_open : at7.reporter.mode = .standby ∧ at7.line.mode = .joined
    ∧ ownAddress at7 = 7 ∧ 6 ≤ at7.reporter.openField := by decide +kernel

/-- O33, each row at its ends; O34, each state; O36 and O37 on the example's table. -/
theorem witness_LevelOfCount : cfg.calA.z < cfg.calA.f
    ∧ cfg.calA.f + (cfg.calA.f - cfg.calA.z) / 4 < 12001
    ∧ 0 < 1 ∧ 2000 ≤ cfg.calA.z ∧ cfg.calA.f ≤ 10000
    ∧ 12000 ≤ cfg.calA.f + (cfg.calA.f - cfg.calA.z) / 4
    ∧ cfg.calA.z < 2001 ∧ 9999 < cfg.calA.f := by decide
theorem witness_ChannelAtGate_good : classify cfg.calA (probe .healthy 2607 5520 0 0).count = some 2640
    ∧ (probe .healthy 2607 5520 0 0).mode = .healthy := by decide
theorem witness_ChannelAtGate_first : classify cfg.calA (probe .starting 0 5680 0 0).count = some 2760
    ∧ (probe .starting 0 5680 0 0).mode = .starting := by decide
theorem witness_ChannelAtGate_third : classify cfg.calA (probe .faulted 0 5680 3 2).count = some 2760
    ∧ (probe .faulted 0 5680 3 2).mode = .faulted ∧ 2 ≤ (probe .faulted 0 5680 3 2).goodRun := by decide
theorem witness_ChannelAtGate_bad : classify cfg.calA (probe .suspect 2625 12400 2 0).count = none
    ∧ (probe .suspect 2625 12400 2 0).mode = .suspect ∧ (probe .suspect 2625 12400 2 0).badRun = 2 := by
  decide
theorem witness_GateTaken_pulse : PumpSafe bay ∧ RakeSafe bay ∧ loaded bay = true := both (by decide +kernel) (by decide +kernel)
def gated (mode : ChannelMode) (count bad good : Nat) : State := { bay with
  gate := 50, chanA := { bay.chanA with mode := mode, count := count, badRun := bad, goodRun := good } }
theorem witness_GateTaken_gates : loaded (gated .healthy 5501 0 0) = true
    ∧ 50 ≤ (gated .healthy 5501 0 0).gate ∧ (gated .healthy 5501 0 0).stager.usable = true
    ∧ (gateChannel cfg.calA 4 (gated .healthy 5501 0 0).chanA).mode = .healthy
    ∧ (gateChannel cfg.calA 4 (gated .healthy 0 0 0).chanA).mode = .suspect
    ∧ (gateChannel cfg.calA 4 (gated .suspect 0 2 0).chanA).mode = .faulted
    ∧ (gateChannel cfg.calA 4 (gated .faulted 5501 3 2).chanA).mode = .healthy := by decide +kernel
theorem witness_StageSteps_up : 2 < 3 ∧ 3 ≤ cfg.stageCount ∧ adjustedStart cfg false 3 ≤ 3100
    ∧ 3100 < adjustedStart cfg false 4 := by decide
theorem witness_StageSteps_down : 2460 < adjustedStart cfg false 4 ∧ 2700 ≤ stopLevel cfg 4
    ∧ stopLevel cfg 3 < 2700 ∧ 1190 ≤ stopLevel cfg 1 := by decide
theorem witness_TideStartLevels : tableUsable cfg = true ∧ 1 ≤ 1 ∧ 4 ≤ cfg.stageCount
    ∧ stopLevel cfg 4 < 2701 := by decide

/-- O38 to O41, at the limits of the timers. -/
def offOver (p : PumpState) : State := withDuty (fun d => { d with pump := p, minOff := some 3000 }) bay
theorem witness_OffAndInrush_off : PumpSafe (offOver .lockedOff) ∧ RakeSafe (offOver .lockedOff)
    ∧ (offOver .lockedOff).duty.minOff = some 3000 ∧ (offOver .lockedOff).cfg.tMinOff * 100 ≤ 3000
    ∧ (offOver .lockedOff).duty.pump = .lockedOff ∧ loaded (offOver .lockedOff) = true :=
  both (by decide +kernel) (by decide +kernel)
theorem witness_OffAndInrush_other : PumpSafe (offOver .outOfService) ∧ RakeSafe (offOver .outOfService)
    ∧ (offOver .outOfService).duty.minOff = some 3000
    ∧ ¬((offOver .outOfService).duty.pump = .lockedOff) := both (by decide +kernel) (by decide +kernel)
def inrushOver (c : Bool) : State := withDuty (fun d => { d with
  inrush := some 1000, confirm := none, confirmed := c }) starting
theorem witness_OffAndInrush_confirmed : PumpSafe (inrushOver true) ∧ RakeSafe (inrushOver true)
    ∧ (inrushOver true).duty.inrush = some 1000 ∧ (inrushOver true).cfg.tInrush * 100 ≤ 1000
    ∧ (inrushOver true).duty.pump = .starting ∧ (inrushOver true).duty.confirmed = true :=
  both (by decide +kernel) (by decide +kernel)
theorem witness_OffAndInrush_unconfirmed : PumpSafe (inrushOver false) ∧ RakeSafe (inrushOver false)
    ∧ (inrushOver false).duty.inrush = some 1000 ∧ (inrushOver false).duty.confirmed = false :=
  both (by decide +kernel) (by decide +kernel)
def unconfirmed : State := withDuty (fun d => { d with confirm := some 500 }) starting
theorem witness_StartFailsRunLost_start : PumpSafe unconfirmed ∧ RakeSafe unconfirmed
    ∧ unconfirmed.duty.confirm = some 500 ∧ unconfirmed.cfg.tConfirm * 100 ≤ 500 :=
  both (by decide +kernel) (by decide +kernel)
def lost : State := withDuty (fun d => { d with runLoss := some 200 }) running
theorem witness_StartFailsRunLost_run : PumpSafe lost ∧ RakeSafe lost ∧ lost.duty.runLoss = some 200
    ∧ 200 ≤ 200 := both (by decide +kernel) (by decide +kernel)
def longRun : State := withDuty (fun d => { d with contRun := 360000 }) running
theorem witness_RunTimers_maxrun : PumpSafe longRun ∧ RakeSafe longRun ∧ longRun.duty.pump = .running
    ∧ 0 < longRun.cfg.tMaxRun ∧ longRun.cfg.tMaxRun * 6000 ≤ longRun.duty.contRun :=
  both (by decide +kernel) (by decide +kernel)
def relieved : State := withDuty (fun d => { d with yielding := true, changeover := 12000 }) running
theorem witness_RunTimers_changeover : PumpSafe relieved ∧ RakeSafe relieved
    ∧ relieved.duty.yielding = true ∧ 12000 ≤ relieved.duty.changeover :=
  both (by decide +kernel) (by decide +kernel)
theorem witness_RunTimers_fallback : PumpSafe fallingBack ∧ RakeSafe fallingBack
    ∧ fallingBack.duty.minRun = some 6000 ∧ fallingBack.cfg.tMinRun * 100 ≤ 6000
    ∧ fallingBack.line.mode = .lineFault ∧ fallingBack.duty.pump = .running
    ∧ fallingBack.stager.localCall = false := both (by decide +kernel) (by decide +kernel)
def runOver : State := withDuty (fun d => { d with minRun := some 6000 }) running
theorem witness_RunTimers_joined : PumpSafe runOver ∧ RakeSafe runOver ∧ runOver.duty.minRun = some 6000
    ∧ ¬(runOver.line.mode = .lineFault) := both (by decide +kernel) (by decide +kernel)
def delayOver : State := withDuty (fun d => { d with fallbackDelay := .running 2200 }) fallback
theorem witness_RunTimers_delay : PumpSafe delayOver ∧ RakeSafe delayOver
    ∧ delayOver.duty.fallbackDelay = .running 2200
    ∧ ownAddress delayOver * ((delayOver.cfg.tInrush + 1) * 100) ≤ 2200 :=
  both (by decide +kernel) (by decide +kernel)
theorem witness_FallbackStarts : PumpSafe fallback ∧ RakeSafe fallback
    ∧ fallback.line.mode = .lineFault ∧ fallback.duty.pump = .idle ∧ fallback.stager.localCall = true
    ∧ fallback.duty.fallbackDelay = .expired ∧ 500 ≤ fallback.duty.supplyInactive
    ∧ isActive fallback .allStop = false ∧ isActive fallback .lowFloat = false
    ∧ isActive fallback .thermal = false ∧ fallback.screen.condition ≠ .blocked
    ∧ (fallback.cfg.startsPerHour = 0 ∨ fallback.duty.window.length < fallback.cfg.startsPerHour)
    ∧ fallback.duty.inhibit = false
    ∧ (fallback.cfg.moisturePolicy = 0 ∨ isActive fallback .moisture = false) :=
  both (by decide +kernel) (by decide +kernel)

/-- O42, O43. -/
def judged (c : ScreenCondition) : State := withScreen (fun g => { g with
  sensing := some .switch, condition := c, rake := if c = .high then .wait else .idle
  switchClear := some 3000, postRake := some 3000, highAlarm := some 3000 }) running
theorem witness_ScreenTimers_high : PumpSafe (judged .high) ∧ RakeSafe (judged .high)
    ∧ (judged .high).screen.switchClear = some 3000 ∧ (judged .high).screen.postRake = some 3000
    ∧ (judged .high).screen.highAlarm = some 3000 ∧ (judged .high).cfg.dwell * 100 ≤ 3000
    ∧ (judged .high).screen.condition = .high := both (by decide +kernel) (by decide +kernel)
theorem witness_ScreenTimers_clear : PumpSafe (judged .clear) ∧ RakeSafe (judged .clear)
    ∧ (judged .clear).screen.switchClear = some 3000 ∧ (judged .clear).screen.postRake = some 3000
    ∧ (judged .clear).screen.condition = .clear := both (by decide +kernel) (by decide +kernel)
def flushing : State := withScreen (fun g => { g with flush := true, interval := 60000 }) bay
theorem witness_ScreenTimers_flush : PumpSafe flushing ∧ RakeSafe flushing
    ∧ flushing.screen.intervalDue = false ∧ 60000 = (if flushing.screen.flush ∧ 0 < flushing.cfg.flushInterval
      then flushing.cfg.flushInterval * 6000 else flushing.cfg.rakeInterval * 6000)
    ∧ 60000 ≤ flushing.screen.interval := both (by decide +kernel) (by decide +kernel)
def jammed (n : Nat) (sensing : SensingMode) : State := withScreen (fun g => { g with
    jams := n, sensing := some sensing, delta := 150 }) (raking (holding .screenSw running))
theorem witness_RakeTimers_inrush : PumpSafe (jammed 0 .diff) ∧ RakeSafe (jammed 0 .diff)
    ∧ (jammed 0 .diff).screen.rakeInrush = some 200 ∧ 200 ≤ 200 := both (by decide +kernel) (by decide +kernel)
theorem witness_RakeTimers_first : PumpSafe (jammed 0 .diff) ∧ RakeSafe (jammed 0 .diff)
    ∧ (jammed 0 .diff).screen.rakeRun = some 9000 ∧ (jammed 0 .diff).cfg.tRake * 100 ≤ 9000
    ∧ (jammed 0 .diff).screen.jams = 0 := both (by decide +kernel) (by decide +kernel)
theorem witness_RakeTimers_second_diff : PumpSafe (jammed 1 .diff) ∧ RakeSafe (jammed 1 .diff)
    ∧ (jammed 1 .diff).screen.rakeRun = some 9000 ∧ (jammed 1 .diff).screen.jams = 1
    ∧ (jammed 1 .diff).screen.sensing = some .diff
    ∧ (jammed 1 .diff).cfg.deltaR ≤ (jammed 1 .diff).screen.delta := both (by decide +kernel) (by decide +kernel)
theorem witness_RakeTimers_second_switch : PumpSafe (jammed 1 .switch) ∧ RakeSafe (jammed 1 .switch)
    ∧ (jammed 1 .switch).screen.rakeRun = some 9000 ∧ (jammed 1 .switch).screen.jams = 1
    ∧ (jammed 1 .switch).screen.sensing = some .switch
    ∧ isActive (jammed 1 .switch) .screenSw = true := both (by decide +kernel) (by decide +kernel)
def resting : State := withScreen (fun g => { g with rake := .pause, pause := some 3000, jams := 1 }) bay
theorem witness_RakeTimers_pause : PumpSafe resting ∧ RakeSafe resting
    ∧ resting.screen.pause = some 3000 ∧ 3000 ≤ 3000 := both (by decide +kernel) (by decide +kernel)

/-- O44 to O47. -/
theorem witness_Event_opens : PumpSafe spilling ∧ RakeSafe spilling ∧ spilling.ovf.state = .pending
    ∧ spilling.ovf.blind = false ∧ spilling.ovf.pending = some 3000 ∧ spilling.cfg.tOd * 100 ≤ 3000 :=
  both (by decide +kernel) (by decide +kernel)
theorem witness_Event_closes : PumpSafe tailing ∧ RakeSafe tailing ∧ tailing.ovf.state = .tail
    ∧ tailing.ovf.blind = false ∧ tailing.ovf.tail = some 60000 ∧ tailing.cfg.tOt * 6000 ≤ 60000
    ∧ 207 = (if tailing.ovf.volumeEnabled then tailing.ovf.accumulator / 2000 else 0) :=
  both (by decide +kernel) (by decide +kernel)
theorem witness_SpillRate : spillUsable cfg = true ∧ cfg.spillHeads.length = 9
    ∧ cfg.spillRates.length = 9 ∧ cfg.spillHeads.getD 7 0 ≤ 799 ∧ 799 < cfg.spillHeads.getD 8 0
    ∧ cfg.spillHeads.getD 0 0 ≤ 0 ∧ cfg.spillHeads.getD 8 0 ≤ 800
    ∧ checking.ovf.volumeEnabled = false := by decide
theorem witness_RecordMoves : (⟨false, .normal, false, false, 0, 0⟩ : AlarmRecord).enabled = false
    ∧ (⟨true, .activeAck, false, true, 1, 512⟩ : AlarmRecord).latched = true
    ∧ AlarmCode.moisture ≠ .alone := by decide
def pulsing : State := { bay with alarms := { bay.alarms with
  startFail := some 100, runLost := some 100, rakeJam := some 100, queueLoss := some 100 } }
theorem witness_AlarmTimers_pulse : PumpSafe pulsing ∧ RakeSafe pulsing ∧ 100 ≤ 100
    ∧ pulsing.alarms.startFail = some 100 ∧ pulsing.alarms.runLost = some 100
    ∧ pulsing.alarms.rakeJam = some 100 ∧ pulsing.alarms.queueLoss = some 100 :=
  both (by decide +kernel) (by decide +kernel)
def shownOutputs : List OutputState :=
  let l := bay.panel.outputs.set 1 ⟨⟨5, false, .steady, 3⟩, false, some 300, none⟩
  l.set 6 ⟨⟨11, false, .pulse, 0⟩, false, none, some 1⟩
def showing : State := { bay with panel := { bay.panel with outputs := shownOutputs } }
theorem witness_PanelTimers : PumpSafe showing ∧ RakeSafe showing
    ∧ (outputAt showing 1).stretch = some 300 ∧ (outputAt showing 1).entry.stretch * 100 ≤ 300
    ∧ (outputAt showing 6).pulse = some 1 ∧ (if (outputAt showing 6).entry.stretch = 0 then 1
      else (outputAt showing 6).entry.stretch * 100) ≤ 1 := both (by decide +kernel) (by decide +kernel)

/-- O48 to O51. -/
theorem witness_BadMessages : PumpSafe reporting ∧ RakeSafe reporting ∧ reporting.reporter.mode = .active
    ∧ reporting.reporter.port = .idle ∧ (0x5B#8 : Byte) ≠ 0x5A#8 ∧ (2#8 : Byte).toNat < 3
    ∧ 40 < (41#8 : Byte).toNat := both (by decide +kernel) (by decide +kernel)
theorem witness_BadMessages_check :
    byte2 (crc16 (3#8 :: ([42#8, 1#8, 3#8] ++ [0#8, 0#8]).take 3)) ≠ ([42#8, 1#8, 3#8] ++ [0#8, 0#8]).drop 3
    ∧ ([42#8, 1#8, 3#8] ++ [0#8, 0#8] : List Byte).length = (3#8 : Byte).toNat + 2
    ∧ ((town 1 3 []).drop 2).length = 3 + 2 ∧ (((41#8 : Byte) :: []).headD 0).toNat ≠ cfg.house := by
  decide +kernel
theorem witness_BadMessages_gap : ([0x5A#8] : List Byte) = [0x5A#8]
    ∧ ([1#8, 1#8, 1#8, 1#8] : List Byte).length < (3#8 : Byte).toNat + 2 := by decide
/-- The receiver of `reporting` reads this message as the town sent it. -/
def townReads (m : Nat × List Byte) : Prop :=
  parseTown reporting.cfg.house (town m.1 3 m.2) = some ⟨m.1, 3, 3 + m.2.length, m.2⟩
def townReadsDec (m : Nat × List Byte) : Decidable (townReads m) := by unfold townReads; infer_instance
def allRead (messages : List (Nat × List Byte)) : Bool :=
  messages.all fun m => @decide _ (townReadsDec m)
theorem readsTown {messages : List (Nat × List Byte)} (h : allRead messages = true) {type : Nat}
    {body : List Byte} (k : (type, body) ∈ messages) :
    PumpSafe reporting ∧ RakeSafe reporting ∧ reporting.reporter.mode = .active
    ∧ reporting.reporter.port = .idle ∧ answerRoom reporting = true
    ∧ parseTown reporting.cfg.house (town type 3 body) = some ⟨type, 3, 3 + body.length, body⟩ := by
  have r : townReads (type, body) := @of_decide_eq_true _ (townReadsDec _) (List.all_eq_true.1 h _ k)
  exact both (by decide +kernel) ⟨by decide +kernel, by decide +kernel, by decide +kernel, r⟩
def answeredMessages : List (Nat × List Byte) :=
  [(1, []), (1, [1#8]), (6, [0#8, 9#8, 5#8, 0x9F#8]), (6, [0#8, 9#8, 5#8, 0xA0#8]), (7, [2#8, 0#8]),
    (0, []), (8, [])]
theorem witness_TownAnswered (type : Nat) (body : List Byte) (h : (type, body) ∈ answeredMessages) :
    PumpSafe reporting ∧ RakeSafe reporting ∧ reporting.reporter.mode = .active
    ∧ reporting.reporter.port = .idle ∧ answerRoom reporting = true
    ∧ parseTown reporting.cfg.house (town type 3 body) = some ⟨type, 3, 3 + body.length, body⟩ :=
  readsTown (messages := answeredMessages) (by decide +kernel) h
theorem witness_TownAcknowledges (seq : Nat) (h : seq = 5 ∨ seq = 6) : PumpSafe (flying 0) ∧ RakeSafe (flying 0)
    ∧ (flying 0).reporter.mode = .active ∧ (flying 0).reporter.port = .idle
    ∧ parseTown (flying 0).cfg.house (town 2 seq [1#8]) = some ⟨2, seq, 4, [1#8]⟩
    ∧ (flying 0).reporter.flight = some ⟨true, 5, 0, some 500, false, true⟩ := by
  obtain rfl | rfl := h <;> exact both (by decide +kernel) (by decide +kernel)
def holdingTwo : State := withReporter (fun r => { r with history := [rec1, rec1], nextNumber := 5 }) reporting
theorem witness_TownDumps : PumpSafe holdingTwo ∧ RakeSafe holdingTwo
    ∧ holdingTwo.reporter.mode = .active ∧ holdingTwo.reporter.port = .idle
    ∧ parseTown holdingTwo.cfg.house (town 3 1 [0#8, 2#8, 15#8]) = some ⟨3, 1, 6, [0#8, 2#8, 15#8]⟩
    ∧ answerRoom holdingTwo = true ∧ numberNewer holdingTwo.reporter 5 = true
    ∧ numberNewer holdingTwo.reporter 4 = false ∧ numberOlder holdingTwo.reporter 2 = true
    ∧ numberOlder holdingTwo.reporter 3 = false := both (by decide +kernel) (by decide +kernel)
theorem witness_TownRelays : PumpSafe freshBay ∧ RakeSafe freshBay ∧ freshBay.reporter.mode = .active
    ∧ freshBay.reporter.port = .idle
    ∧ parseTown freshBay.cfg.house (town 4 7 [5#8]) = some ⟨4, 7, 4, [5#8]⟩
    ∧ parseTown freshBay.cfg.house (town 5 7 [7#8]) = some ⟨5, 7, 4, [7#8]⟩
    ∧ answerRoom freshBay = true ∧ freshAt freshBay 5 = true ∧ freshAt freshBay 7 = false
    ∧ freshBay.reporter.command = none := both (by decide +kernel) (by decide +kernel)
def relaying : State := withReporter (fun r => { r with command := some ⟨5, 1, 4, 9, true, 0⟩ }) freshBay
theorem witness_TownRelays_pending : PumpSafe relaying ∧ RakeSafe relaying ∧ answerRoom relaying = true
    ∧ freshAt relaying 5 = true ∧ relaying.reporter.command ≠ none := both (by decide +kernel) (by decide +kernel)

/-- O52, O53. -/
def owing (k : AnswerKind) : State := withReporter (fun r => { r with answers := [answer k] }) reporting
theorem witness_PortSends_answer (k : AnswerKind) (h : k = .done ∨ k = .refused 2 ∨ k = .poll) :
    PumpSafe (owing k) ∧ RakeSafe (owing k) ∧ (owing k).reporter.mode = .active
    ∧ (owing k).reporter.port = .idle ∧ (owing k).reporter.sinceChar = none
    ∧ (owing k).reporter.answers = answer k :: [] ∧ (owing k).reporter.flight = none
    ∧ (owing k).reporter.urgentQueue = [] ∧ (owing k).reporter.routineQueue = [] := by
  obtain rfl | rfl | rfl := h <;> exact both (by decide +kernel) (by decide +kernel)
def queued : State := withReporter (fun r => { r with urgentQueue := [⟨rec1, false⟩], nextSeq := 15 }) reporting
theorem witness_PortSends_report : PumpSafe queued ∧ RakeSafe queued ∧ queued.reporter.mode = .active
    ∧ queued.reporter.port = .idle ∧ queued.reporter.sinceChar = none ∧ queued.reporter.answers = []
    ∧ queued.reporter.flight = none ∧ queued.reporter.dump = none ∧ queued.reporter.linkUp = true
    ∧ queued.reporter.urgentEnable = true ∧ queued.reporter.urgentQueue = ⟨rec1, false⟩ :: [] :=
  both (by decide +kernel) (by decide +kernel)
def keyed : State := withReporter (fun r => { r with port := .keyUp 10 }) reporting
theorem witness_PortTimers_key : PumpSafe keyed ∧ RakeSafe keyed ∧ keyed.reporter.port = .keyUp 10
    ∧ keyed.cfg.keyUp ≤ 10 := both (by decide +kernel) (by decide +kernel)
theorem witness_PortTimers_end : PumpSafe (sending 3) ∧ RakeSafe (sending 3)
    ∧ (sending 3).reporter.port = .sending 3
    ∧ 1000 * (sending 3).reporter.message.length ≤ (3 + 1) * baudOf (sending 3).cfg.baudCode :=
  both (by decide +kernel) (by decide +kernel)
theorem witness_PortTimers_ta (n : Nat) (h : n = 2 ∨ n = 3) : PumpSafe (flying n) ∧ RakeSafe (flying n)
    ∧ (flying n).reporter.flight = some ⟨true, 5, n, some 500, false, true⟩
    ∧ (flying n).cfg.ta * 100 ≤ 500 ∧ (flying n).cfg.retryLimit = 3 := by
  obtain rfl | rfl := h <;> exact both (by decide +kernel) (by decide +kernel)

/-- O54 at the longest body, O55 at the greatest fields. -/
theorem witness_MessagesAgree : 255 < 256 ∧ 15 < 16 ∧ (List.replicate 37 0#8).length ≤ 37 := by decide
theorem witness_NoticesAgree : (newEntry .alarm 7 23 3 65535 true).subject ≤ 7
    ∧ (newEntry .alarm 7 23 3 65535 true).value < 65536 ∧ fieldsInRange .alarm 23 3 = true := by decide

/-- O56: a claim won starts a pump, and one a rake; a fallback start. -/
theorem after_eq (c : Instr) (s : State) : exec c s = .next (after c s) ∨ after c s = s := by
  unfold after
  cases exec c s with
  | next t => exact .inl rfl
  | fault f => exact .inr rfl
  | refused r => exact .inr rfl
theorem exec_after {c : Instr} {s : State} (h : moves c s = true) : exec c s = .next (after c s) :=
  (after_eq c s).resolve_right (by simpa [moves] using h)
theorem witness_StartsAreWon_claim : ∃ t, exec (.goodFrameEnd 4 (driven claiming ||| cellsOf [0])) claiming = .next t
    ∧ claiming.duty.pump ≠ .starting ∧ t.duty.pump = .starting :=
  ⟨_, exec_after (by decide +kernel), by decide +kernel, by decide +kernel⟩
def rakeClaiming : State := inFrame (withScreen (fun g => { g with rake := .wait, intervalDue := true })
  (withDuty (fun d => { d with supplyQuiet := 51 }) joined))
theorem witness_StartsAreWon_rake : ∃ t, exec (.goodFrameEnd 4 (driven rakeClaiming)) rakeClaiming = .next t
    ∧ rakeClaiming.screen.rake ≠ .run ∧ t.screen.rake = .run :=
  ⟨_, exec_after (by decide +kernel), by decide +kernel, by decide +kernel⟩
theorem witness_StartsAreWon_fallback : ∃ t, exec .fallbackStart fallback = .next t
    ∧ fallback.duty.pump ≠ .starting ∧ t.duty.pump = .starting :=
  ⟨_, exec_after (by decide +kernel), by decide +kernel, by decide +kernel⟩

/-- O57. -/
def isolatedBay : State := withLine (fun l => { l with
  mode := .isolated, driver := .cut, receiver := .outside, recessiveRun := 10 }) bay
theorem witness_HeldUntilReset : ∃ t, LineSafe isolatedBay ∧ ReporterSafe isolatedBay
    ∧ Instr.syncLeadingEdge ≠ .reset ∧ exec .syncLeadingEdge isolatedBay = .next t
    ∧ isolatedBay.line.mode = .isolated ∧ captured isolatedBay = true ∧ loaded isolatedBay = true :=
  ⟨_, lines (by decide +kernel) ⟨by decide, exec_after (by decide +kernel), by decide +kernel⟩⟩

/-! ### A good state -/

def windowDec (s : State) : Decidable (WindowSafe s) := by unfold WindowSafe; infer_instance
def changeoverDec (s : State) : Decidable (ChangeoverSafe s) := by unfold ChangeoverSafe; infer_instance
def rangeDec (c : Settings) : Decidable (InRange c) := by unfold InRange within; infer_instance
def usableDec (c : Settings) : Decidable (UsableSettings c) := by
  unfold UsableSettings; haveI := rangeDec c; infer_instance
def settingsDec (s : State) : Decidable (SettingsSafe s) := by
  unfold SettingsSafe; haveI := usableDec s.cfg; haveI := usableDec s.loader.ready; infer_instance
def channelDec (c : Calibration) (ch : LevelChannel) : Decidable (ChannelSafe c ch) := by
  unfold ChannelSafe; infer_instance
def stageDec (s : State) : Decidable (StageSafe s) := by
  unfold StageSafe; haveI := channelDec; infer_instance
def overflowDec (s : State) : Decidable (OverflowSafe s) := by unfold OverflowSafe; infer_instance
def recordDec (s : State) (c : AlarmCode) : Decidable (RecordSafe s c (recordOf s c)) := by
  unfold RecordSafe; infer_instance
def alarmDec (s : State) : Decidable (AlarmSafe s) := by
  unfold AlarmSafe; haveI := recordDec s; infer_instance
def panelDec (s : State) : Decidable (PanelSafe s) := by unfold PanelSafe; infer_instance
def queueDec (s : State) : Decidable (QueueSafe s) := by unfold QueueSafe; infer_instance

/-- Every invariant, checked. -/
def goodBay (s : State) : Bool :=
  inputBay s && lineBay s && @decide _ (windowDec s) && @decide _ (settingsDec s)
    && @decide _ (stageDec s) && @decide _ (overflowDec s) && @decide _ (alarmDec s)
    && @decide _ (panelDec s) && @decide _ (queueDec s) && @decide _ (changeoverDec s)
theorem good {s : State} (h : goodBay s = true) : Good s := by
  simp only [goodBay, inputBay, quietBay, lineBay, Bool.and_eq_true, decide_eq_true_eq] at h
  obtain ⟨⟨⟨⟨⟨⟨⟨⟨⟨⟨⟨⟨p, r⟩, i⟩, m⟩, l, t⟩, w⟩, c⟩, g⟩, o⟩, a⟩, n⟩, q⟩, v⟩ := h
  exact ⟨i, p, m, w, r, l, c, g, o, a, n, q, t, v⟩

/-- O58: an acknowledge press, with THERMAL released, takes the pump out of FAULTED. -/
def released : State := pressing .ackBtn (settle (withInput .thermal ⟨false, 0, false⟩ faulted))
theorem witness_FaultsAreAcknowledged : ∃ t, Good released ∧ Instr.inputAcceptedChange .ackBtn ≠ .reset
    ∧ exec (.inputAcceptedChange .ackBtn) released = .next t
    ∧ released.duty.pump = .faulted ∧ t.duty.pump ≠ .faulted :=
  ⟨_, good (by decide +kernel), by decide, exec_after (by decide +kernel), by decide +kernel,
    by decide +kernel⟩

/-- O59, O60: a good state, and a step from it that changes it. -/
theorem witness_StaysSafe : Good { bay with gate := 50, pending := [.gateEnd] }
    ∧ stepped { bay with gate := 50, pending := [.gateEnd] } ≠ { bay with gate := 50, pending := [] } :=
  ⟨good (by decide +kernel), by decide +kernel⟩

/-! ### Witnesses of the further clauses -/

theorem witness_StepRunsFront_fault : fallback.pending = [] ∧ fallback.line.mode = .lineFault
    ∧ fallback.line.stuck ≤ 160 ∧ fallback.line.receiver ≠ .inside := by decide +kernel
theorem witness_TickTimers : pulsing.alarms.startFail = some 100
    ∧ (outputAt showing 1).stretch = some 300 ∧ (outputAt showing 6).pulse = some 1
    ∧ (judged .high).screen.switchClear = some 3000
    ∧ (waitingRelief 11999 []).duty.yielding = true ∧ (waitingRelief 11999 []).duty.waiting = []
    ∧ (waitingRelief 0 [5]).duty.waiting ≠ []
    ∧ (flying 0).reporter.flight = some ⟨true, 5, 0, some 500, false, true⟩ := by decide +kernel
/-- O15: the minimum off time passed at the finish, with a weir and with channel A. -/
def checkingOff (weir : Bool) : State := withDuty (fun d => { d with pump := .lockedOff, minOff := some 3000 })
  { checking with straps := { checking.straps with weirEn := weir } }
theorem witness_LoaderFinishes_off (weir : Bool) : PumpSafe (checkingOff weir)
    ∧ RakeSafe (checkingOff weir) ∧ (checkingOff weir).loader.phase = .checking
    ∧ (checkingOff weir).duty.pump = .lockedOff ∧ isActive (checkingOff weir) .thermal = false
    ∧ (checkingOff weir).duty.minOff = some 3000
    ∧ (checkingOff weir).loader.ready.tMinOff * 100 ≤ 3000 := by
  cases weir
  · exact both (by decide +kernel) (by decide +kernel)
  · exact both (by decide +kernel) (by decide +kernel)
theorem witness_LoaderFinishes_channel : (after .loaderFinish checking).chanA.mode = .starting
    ∧ (after .loaderFinish { checking with straps := { checking.straps with lvaEn := false } }).chanA.mode
      = .absent := by decide +kernel

/-- O18: an own sync, and a head whose records agree with their conditions. -/
def ownSync : State := withLine (fun l => { l with syncDriving := true, frameCells := 4 }) claimant
theorem witness_FrameDriven_own : PumpSafe ownSync ∧ RakeSafe ownSync
    ∧ ownSync.line.receiver = .outside ∧ 10 ≤ ownSync.line.recessiveRun
    ∧ ownSync.line.mode = .joined ∧ ownSync.line.syncDriving = true
    ∧ contendingHead ownSync = some (newEntry .alarm 2 9 1 3 true) :=
  both (by decide +kernel) (by decide +kernel)
theorem witness_FrameDriven_agree (c : AlarmCode) : rawCondition claimant c = (recordOf claimant c).raw
    ∧ rawCondition joined c = (recordOf joined c).raw ∧ contendingHead joined = none := by
  cases c <;> decide +kernel
theorem witness_FrameUpdatesPeers_silent : listenFrame.line.drive = none := by decide +kernel

/-- O28: the victim carries the pending command; the results of a claim; the frame's notice. -/
def contextVictim : State := withReporter (fun r => { r with command := some ⟨4, 1, 4, 9, false, 0⟩ })
  (queueOf (entry true 1 :: { entry false 2 with forContext := true } :: List.replicate 14 (entry true 3)))
theorem witness_NoticeHanded_context : mergeable contextVictim.notices.queue (entry true 4) = false
    ∧ contextVictim.notices.queue.length = 16
    ∧ contextVictim.notices.queue = [entry true 1] ++ { entry false 2 with forContext := true }
      :: List.replicate 14 (entry true 3)
    ∧ contextVictim.reporter.command = some ⟨4, 1, 4, 9, false, 0⟩
    ∧ [entry true 1].all (fun x => x.urgent || x.inFlight) = true := by decide +kernel
def flight (n : Nat) : NoticeEntry :=
  { newEntry .alarm 2 9 1 3 true with inFlight := true, attempts := n }
def fresh9 : NoticeEntry := newEntry .alarm 2 9 3 4 true
theorem witness_NoticeHanded_result :
    (queueOf [flight 6, fresh9]).notices.queue = [] ++ flight 6 :: [fresh9]
    ∧ (flight 6).inFlight = true ∧ ([] ++ [fresh9]).all (!·.inFlight) = true
    ∧ ([] ++ [fresh9]).find? (waitingAlarm (flight 6).code) = some fresh9
    ∧ min ((flight 6).attempts + 1) 8 < 8 ∧ 8 ≤ min ((flight 7).attempts + 1) 8 := by decide +kernel
def commandFrame : Cells := noticeCells (bodyOf (newEntry .command 2 1 0 0 true))
  (crc8 (bodyOf (newEntry .command 2 1 0 0 true))) ||| cellsOf [20, 28]
theorem witness_NoticeHanded_frame : noticeOf commandFrame = some ⟨.command, 2, 1, 0, 0⟩
    ∧ ownAddress listenFrame = 2 ∧ commandFrame.getLsbD 20 = true
    ∧ listenFrame.line.mode ≠ .lineFault ∧ noticeOf (cellsOf [28]) = none
    ∧ noticeField (cellsOf [28]) ≠ 15 := by decide +kernel
theorem witness_NoticeHanded_drive : ∃ d, telling.line.receiver = .inside
    ∧ telling.line.drive = some d ∧ d.noticeKey ≠ none :=
  ⟨_, by decide +kernel, rfl, by decide +kernel⟩

/-- O31: merging, joining, discarding; each kind of notice. -/
def waitingRec : QueuedRecord := ⟨rec1, false⟩
theorem witness_Reporter_join : (∃ x ∈ [waitingRec], rec1.kind = .alarm ∧ x.record.kind = .alarm
      ∧ x.record.station = rec1.station ∧ x.record.code = rec1.code ∧ x.inFlight = false)
    ∧ [waitingRec].length < 16 ∧ 1 ≤ [waitingRec].length
    ∧ [waitingRec] = [] ++ waitingRec :: []
    ∧ (⟨.summary, 1, 5, 2, 9, none, none⟩ : ReportRecord).kind ≠ .alarm :=
  ⟨⟨_, .head _, rfl, rfl, rfl, rfl, rfl⟩, by decide, by decide, rfl, by decide⟩
theorem witness_Reporter_notice : waitingEndOf reporting 3 = none
    ∧ waitingEndOf (withReporter (fun r => { r with pairing := r.pairing.set 3 (some ⟨1, 207, 19⟩) })
      reporting) 3 = some ⟨1, 207, 19⟩ ∧ 19 < 20 ∧ 2 < reporting.reporter.alarmView.length := by
  decide +kernel
/-- O32: address 4 takes a field that none held. -/
theorem witness_RoleTaken_refresh : listenFrame.line.mode ≠ .lineFault
    ∧ (cellsOf [20, 22]).getLsbD 20 = true
    ∧ listenFrame.notices.lastHolder ≠ some (numericField (cellsOf [20, 22]) 21 3) := by decide +kernel
theorem witness_RoleTaken_order : (refreshOrder faulted).map (·.1) = [.thermalTrip, .outOfService] ∨
    (refreshOrder faulted).map (·.1) = [.thermalTrip] := by decide +kernel

/-- O34: bad gates of a starting channel, good ones of a faulted channel, an absent one. -/
theorem witness_ChannelAtGate_runs : classify cfg.calA (probe .starting 0 0 1 0).count = none
    ∧ (probe .starting 0 0 1 0).badRun < 2 ∧ (probe .starting 0 0 2 0).badRun = 2
    ∧ classify cfg.calA (probe .faulted 0 5680 3 1).count = some 2760
    ∧ (probe .faulted 0 5680 3 1).goodRun < 2 ∧ (probe .absent 0 0 0 0).mode = .absent := by decide

/-- O41: called with and without a won claim, called off; running and chosen to stop, or not. -/
theorem witness_DutyFrame_call :
    IsAvailable claiming ∧ claiming.duty.pump = .startWait ∧ claiming.line.mode = .joined
    ∧ stopHold claiming = false ∧ 50 ≤ claiming.duty.supplyQuiet := by
  unfold IsAvailable
  decide +kernel
/-- The bay hears itself, as its own entry then shows it. -/
def ownShown (s : State) : PeerEntry := { PeerEntry.unheard with
  heard := true, age := 0, available := available s, running := runningAsserted s }
def heard (s : State) : State := withLine (fun l => { l with peers := l.peers.set 2 (ownShown s) }) s
def demanding (n : Nat) (s : State) : State := { s with stager := { s.stager with dEff := n } }
def clear : CommonCells := CommonCells.recessive
theorem witness_DutyFrame_won : (dutyFrame true clear (demanding 1 (heard claiming))).duty.index = some 0
    ∧ (dutyFrame true clear (demanding 1 (heard claiming))).duty.runningCount = 0
    ∧ (dutyFrame true clear (demanding 1 (heard claiming))).duty.pump = .starting
    ∧ (dutyFrame false clear (demanding 1 (heard claiming))).duty.pump = .startWait
    ∧ (dutyFrame false clear (demanding 0 (heard claiming))).duty.pump = .idle := by decide +kernel
theorem witness_DutyFrame_stops : (runOver.duty.pump = .running ∧ runOver.duty.contactor = true)
    ∧ minRunExpired (withDuty (fun d => { d with minRun := none }) running) = true
    ∧ (dutyFrame false clear (demanding 0 (heard
        (withDuty (fun d => { d with minRun := none }) running)))).duty.contactor = false
    ∧ (dutyFrame false clear (demanding 1 (heard
        (withDuty (fun d => { d with minRun := none }) running)))).duty.contactor = true := by
  decide +kernel
theorem witness_DutyFrame_listen (mode : LineMode) (h : mode = .listen ∨ mode = .isolated) :
    (withLine (fun l => { l with mode := mode }) running).line.mode = mode
    ∧ running.duty.pump = .running ∧ running.duty.contactor = true := by
  obtain rfl | rfl := h <;> decide +kernel
/-- O42: the sensing mode moves; the inputs of the screen and the rake. -/
def lostChannel : State := { bay with chanB := { bay.chanB with mode := .faulted, changed := true } }
theorem witness_ScreenGate : (screenGate lostChannel).screen.sensing = some .switch
    ∧ lostChannel.screen.sensing = some .diff
    ∧ (screenGate bay).screen.sensing = bay.screen.sensing := by decide +kernel
def switching (i : Input) (s : State) : State := pressing i (withScreen (fun g => { g with
  sensing := some .switch }) s)
theorem witness_ScreenInputs_switch : InputSafe (switching .screenSw bay)
    ∧ (inputState (switching .screenSw bay) .screenSw).due = true
    ∧ (switching .screenSw bay).screen.sensing = some .switch
    ∧ isActive (switching .screenSw bay) .screenSw = false :=
  ⟨(allFour (s := switching .screenSw bay) (p := True) (by decide +kernel) trivial).1, by decide +kernel⟩
def switchingOff : State := withInput .screenSw ⟨true, 5, true⟩ (withScreen (fun g => { g with
  sensing := some .switch }) bay)
theorem witness_ScreenInputs_clear : InputSafe switchingOff
    ∧ (inputState switchingOff .screenSw).due = true
    ∧ switchingOff.screen.sensing = some .switch ∧ isActive switchingOff .screenSw = true :=
  ⟨(allFour (s := switchingOff) (p := True) (by decide +kernel) trivial).1, by decide +kernel⟩
theorem witness_ScreenInputs_limit : InputSafe (switching .rakeLimit (raking bay))
    ∧ (inputState (switching .rakeLimit (raking bay)) .rakeLimit).due = true
    ∧ isActive (switching .rakeLimit (raking bay)) .rakeLimit = false
    ∧ (switching .rakeLimit (raking bay)).screen.rake = .run :=
  ⟨(allFour (s := switching .rakeLimit (raking bay)) (p := True) (by decide +kernel) trivial).1,
    by decide +kernel⟩
def lockedBay : State := settle (withScreen (fun g => { g with
  condition := .blocked, rake := .locked, jams := 2, delta := 500 })
  (holding .screenSw { bay with gate := 50 }))
/-- O43: a screen is BLOCKED with its pump in neither STARTING nor RUNNING. -/
theorem witness_PumpSafe_blocked : PumpSafe lockedBay ∧ RakeSafe lockedBay
    ∧ lockedBay.screen.condition = .blocked :=
  both (by decide +kernel) (by decide +kernel)

/-- O44: each state of the monitor, its source on and off, its sight lost. -/
def weir (st : OverflowState) (src : Bool) : State := withOvf (fun o => { o with
    state := st, sourceActive := src, prevGateOpen := overflowOpen { o with state := st } })
  { bay with straps := { bay.straps with weirEn := true } }
theorem witness_OverflowGate : (weir .idle false).straps.weirEn = true
    ∧ (weir .idle false).chanA.mode = .healthy ∧ (overflowGate (weir .idle false)).ovf.blind = false
    ∧ (weir .active true).ovf.volumeEnabled = true ∧ (weir .active true).ovf.prevGateOpen = true
    ∧ (weir .tail false).ovf.prevGateOpen = true ∧ (weir .pending true).ovf.prevGateOpen = false := by
  decide +kernel
theorem witness_OverflowGate_blind :
    (overflowGate { weir .active true with chanA := { bay.chanA with mode := .faulted } }).ovf.blind = true
    ∧ (weir .active true).ovf.blind = false := by decide +kernel

/-- O46: an acknowledge press outside JOINED, an ACK cell at a frame end. -/
theorem alarmSafeOf {s : State} (h : Good s) : AlarmSafe s := h.2.2.2.2.2.2.2.2.2.1
theorem witness_RecordMoves_press : InputSafe (pressing .ackBtn bay) ∧ PumpSafe (pressing .ackBtn bay)
    ∧ AlarmSafe (pressing .ackBtn bay) ∧ loaded (pressing .ackBtn bay) = true
    ∧ (pressing .ackBtn bay).line.mode ≠ .joined
    ∧ (inputState (pressing .ackBtn bay) .ackBtn).due = true
    ∧ isActive (pressing .ackBtn bay) .ackBtn = false := by
  have g := good (s := pressing .ackBtn bay) (by decide +kernel)
  have h : inputBay (pressing .ackBtn bay) = true := by decide +kernel
  exact ⟨(allFour h trivial).1, (allFour h trivial).2.1, alarmSafeOf g, by decide +kernel⟩
theorem after_frame {run : Nat} {c : Cells} {s : State}
    (h : (s.line.receiver == .inside && goodRun run) = true) :
    after (.goodFrameEnd run c) s = settle (frameEnd c s) := by
  simp only [after, exec, execGoodFrameEnd, taken, h, if_true]
theorem witness_RecordMoves_frame : PumpSafe listenFrame ∧ AlarmSafe listenFrame
    ∧ loaded listenFrame = true ∧ listenFrame.line.receiver = .inside ∧ 4 ≤ 4
    ∧ listenFrame.line.mode ≠ .lineFault ∧ (cellsOf [11]).getLsbD 11 = true
    ∧ (after (.goodFrameEnd 4 (cellsOf [11])) listenFrame).line.mode = listenFrame.line.mode := by
  have g := good (s := listenFrame) (by decide +kernel)
  have h : inputBay listenFrame = true := by decide +kernel
  have m : (houseFrame listenFrame.line.noticeWon (cellsOf [11]) listenFrame.line.drive
      (plantFrame (cellsOf [11]) listenFrame.line.drive (countLine (cellsOf [11])
        listenFrame.line.drive (emptyStale listenFrame (readFrame (cellsOf [11]) listenFrame))))).line.mode
      = listenFrame.line.mode := by decide +kernel
  exact ⟨(allFour h trivial).2.1, alarmSafeOf g, by decide +kernel, by decide +kernel, by decide,
    by decide +kernel, by decide +kernel, by
      rw [after_frame (by decide +kernel), settle_line, frameEnd_line, m]⟩
/-- O47: the pulse of QUEUE_LOSS ends in a safe state. -/
def lossEnding : State := settle { bay with alarms := { bay.alarms with queueLoss := some 100 } }
theorem witness_AlarmTimers_loss : Good lossEnding ∧ lossEnding.alarms.queueLoss = some 100 :=
  ⟨good (by decide +kernel), by decide +kernel⟩

/-- O51: no room, a wrong length, a value out of range. -/
def fullList : State := withReporter (fun r => { r with answers := List.replicate 4 (answer .done) }) reporting
theorem witness_TownRefused_room : PumpSafe fullList ∧ RakeSafe fullList
    ∧ fullList.reporter.mode = .active ∧ fullList.reporter.port = .idle ∧ answerRoom fullList = false
    ∧ parseTown fullList.cfg.house (town 1 3 []) = some ⟨1, 3, 3, []⟩ :=
  both (by decide +kernel) (by decide +kernel)
def refusedMessages : List (Nat × List Byte) :=
  [(2, []), (3, []), (4, []), (5, []), (7, []), (3, [0#8, 0#8, 16#8]), (4, [8#8]), (5, [8#8]),
    (7, [3#8, 0#8]), (7, [0#8, 3#8])]
theorem witness_TownRefused (type : Nat) (body : List Byte) (h : (type, body) ∈ refusedMessages) :
    PumpSafe reporting ∧ RakeSafe reporting ∧ reporting.reporter.mode = .active
    ∧ reporting.reporter.port = .idle ∧ answerRoom reporting = true
    ∧ parseTown reporting.cfg.house (town type 3 body) = some ⟨type, 3, 3 + body.length, body⟩ :=
  readsTown (messages := refusedMessages) (by decide +kernel) h

/-- O52: a POLL answered by the record in flight, by an urgent and by a routine record. -/
def polled (s : State) : State := withReporter (fun r => { r with answers := [answer .poll] }) s
def routineQueued : State := withReporter (fun r => { r with
  routineQueue := [waitingRec], routineEnable := true }) reporting
theorem witness_PortSends_poll (s : State) (h : s = flying 0 ∨ s = queued ∨ s = routineQueued) :
    PumpSafe (polled s) ∧ RakeSafe (polled s) ∧ (polled s).reporter.mode = .active
    ∧ (polled s).reporter.port = .idle ∧ (polled s).reporter.sinceChar = none
    ∧ (polled s).reporter.answers = [answer .poll]
    ∧ ((polled s).reporter.flight.isSome = (polled s).reporter.urgentQueue.any (·.inFlight)) := by
  obtain rfl | rfl | rfl := h <;> exact both (by decide +kernel) (by decide +kernel)
def resending : State := after .tAExpiry (flying 2)
theorem witness_PortSends_resend : PumpSafe resending ∧ RakeSafe resending
    ∧ resending.reporter.flight = some ⟨true, 5, 3, none, true, true⟩
    ∧ resending.reporter.urgentQueue.find? (·.inFlight) = some ⟨rec1, true⟩
    ∧ resending.reporter.answers = [] := both (by decide +kernel) (by decide +kernel)
/-- A dump from number `next`, `left` records to go. -/
def dumping (next left : Nat) (s : State) : State := withReporter (fun r => { r with
  history := [rec1, rec1], nextNumber := 5, dump := some ⟨next, left, false, 0, 1, false, 2⟩ }) s
theorem witness_PortSends_suspend : PumpSafe (dumping 3 1 queued) ∧ RakeSafe (dumping 3 1 queued)
    ∧ (dumping 3 1 queued).reporter.dump = some ⟨3, 1, false, 0, 1, false, 2⟩
    ∧ (dumping 3 1 queued).reporter.urgentQueue = waitingRec :: []
    ∧ (dumping 3 1 queued).reporter.flight = none := both (by decide +kernel) (by decide +kernel)
theorem witness_PortSends_dump : PumpSafe (dumping 2 1 reporting) ∧ RakeSafe (dumping 2 1 reporting)
    ∧ numberOlder (dumping 2 1 reporting).reporter 2 = true
    ∧ numberNewer (dumping 2 1 reporting).reporter 3 = false
    ∧ recordNumbered (dumping 2 1 reporting).reporter 3 = some rec1
    ∧ numberNewer (dumping 5 1 reporting).reporter 5 = true
    ∧ (dumping 3 0 reporting).reporter.dump = some ⟨3, 0, false, 0, 1, false, 2⟩ :=
  both (by decide +kernel) (by decide +kernel)
theorem witness_PortSends_routine : PumpSafe routineQueued ∧ RakeSafe routineQueued
    ∧ routineQueued.reporter.linkUp = true ∧ routineQueued.reporter.urgentQueue = []
    ∧ routineQueued.reporter.routineEnable = true
    ∧ routineQueued.reporter.routineQueue = waitingRec :: [] := both (by decide +kernel) (by decide +kernel)

/-! ### Further tests -/

/-- R12: bay 2's key 1 001 met 1 000: lost at its fourth cell, it drives none of the rest. -/
theorem test_key_released :
    let driven := toCells (recessive 12 ++ fieldCells 7 0b1001000)
    let read := driven ||| toCells (recessive 12 ++ fieldCells 7 0b1000100)
    (releaseLost driven read).getLsbD 13 = true ∧ (releaseLost driven read).getLsbD 16 = false := by
  decide +kernel
/-- R21: the count begins at the entry; a cell of a quiet line is counted, one while stuck or inside a
frame is not. -/
theorem test_quiet_counts : (stepped fallback).line.quiet = 1
    ∧ (stepped stuckBay).line.quiet = 0 ∧ (stepped faultFrame).line.quiet = 0 := by decide +kernel
/-- R3, R21: a frame's last dominant cell leaves the cells after it; one whose data cells are all
recessive leaves them and the closing cell of its sync; a short sync ends at one. -/
theorem test_quiet_frames :
    (after (.goodFrameEnd 4 (cellsOf [3, 130])) faultFrame).line.quiet = 5
    ∧ (after (.goodFrameEnd 4 0) faultFrame).line.quiet = 137
    ∧ (after (.badFrame 3) faultFrame).line.quiet = 1
    ∧ (after (.badFrame 7) faultFrame).line.quiet = 0 := by decide +kernel
/-- R168: the first 255 bytes are acknowledged, the last is not, then the stop. -/
theorem test_read_bus :
    let bus := (after (.configReadComplete (List.replicate 256 0xFF#8)) reading).loader.bus
    bus.length = 263 ∧ bus[260]? = some (.read 0xFF#8 true) ∧ bus[261]? = some (.read 0xFF#8 false)
      ∧ bus[262]? = some .stop := by decide +kernel
/-- R169: the first attempt starts with the bus-free step. -/
theorem test_first_bus_free : (after (.tick 0x7FFF#15 ⟨0#7, 10⟩) State.reset).loader.sdaHeld = true
    ∧ (after (.tick 0x7FFF#15 ⟨0#7, 9⟩) State.reset).loader.sclCells = 9 := by decide +kernel
/-- R92, R94: SWITCH found active at a mode change gives HIGH, though the rake is locked; the condition
left BLOCKED in between, so SCREEN_BLOCKED clears. -/
theorem test_switch_found : (recordOf lockedBay .screenBlocked).state = .activeUnack
    ∧ (after .gateEnd { lockedBay with chanB := { bay.chanB with
        mode := .suspect, badRun := 2, count := 0 } }).screen.condition = .high
    ∧ (recordOf (after .gateEnd { lockedBay with chanB := { bay.chanB with
        mode := .suspect, badRun := 2, count := 0 } }) .screenBlocked).state = .clearedUnack := by
  decide +kernel

/-- R130: SUPPLY_LOW is the only alarm, acknowledged, with sixteen routine entries in the queue; an output
of source 10 in pulse mode stands on. -/
def lastAlarm : State :=
  let s := settle (acknowledge (settle (holding .supplyLow joined)))
  withInput .supplyLow ⟨true, 5, true⟩ { s with
    panel := { s.panel with outputs := s.panel.outputs.set 3 ⟨⟨10, false, .pulse, 3⟩, true, none, none⟩ }
    notices := { s.notices with queue := List.replicate 16 (entry false 3) } }
/-- Its clearing discards an entry and so raises QUEUE_LOSS: the source goes off and on, one pulse. -/
theorem test_pulse_of_queue_loss :
    ((after (.inputAcceptedChange .supplyLow) lastAlarm).panel.outputs.getD 3 ⟨⟨0, false, .steady, 0⟩,
      false, none, none⟩).pulse = some 0
    ∧ (recordOf (after (.inputAcceptedChange .supplyLow) lastAlarm) .queueLoss).state = .activeUnack
    ∧ (recordOf (after (.inputAcceptedChange .supplyLow) lastAlarm) .supplyLow).state = .normal := by
  decide +kernel
/-- R167, R169: an attempt that fails at its stop has read the whole image. -/
theorem test_failed_stop :
    let l := (after (.attemptFail (.busBusy (.reading (List.replicate 256 0xFF#8)))) reading).loader
    l.bus.length = 262 ∧ l.sent = [0xA0#8, 0x00#8, 0x00#8, 0xA1#8] ∧ l.wait = some 0
      ∧ l.image = none := by decide +kernel
/-- R169: SCL held low at the repeated start; SDA low for the first start sends nothing. -/
theorem test_failed_restart :
    (after (.attemptFail (.stretchTooLong (.sending 4))) reading).loader.sent = [0xA0#8, 0x00#8, 0x00#8]
    ∧ (after (.attemptFail (.busBusy (.sending 0))) fourth).loader.bus = []
    ∧ moves (.attemptFail (.busBusy (.sending 4))) fourth = false := by decide +kernel

/-! ### The ends of good frames -/

def frameEndOf (c : Cells) (s : State) : State := after (.goodFrameEnd 4 c) s
/-- R15, R17: a frame without the own PRESENT, and one with it. -/
theorem test_listen_counts : (frameEndOf 0 listenFrame).line.goodRun = 1
    ∧ (frameEndOf (cellsOf [stationCell 2]) listenFrame).line.ownCount = 1 := by decide +kernel
/-- R18: LEAD reads dominant in the own field, driven recessive. -/
theorem test_clash_isolates :
    (frameEndOf (driven telling ||| cellsOf [stationCell 2 + 1]) telling).line.mode = .isolated := by
  decide +kernel
/-- R7, R25: the own PRESENT unread, no peer heard. -/
theorem test_joined_counts : (frameEndOf 0 telling).line.presenceFail = 1
    ∧ (frameEndOf 0 telling).line.aloneCount = 1 := by decide +kernel
/-- R21. -/
theorem test_fault_counts : (frameEndOf 0 faultFrame).line.faultGood = 1 := by decide +kernel
/-- O20: in each line state, a clash or none, a fresh peer or none. -/
theorem witness_FrameUpdatesPeers_counts : (frameEndOf 0 telling).line.mode = .joined
    ∧ freshAt (frameEndOf (cellsOf [stationCell 5]) telling) 5 = true
    ∧ freshAt (frameEndOf 0 telling) 5 = false
    ∧ (driven telling).getLsbD (stationCell 2 + 1) = false ∧ telling.line.drive.isSome = true := by
  decide +kernel
theorem witness_FrameUpdatesPeers_modes :
    listenFrame.line.mode = .listen ∧ faultFrame.line.mode = .lineFault
    ∧ (withLine (fun l => { l with receiver := .inside }) isolatedBay).line.mode = .isolated := by
  decide +kernel
/-- O21, R77: bay 2 yields in JOINED, a stage called for; bay 5 shows AVAILABLE or not at all. -/
theorem test_changeover_at_frame_end :
    let ends (cells : List Nat) (n : Nat) :=
      (frameEndOf (cellsOf cells) (inFrame (waitingRelief n []))).duty
    (ends [0, stationCell 5, stationCell 5 + 2] 11999).waiting = [5]
    ∧ (ends [0, stationCell 5, stationCell 5 + 2] 11999).yielding = true
    ∧ (ends [0, stationCell 5, stationCell 5 + 2] 11999).changeover = 0
    ∧ (ends [0, stationCell 5, stationCell 5 + 2] 12000).yielding = true
    ∧ (ends [0, stationCell 5, stationCell 5 + 2] 12000).changeover = 12000
    ∧ (ends [0] 11999).yielding = true ∧ (ends [0] 11999).waiting = []
    ∧ (ends [0] 11999).changeover = 11999 := by decide +kernel

/-- Bay 2 in a frame, the house having been busy; bay 5 shows LEAD, and bay 2 may hold it as well. -/
def cycling (busy held : Bool) : State := inFrame (withDuty (fun d => { d with
  prevBusy := busy, holdsLead := held, leadUnusable := 7 }) joined)
/-- Bay 5 shows LEAD alone, or LEAD and AVAILABLE with a bay that is AVAILABLE beside it. -/
def leadFrame (more : List Nat) : Cells :=
  cellsOf ([stationCell 2, stationCell 5, stationCell 5 + 1] ++ more)
/-- R81, R82: bay 2, AVAILABLE, is the next lead after bay 5 at a cycle end; bay 5 shows neither
AVAILABLE nor RUNNING. -/
theorem test_cycle_end : (frameEndOf (leadFrame []) (cycling true false)).duty.holdsLead
      = true
    ∧ (frameEndOf (leadFrame []) (cycling true false)).duty.leadUnusable = 8
    ∧ (frameEndOf (leadFrame [stationCell 6, stationCell 6 + 2])
        (cycling true false)).duty.holdsLead = false := by decide +kernel
/-- R83: bay 2 holds the lead and sees it at bay 1. -/
theorem test_two_leads : (frameEndOf (driven (cycling false true)
    ||| cellsOf [stationCell 1, stationCell 1 + 1]) (cycling false true)).duty.holdsLead = false := by
  decide +kernel
/-- O21: a cycle end with a next lead and one without, and a frame end that is none. -/
theorem witness_FrameFormsDemand_lead :
    let t := frameEndOf (leadFrame []) (cycling true false)
    t.line.mode = .joined ∧ t.duty.lead = some 5 ∧ t.stager.dEff = 0 ∧ nextLead t = some 2
    ∧ (t.duty.dutyList.all fun a => !(peer t a).running) = true ∧ (cycling true false).duty.prevBusy = true
    ∧ (frameEndOf 0 (cycling true false)).duty.lead = none
    ∧ (cycling false true).duty.prevBusy = false ∧ loaded (cycling true true) = true := by decide +kernel

/-- O31: an OVERFLOW_END while one waits; a COMMAND_RESULT that answers, and three that do not. -/
theorem witness_Reporter_end :
    (⟨.overflowEnd, 3, 0, 1, 9⟩ : Received).kind = .overflowEnd
    ∧ waitingEndOf (withReporter (fun r => { r with pairing := r.pairing.set 3 (some ⟨1, 207, 19⟩) })
      reporting) 3 = some ⟨1, 207, 19⟩ ∧ reporting.reporter.command = none := by decide +kernel
def carried (n : Nat) : State := withReporter (fun r => { r with
  command := some ⟨4, 1, 4, 9, true, n⟩ }) reporting
theorem test_command_result :
    (recordNotice ⟨.commandResult, 4, 1, 0, 0⟩ (carried 19)).reporter.answers = [⟨.done, 4, 9⟩]
    ∧ (recordNotice ⟨.commandResult, 4, 1, 1, 0⟩ (carried 0)).reporter.answers = [⟨.refused 4, 4, 9⟩]
    ∧ (recordNotice ⟨.commandResult, 5, 1, 0, 0⟩ (carried 0)).reporter.answers = []
    ∧ (recordNotice ⟨.commandResult, 4, 1, 0, 0⟩ (carried 20)).reporter.answers = [] := by decide +kernel

/-- Bay 2 in a frame with its reporter in a role. -/
def claimRole (m : ReporterMode) : State := inFrame (withReporter (fun r => { r with
  mode := m, holdQuiet := 2 }) joined)
/-- R146, R147: a claim of bay 2 won, then lost to bay 1 that claims too; a holder that loses to bay 0. -/
theorem test_claim_results :
    (frameEndOf (driven (claimRole .claiming)) (claimRole .claiming)).reporter.mode = .active
    ∧ (frameEndOf (cellsOf [21, 22]) (claimRole .claiming)).reporter.mode = .standby
    ∧ (frameEndOf (cellsOf [20, 21, 22, 23]) (claimRole .active)).reporter.mode = .standby := by
  decide +kernel
/-- R146: a field without RP_HOLD counts, one with it does not. -/
theorem test_hold_counts : (frameEndOf 0 (claimRole .standby)).reporter.holdQuiet = 3
    ∧ (frameEndOf (cellsOf [20]) (claimRole .standby)).reporter.holdQuiet = 0 := by decide +kernel
/-- The role in a frame, the claim's key as driven, won and lost. -/
def roleFramed (m : ReporterMode) (key : Option Nat) : Bool :=
  decide ((claimRole m).line.receiver = .inside ∧ (claimRole m).reporter.mode = m
    ∧ (claimRole m).line.drive.bind (·.reportKey) = key
    ∧ (frameEndOf (driven (claimRole m)) (claimRole m)).line.mode = .joined
    ∧ reportField (driven (claimRole m)) = key.getD 15
    ∧ some (reportField (cellsOf [20, 21, 22, 23])) ≠ key)
/-- O32. -/
theorem witness_RoleTaken_frame : roleFramed .standby none = true
    ∧ roleFramed .claiming (some 10) = true ∧ roleFramed .active (some 2) = true := by decide +kernel
theorem witness_RoleTaken_outside : listenFrame.line.mode ≠ .joined
    ∧ listenFrame.line.receiver = .inside := by decide +kernel

/-- R98, R99: the rake of bay 2 starts at a won claim, and not with INRUSH dominant. -/
theorem test_rake_starts :
    (frameEndOf (driven rakeClaiming) rakeClaiming).screen.rakeRun = some 0
    ∧ (frameEndOf (driven rakeClaiming) rakeClaiming).screen.motor = true
    ∧ (frameEndOf (driven rakeClaiming ||| cellsOf [19]) rakeClaiming).screen.rake = .wait := by
  decide +kernel
/-- O43. -/
theorem witness_RakeTimersExpire_start : ∃ d, rakeClaiming.line.mode = .joined
    ∧ rakeClaiming.line.receiver = .inside ∧ rakeClaiming.line.drive = some d
    ∧ d.startKey = some (.screen, startField (driven rakeClaiming)) ∧ rakeClaiming.screen.rake = .wait
    ∧ (∀ k ∈ [19, 24, 27], (driven rakeClaiming).getLsbD k = false)
    ∧ 50 ≤ rakeClaiming.duty.supplyQuiet ∧ isActive rakeClaiming .allStop = false
    ∧ rakeClaiming.duty.mode ≠ .off
    ∧ ∀ i ∈ [1, 2, 3, 4, 5, 6, 7],
      (driven rakeClaiming).getLsbD (stationCell (ownAddress rakeClaiming) + i) = true →
      d.cells.getLsbD (stationCell (ownAddress rakeClaiming) + i) = true :=
  ⟨(rakeClaiming.line.drive).getD ⟨0, none, none, none, 0, 0⟩, by decide +kernel⟩

/-! ### The blocks' answers to their inputs -/

/-- O9: the premises of an accepted change. -/
theorem accepts {i : Input} {s : State} {p : Prop} (h : inputBay s = true)
    (d : (inputState s i).due = true ∧ p) :
    InputSafe s ∧ PumpSafe s ∧ ModeSafe s ∧ RakeSafe s ∧ (inputState s i).due = true ∧ p := allFour h d

/-- The change of an active input to inactive is due. -/
def releasing (i : Input) (s : State) : State := withInput i ⟨true, 5, true⟩ s
/-- R61: a RUNNING pump stays closed in HAND, an IDLE one closes with a start counted, one held stays
open. -/
theorem test_hand : (after (.inputAcceptedChange .modeHand) (pressing .modeHand running)).duty.inrush = none
    ∧ (after (.inputAcceptedChange .modeHand) (pressing .modeHand bay)).duty.starts = 1
    ∧ (after (.inputAcceptedChange .modeHand)
        (holding .lowFloat (pressing .modeHand bay))).duty.contactor = false := by decide +kernel
/-- R59, R63: back in AUTO the pump is locked off while its minimum off time runs. -/
theorem test_back_to_auto :
    (after (.inputAcceptedChange .modeHand) (releasing .modeHand inHand)).duty.pump = .lockedOff
    ∧ (after (.inputAcceptedChange .modeHand) (releasing .modeHand inHand)).duty.minOff = some 0 := by
  decide +kernel
theorem witness_InputAccepted_closed : InputSafe (pressing .modeHand running)
    ∧ PumpSafe (pressing .modeHand running) ∧ ModeSafe (pressing .modeHand running)
    ∧ RakeSafe (pressing .modeHand running)
    ∧ (inputState (pressing .modeHand running) .modeHand).due = true
    ∧ isActive (pressing .modeHand running) .modeOff = false
    ∧ (pressing .modeHand running).duty.mode = .auto
    ∧ (pressing .modeHand running).duty.contactor = true :=
  accepts (by decide +kernel) (by decide +kernel)
theorem witness_InputAccepted_open : InputSafe (pressing .modeHand bay)
    ∧ PumpSafe (pressing .modeHand bay) ∧ ModeSafe (pressing .modeHand bay)
    ∧ RakeSafe (pressing .modeHand bay) ∧ (inputState (pressing .modeHand bay) .modeHand).due = true
    ∧ (pressing .modeHand bay).duty.contactor = false ∧ loaded (pressing .modeHand bay) = true
    ∧ stopHold (pressing .modeHand bay) = false :=
  accepts (by decide +kernel) (by decide +kernel)
theorem witness_InputAccepted_held : InputSafe (holding .lowFloat (pressing .modeHand bay))
    ∧ PumpSafe (holding .lowFloat (pressing .modeHand bay))
    ∧ ModeSafe (holding .lowFloat (pressing .modeHand bay))
    ∧ RakeSafe (holding .lowFloat (pressing .modeHand bay))
    ∧ (inputState (holding .lowFloat (pressing .modeHand bay)) .modeHand).due = true
    ∧ stopHold (holding .lowFloat (pressing .modeHand bay)) = true :=
  accepts (by decide +kernel) (by decide +kernel)
theorem witness_InputAccepted_faulted : InputSafe (pressing .modeHand faulted)
    ∧ PumpSafe (pressing .modeHand faulted) ∧ ModeSafe (pressing .modeHand faulted)
    ∧ RakeSafe (pressing .modeHand faulted)
    ∧ (inputState (pressing .modeHand faulted) .modeHand).due = true
    ∧ faulted.duty.pump = .faulted ∧ faulted.duty.mode = .auto :=
  accepts (by decide +kernel) (by decide +kernel)
/-- In HAND, its release due, inhibited or not, with a minimum off time or none. -/
def leaving (inhibit : Bool) (off : Nat) : State :=
  withDuty (fun d => { d with inhibit := inhibit })
    { releasing .modeHand inHand with cfg := { inHand.cfg with tMinOff := off } }
theorem witness_InputAccepted_auto (inhibit : Bool) (off : Nat) (h : off = 0 ∨ off = 30) :
    InputSafe (leaving inhibit off) ∧ PumpSafe (leaving inhibit off) ∧ ModeSafe (leaving inhibit off)
    ∧ RakeSafe (leaving inhibit off) ∧ (inputState (leaving inhibit off) .modeHand).due = true
    ∧ (leaving inhibit off).duty.mode = .hand ∧ (leaving inhibit off).duty.contactor = true
    ∧ (leaving inhibit off).duty.inhibit = inhibit ∧ (leaving inhibit off).cfg.tMinOff = off := by
  obtain rfl | rfl := h <;> cases inhibit <;> exact accepts (by decide +kernel) (by decide +kernel)
/-- A pump switched off, MODE_OFF about to be released, or MODE_HAND pressed beneath it. -/
def switchedOff (s : State) : State := withDuty (fun d => { d with
  pump := .outOfService, mode := .off }) s
theorem witness_InputAccepted_off : InputSafe (releasing .modeOff (switchedOff bay))
    ∧ PumpSafe (releasing .modeOff (switchedOff bay)) ∧ ModeSafe (releasing .modeOff (switchedOff bay))
    ∧ RakeSafe (releasing .modeOff (switchedOff bay))
    ∧ (inputState (releasing .modeOff (switchedOff bay)) .modeOff).due = true
    ∧ (releasing .modeOff (switchedOff bay)).duty.mode = .off
    ∧ (releasing .modeOff (switchedOff bay)).duty.minOff = none :=
  accepts (by decide +kernel) (by decide +kernel)
theorem witness_InputAccepted_same : InputSafe (holding .modeOff (pressing .modeHand (switchedOff bay)))
    ∧ PumpSafe (holding .modeOff (pressing .modeHand (switchedOff bay)))
    ∧ ModeSafe (holding .modeOff (pressing .modeHand (switchedOff bay)))
    ∧ RakeSafe (holding .modeOff (pressing .modeHand (switchedOff bay)))
    ∧ (inputState (holding .modeOff (pressing .modeHand (switchedOff bay))) .modeHand).due = true
    ∧ isActive (holding .modeOff (pressing .modeHand (switchedOff bay))) .modeOff = true :=
  accepts (by decide +kernel) (by decide +kernel)
theorem witness_InputAccepted_confirm : InputSafe (pressing .runConfirm starting)
    ∧ PumpSafe (pressing .runConfirm starting) ∧ ModeSafe (pressing .runConfirm starting)
    ∧ RakeSafe (pressing .runConfirm starting)
    ∧ (inputState (pressing .runConfirm starting) .runConfirm).due = true
    ∧ isActive (pressing .runConfirm starting) .runConfirm = false
    ∧ starting.duty.pump = .starting ∧ starting.duty.confirm ≠ none :=
  accepts (by decide +kernel) (by decide +kernel)
theorem witness_InputAccepted_again : InputSafe (pressing .runConfirm lost)
    ∧ PumpSafe (pressing .runConfirm lost) ∧ ModeSafe (pressing .runConfirm lost)
    ∧ RakeSafe (pressing .runConfirm lost)
    ∧ (inputState (pressing .runConfirm lost) .runConfirm).due = true
    ∧ isActive (pressing .runConfirm lost) .runConfirm = false ∧ lost.duty.pump ≠ .starting :=
  accepts (by decide +kernel) (by decide +kernel)
theorem witness_InputAccepted_loss : InputSafe (releasing .runConfirm running)
    ∧ PumpSafe (releasing .runConfirm running) ∧ ModeSafe (releasing .runConfirm running)
    ∧ RakeSafe (releasing .runConfirm running)
    ∧ (inputState (releasing .runConfirm running) .runConfirm).due = true
    ∧ isActive (releasing .runConfirm running) .runConfirm = true ∧ running.duty.confirmed = true :=
  accepts (by decide +kernel) (by decide +kernel)
/-- A RUNNING pump under a MOISTURE policy. -/
def damp (policy : Nat) : State :=
  { pressing .moisture running with cfg := { running.cfg with moisturePolicy := policy } }
theorem witness_InputAccepted_moisture (policy : Nat) (h : policy = 1 ∨ policy = 2) :
    InputSafe (damp policy) ∧ PumpSafe (damp policy) ∧ ModeSafe (damp policy) ∧ RakeSafe (damp policy)
    ∧ (inputState (damp policy) .moisture).due = true ∧ isActive (damp policy) .moisture = false
    ∧ (damp policy).cfg.moisturePolicy = policy ∧ (damp policy).duty.pump = .running := by
  obtain rfl | rfl := h <;> exact accepts (by decide +kernel) (by decide +kernel)
theorem witness_InputAccepted_supply : InputSafe (pressing .supplyLow fallback)
    ∧ PumpSafe (pressing .supplyLow fallback) ∧ ModeSafe (pressing .supplyLow fallback)
    ∧ RakeSafe (pressing .supplyLow fallback)
    ∧ (inputState (pressing .supplyLow fallback) .supplyLow).due = true
    ∧ isActive (pressing .supplyLow fallback) .supplyLow = false
    ∧ fallback.duty.supplyInactive = 500 := accepts (by decide +kernel) (by decide +kernel)
/-- The monitor of a weir bay with its float fitted, in a state; the float about to change. -/
def floated (st : OverflowState) (src : Bool) : State :=
  let s := weir st src
  (if src then releasing .weirFloat else pressing .weirFloat)
    { s with cfg := { s.cfg with weirFloatFitted := true } }
theorem witness_InputAccepted_float (st : OverflowState) : InputSafe (floated st true)
    ∧ InputSafe (floated st false) ∧ (inputState (floated st true) .weirFloat).due = true
    ∧ (inputState (floated st false) .weirFloat).due = true
    ∧ isActive (floated st true) .weirFloat = true ∧ isActive (floated st false) .weirFloat = false
    ∧ (floated st true).ovf.levelActive = false ∧ (floated st true).ovf.state = st
    ∧ (floated st false).ovf.state = st ∧ (floated st false).ovf.sourceActive = false
    ∧ (floated st true).ovf.sourceActive = true ∧ (floated st true).straps.weirEn = true
    ∧ (floated st false).cfg.weirFloatFitted = true ∧ loaded (floated st true) = true :=
  ⟨(allFour (s := floated st true) (p := True) (by cases st <;> decide +kernel) trivial).1,
    (allFour (s := floated st false) (p := True) (by cases st <;> decide +kernel) trivial).1,
    by cases st <;> decide +kernel⟩
/-- R106, R108: the float of a quiet weir closes, the monitor is pending. -/
theorem test_weir_float : (after (.inputAcceptedChange .weirFloat) (floated .idle false)).ovf.pending
      = some 0
    ∧ (after (.inputAcceptedChange .weirFloat) (floated .active true)).ovf.state = .tail := by
  decide +kernel
theorem witness_InputAccepted_lamps : InputSafe (pressing .lampTest bay)
    ∧ PumpSafe (pressing .lampTest bay) ∧ ModeSafe (pressing .lampTest bay)
    ∧ RakeSafe (pressing .lampTest bay) ∧ (inputState (pressing .lampTest bay) .lampTest).due = true
    ∧ loaded (pressing .lampTest bay) = true ∧ (pressing .lampTest bay).panel.outputs.length = 8 :=
  accepts (by decide +kernel) (by decide +kernel)
/-- R132. -/
theorem test_lamp_test : (after (.inputAcceptedChange .lampTest) (pressing .lampTest bay)).panel.pins
    = 0xFF#8 := by decide +kernel
theorem witness_InputAccepted_floats (i : Input) (h : i = .lowFloat ∨ i = .highFloat ∨ i = .allStop) :
    InputSafe (pressing i fallback) ∧ PumpSafe (pressing i fallback) ∧ ModeSafe (pressing i fallback)
    ∧ RakeSafe (pressing i fallback) ∧ (inputState (pressing i fallback) i).due = true
    ∧ loaded (pressing i fallback) = true ∧ (pressing i fallback).line.mode = .lineFault := by
  obtain rfl | rfl | rfl := h <;> exact accepts (by decide +kernel) (by decide +kernel)
/-- A RUNNING pump in LINE_FAULT, called by its high float alone, its minimum run over. -/
def highCalled : State := releasing .highFloat (withDuty (fun d => { d with
    pump := .running, contactor := true, confirmed := true })
  { fallback with stager := { fallback.stager with d := 0 } })
theorem witness_InputAccepted_uncalled : InputSafe highCalled ∧ PumpSafe highCalled
    ∧ ModeSafe highCalled ∧ RakeSafe highCalled ∧ (inputState highCalled .highFloat).due = true
    ∧ highCalled.duty.pump = .running ∧ minRunExpired highCalled = true
    ∧ (after (.inputAcceptedChange .highFloat) highCalled).stager.localCall = false :=
  accepts (by decide +kernel) (by decide +kernel)
/-- R56, R86: the high float released, nothing calls, the pump stops. -/
theorem test_fallback_float :
    (after (.inputAcceptedChange .highFloat) highCalled).duty.contactor = false := by decide +kernel

/-! ### Overflow fields of the image, keys, gates -/

/-- An image each of whose numeric fields stands at its lower limit or above. -/
def lowImage : List Byte :=
  [(1, 1), (4, 2), (7, 1), (8, 4), (10, 6), (12, 2), (16, 4), (18, 6), (20, 2), (24, 1), (25, 1),
    (60, 1), (61, 1), (71, 20), (73, 30), (75, 5), (81, 10), (84, 5), (85, 1)].foldl
    (fun img p => img.set p.1 (BitVec.ofNat 8 p.2)) (List.replicate 256 0#8)
/-- R172: a crest of FF00h is a cause found, in the overflow group alone; with a retry limit of 6 not. -/
theorem test_overflow_fields : imageClamped lowImage = false
    ∧ imageClamped (lowImage.set 82 0xFF#8) = true ∧ overflowClamped (lowImage.set 82 0xFF#8) = true
    ∧ overflowClamped ((lowImage.set 82 0xFF#8).set 5 6#8) = false
    ∧ imageClamped ((lowImage.set 82 0xFF#8).set 5 6#8) = true := by decide +kernel
/-- R104: the cause raises CONFIG on a weir bay, and not on another. -/
theorem test_overflow_alarm (weir : Bool) :
    rawCondition { bay with
      straps := { bay.straps with weirEn := weir }
      loader := { bay.loader with causeFound := true, overflowOnly := true } } .config = weir := by
  cases weir <;> decide +kernel
/-- O18: a pump in START_WAIT at any place, a rake alone, at address 7 as well. -/
def wanting (a : Fin 8) (pump : PumpState) (place : Option Nat) : State :=
  withDuty (fun d => { d with pump := pump, index := place }) (withScreen (fun g => { g with
    rake := .wait, intervalDue := true }) { joined with straps := { joined.straps with address := a } })
theorem witness_FrameDriven_keys (a : Fin 8) (pump : PumpState)
    (h : pump = .startWait ∨ pump = .idle) (ha : a = 2 ∨ a = 7) :
    PumpSafe (wanting a pump (some 7)) ∧ RakeSafe (wanting a pump (some 7))
    ∧ (wanting a pump (some 7)).line.receiver = .outside
    ∧ 10 ≤ (wanting a pump (some 7)).line.recessiveRun ∧ (wanting a pump (some 7)).line.mode = .joined
    ∧ (wanting a pump (some 7)).duty.pump = pump ∧ (wanting a pump (some 7)).screen.rake = .wait
    ∧ ownAddress (wanting a pump (some 7)) = a.val := by
  obtain rfl | rfl := h <;> obtain rfl | rfl := ha <;> exact both (by decide +kernel) (by decide +kernel)
/-- R73, R98: position 7 becomes 6 at address 7. -/
theorem test_keys_at_7 : startKeyOf (wanting 7 .startWait (some 7)) = some (.duty, 64 + 6 * 8 + 7)
    ∧ startKeyOf (wanting 7 .idle none) = some (.screen, 64 + 6 * 8 + 7)
    ∧ startKeyOf (wanting 2 .idle none) = some (.screen, 64 + 7 * 8 + 2) := by decide +kernel
/-- R35: a half is rounded away from zero, either way. -/
theorem test_filter_half : filterLevel 2 2638 2640 = 2639 ∧ filterLevel 2 2642 2640 = 2641 := by decide
theorem witness_ChannelAtGate_half : classify cfg.calA (probe .healthy 2638 5520 0 0).count = some 2640
    ∧ (probe .healthy 2638 5520 0 0).mode = .healthy
    ∧ 2 * ((2640 : Int) - 2638 - 1 * 2 ^ cfg.calA.k).natAbs = 2 ^ cfg.calA.k := by decide
/-- O35: a gate end on a bay and on one in LINE_FAULT. -/
theorem witness_GateTaken_safe (mode : LineMode) (h : mode = .listen ∨ mode = .lineFault) :
    PumpSafe (withLine (fun l => { l with mode := mode }) (gated .healthy 5501 0 0))
    ∧ RakeSafe (withLine (fun l => { l with mode := mode }) (gated .healthy 5501 0 0))
    ∧ loaded (withLine (fun l => { l with mode := mode }) (gated .healthy 5501 0 0)) = true
    ∧ 50 ≤ (withLine (fun l => { l with mode := mode }) (gated .healthy 5501 0 0)).gate := by
  obtain rfl | rfl := h <;> exact both (by decide +kernel) (by decide +kernel)
/-- O42: DIFF kept and judged, and chosen anew. -/
def gained : State := withScreen (fun g => { g with sensing := some .switch })
  { bay with chanB := { bay.chanB with changed := true } }
theorem witness_ScreenGate_diff : (screenGate bay).screen.sensing = some .diff
    ∧ bay.screen.sensing = some .diff ∧ (screenGate gained).screen.sensing = some .diff
    ∧ gained.screen.sensing = some .switch
    ∧ (screenGate bay).screen.condition = bay.screen.condition
    ∧ (screenGate gained).screen.condition ≠ gained.screen.condition := by decide +kernel
/-- O48: a message of the house is being sent when the gap is found. -/
theorem witness_BadMessages_keyed : PumpSafe keyed ∧ RakeSafe keyed ∧ keyed.reporter.mode = .active
    ∧ keyed.reporter.port = .keyUp 10 ∧ partialMessage [0x5A#8] = true :=
  both (by decide +kernel) (by decide +kernel)
theorem test_gap_while_keyed : (after (.characterGapTimeout [0x5A#8]) keyed).reporter.badMessages = 1
    ∧ moves (.townPoll (town 1 3 [])) keyed = false := by decide +kernel
/-- O47: outputs in each mode, on and off an alarm source, and records in each state. -/
def standsIn (st : AlarmState) : State := { faulted with alarms := { faulted.alarms with
  records := faulted.alarms.records.map fun r => if r.state = .activeUnack then { r with state := st }
    else r } }
theorem witness_Panel_covered (st : AlarmState) (h : st ≠ .normal) :
    (recordOf (standsIn st) .thermalTrip).enabled = true
    ∧ (recordOf (standsIn st) .thermalTrip).state = st ∧ urgentCode .thermalTrip = true
    ∧ cfg.outputs[3]? = some ⟨10, false, .annunciated, 0⟩
    ∧ cfg.outputs[5]? = some ⟨12, false, .annunciated, 0⟩
    ∧ cfg.outputs[6]? = some ⟨11, false, .pulse, 15⟩
    ∧ cfg.outputs[0]? = some ⟨5, false, .steady, 3⟩ := by
  cases st
  · exact absurd rfl h
  all_goals decide +kernel

/-! ### Limits, and the frame ends of the house -/

/-- O20: each count reaches its limit at a frame end that leaves the line state as it is. -/
theorem witness_FrameUpdatesPeers_limits :
    let run := frameEndOf 0 (withLine (fun l => { l with goodRun := 4 }) listenFrame)
    let own := frameEndOf (cellsOf [stationCell 2])
      (withLine (fun l => { l with ownCount := 1 }) listenFrame)
    let absent := frameEndOf 0 (withLine (fun l => { l with presenceFail := 2, aloneCount := 9 }) telling)
    let fault := frameEndOf 0 (withLine (fun l => { l with faultGood := 9 }) faultFrame)
    run.line.goodRun = 5 ∧ run.line.mode = .listen ∧ own.line.ownCount = 2 ∧ own.line.mode = .listen
    ∧ absent.line.presenceFail = 3 ∧ absent.line.aloneCount = 10 ∧ absent.line.mode = .joined
    ∧ absent.line.alone = false ∧ fault.line.faultGood = 10 ∧ fault.line.mode = .lineFault := by
  decide +kernel
/-- O21: a lead unusable for the fiftieth time, no lead for the third, the lead unmoved. -/
theorem witness_FrameFormsDemand_limits :
    let unusable := frameEndOf (leadFrame []) (withDuty (fun d => { d with leadUnusable := 49 })
      (cycling false false))
    let none3 := frameEndOf 0 (withDuty (fun d => { d with noLead := 2 }) (cycling false false))
    unusable.duty.leadUnusable = 50 ∧ unusable.duty.holdsLead = false ∧ unusable.duty.lead = some 5
    ∧ none3.duty.noLead = 3 ∧ none3.duty.holdsLead = false ∧ none3.duty.lead = none := by decide +kernel
/-- O27: bay 2 gave the lead up to bay 1 at the frame end whose handover comes next, and takes it. -/
theorem witness_LeadAndAlone_again :
    let s := withDuty (fun d => { d with leadUnusable := 49 }) (cycling false true)
    let t := frameEndOf (cellsOf [stationCell 2, stationCell 1, stationCell 1 + 1]) s
    t.duty.leadUnusable = 50 ∧ t.duty.holdsLead = false ∧ nextLead t = some 2
    ∧ (after .leadUnusableHandover t).duty.holdsLead = true := by decide +kernel
/-- O32: the third quiet frame and the sixth open field leave a standby station STANDBY. -/
theorem witness_RoleTaken_limits :
    (frameEndOf 0 (claimRole .standby)).reporter.holdQuiet = 3
    ∧ (frameEndOf 0 (claimRole .standby)).reporter.mode = .standby
    ∧ (frameEndOf 0 (withLine (fun l => { l with receiver := .inside })
        (withReporter (fun r => { r with openField := 5 }) at7))).reporter.openField = 6
    ∧ (frameEndOf 0 (withLine (fun l => { l with receiver := .inside })
        (withReporter (fun r => { r with openField := 5 }) at7))).reporter.mode = .standby := by
  decide +kernel
/-- A notice in the cells of a frame. -/
def noticeFrame (e : NoticeEntry) : Cells :=
  noticeCells (bodyOf e) (crc8 (bodyOf e)) ||| cellsOf [28]
/-- The reporter in a frame that it did not drive, an OVERFLOW_END of bay 3 waiting, a command carried. -/
def counting (n : Nat) : State := withLine (fun l => { l with receiver := .inside })
  (withReporter (fun r => { r with
    pairing := r.pairing.set 3 (some ⟨1, 207, n⟩), command := some ⟨4, 1, 4, 9, true, n⟩ }) reporting)
/-- R153, R165: both count a frame end, up to 20; a result is answered first. -/
theorem test_frame_counts :
    waitingEndOf (frameEndOf 0 (counting 19)) 3 = some ⟨1, 207, 20⟩
    ∧ (frameEndOf 0 (counting 20)).reporter.command.map (·.count) = some 20
    ∧ (frameEndOf (noticeFrame (newEntry .commandResult 4 1 0 0 true)) (counting 19)).reporter.answers
      = [⟨.done, 4, 9⟩] := by decide +kernel
/-- R153: a SUMMARY of the frame is recorded, an OVERFLOW_END of the frame counts it. -/
theorem test_frame_records :
    (frameEndOf (noticeFrame (newEntry .summary 5 2 0 77 false)) (counting 0)).reporter.history
      = [⟨.summary, 5, 2, 0, 77, none, none⟩]
    ∧ waitingEndOf (frameEndOf (noticeFrame (newEntry .overflowEnd 5 0 1 9 true)) (counting 0)) 5
      = some ⟨1, 9, 1⟩ := by decide +kernel
/-- O31. -/
theorem witness_Reporter_frame : (counting 19).line.receiver = .inside
    ∧ (counting 19).reporter.mode = .active ∧ (counting 19).line.mode ≠ .lineFault
    ∧ (frameEndOf 0 (counting 19)).reporter.mode = .active
    ∧ (counting 19).reporter.command = some ⟨4, 1, 4, 9, true, 19⟩
    ∧ (counting 19).notices.queue.all (!·.forContext) = true
    ∧ noticeOf (noticeFrame (newEntry .summary 5 2 0 77 false)) = some ⟨.summary, 5, 2, 0, 77⟩ := by
  decide +kernel
/-- O32: address 4 begins to hold while THERMAL_TRIP stands at a bay whose records agree. -/
def refreshed : State := withLine (fun l => { l with receiver := .inside }) faulted
theorem witness_RoleTaken_refreshed (c : AlarmCode) : refreshed.line.receiver = .inside
    ∧ noticeField (cellsOf [20, 22]) = 15 ∧ (cellsOf [20, 22]).getLsbD 11 = false
    ∧ refreshed.line.drive = none
    ∧ (frameEndOf (cellsOf [20, 22]) refreshed).line.mode = refreshed.line.mode
    ∧ (frameEndOf (cellsOf [20, 22]) refreshed).reporter.mode = refreshed.reporter.mode
    ∧ refreshed.notices.lastHolder ≠ holderOf (cellsOf [20, 22])
    ∧ refreshEntries refreshed ≠ []
    ∧ rawCondition (frameEndOf (cellsOf [20, 22]) refreshed) c = (recordOf refreshed c).raw := by
  cases c <;> decide +kernel
/-- R144: the refresh hands THERMAL_TRIP again. -/
theorem test_refresh_at_frame_end :
    (frameEndOf (cellsOf [20, 22]) { refreshed with notices := { refreshed.notices with queue := [] } }
      ).notices.queue.map (·.code) = (refreshOrder refreshed).map fun x => codeNumber x.1 := by
  decide +kernel

/-! ### Claim results, broken frames, the previous running set -/

/-- Bay 2 in a frame with its notice claim won, and the queue at its end. -/
def wonFrame : State := after (.noticeClaimWon 2#4) telling
def attemptsAfter (c : Instr) (s : State) : List (Nat × Nat × Bool) :=
  (after c s).notices.queue.map fun x => (x.code, x.attempts, x.inFlight)
/-- R13, R138: carried with every cell read back, not carried with one that differs or in a bad frame,
lost without the claim. -/
theorem test_notice_results :
    attemptsAfter (.goodFrameEnd 4 (driven wonFrame)) wonFrame = []
    ∧ attemptsAfter (.goodFrameEnd 4 (driven wonFrame ^^^ cellsOf [135])) wonFrame = [(9, 1, false)]
    ∧ attemptsAfter (.goodFrameEnd 4 (driven telling)) telling = [(9, 0, false)]
    ∧ attemptsAfter (.badFrame 7) wonFrame = [(9, 1, false)]
    ∧ attemptsAfter (.badFrame 7) telling = [(9, 0, false)] := by decide +kernel
/-- O28: an own frame whose records agree with their conditions at its end, won and read back, and lost;
and a frame in which the bay did not contend. -/
theorem witness_NoticeHanded_won (code : AlarmCode) :
    (wonFrame.line.drive.any fun d => d.noticeKey.isSome
      && noticeReadBack d.cells (driven wonFrame)) = true
    ∧ wonFrame.line.noticeWon = true ∧ wonFrame.line.receiver = .inside
    ∧ (frameEndOf (driven wonFrame) wonFrame).line.mode = wonFrame.line.mode
    ∧ (driven wonFrame).getLsbD 11 = false
    ∧ (frameEndOf (driven wonFrame) wonFrame).notices.lastHolder = wonFrame.notices.lastHolder
    ∧ rawCondition (frameEndOf (driven wonFrame) wonFrame) code = (recordOf wonFrame code).raw
    ∧ (frameEndOf (driven wonFrame) wonFrame).reporter.mode = wonFrame.reporter.mode
    ∧ wonFrame.reporter.command = none := by
  cases code <;> decide +kernel
theorem witness_NoticeHanded_lost (code : AlarmCode) : telling.line.noticeWon = false
    ∧ (frameEndOf 0 telling).line.mode = telling.line.mode
    ∧ (frameEndOf 0 telling).notices.lastHolder = telling.notices.lastHolder
    ∧ rawCondition (frameEndOf 0 telling) code = (recordOf telling code).raw
    ∧ listenFrame.line.drive = none
    ∧ (frameEndOf 0 listenFrame).line.mode = listenFrame.line.mode
    ∧ (frameEndOf 0 listenFrame).notices.lastHolder = listenFrame.notices.lastHolder
    ∧ rawCondition (frameEndOf 0 listenFrame) code = (recordOf listenFrame code).raw := by
  cases code <;> decide +kernel
/-- The reporter's own COMMAND in flight for the command from town, its claim won. -/
def carriedFrame : State := after (.noticeClaimWon 2#4) (inFrame (withReporter (fun r => { r with
    command := some ⟨4, 1, 4, 9, false, 0⟩ }) (withNotices (fun n => { n with
      queue := [{ newEntry .command 4 1 0 0 true with forContext := true }] }) reporting)))
/-- R138, R165. -/
theorem test_command_carried :
    (frameEndOf (driven carriedFrame) carriedFrame).reporter.command.map (·.carried) = some true
    ∧ (frameEndOf (driven carriedFrame ^^^ cellsOf [96]) carriedFrame).reporter.command.map (·.carried)
      = some false := by decide +kernel
theorem witness_NoticeHanded_relayed : (carriedFrame.line.drive.any (·.noticeKey.isSome)) = true
    ∧ carriedFrame.line.receiver = .inside
    ∧ carriedFrame.notices.queue.find? (·.inFlight)
      = some { newEntry .command 4 1 0 0 true with inFlight := true, forContext := true }
    ∧ carriedFrame.reporter.command = some ⟨4, 1, 4, 9, false, 0⟩
    ∧ (frameEndOf (driven carriedFrame) carriedFrame).reporter.command = some ⟨4, 1, 4, 9, true, 0⟩ := by
  decide +kernel
/-- O22: a frame found bad with the claim won, and one in which nothing was driven. -/
theorem witness_BadFrameCounted_won : PumpSafe wonFrame ∧ RakeSafe wonFrame
    ∧ wonFrame.line.receiver = .inside ∧ wonFrame.line.noticeWon = true
    ∧ (wonFrame.line.drive.any (·.noticeKey.isSome)) = true :=
  both (by decide +kernel) (by decide +kernel)
theorem witness_BadFrameCounted_none : PumpSafe listenFrame ∧ RakeSafe listenFrame
    ∧ listenFrame.line.receiver = .inside ∧ listenFrame.line.drive = none :=
  both (by decide +kernel) (by decide +kernel)

/-- Bay 2 JOINED, THERMAL_TRIP waiting to be acknowledged and released, its notice in flight on a won
claim, an ACK press waiting for the next frame start. -/
def breaking (f : Line → Line) : State :=
  let s := withInput .thermal ⟨false, 0, false⟩ faulted
  let s := settle (withLine (fun l => { l with mode := .joined, receiver := .outside, recessiveRun := 10 }) s)
  let s := after (.noticeClaimWon 2#4) (inFrame s)
  withLine f { s with alarms := { s.alarms with ackPress := true } }
def breakingBay (s : State) : Bool :=
  lineBay s && @decide _ (alarmDec s) && @decide _ (queueDec s)
theorem breaks {s : State} {p : Prop} (h : breakingBay s = true) (hp : p) :
    LineSafe s ∧ ReporterSafe s ∧ AlarmSafe s ∧ QueueSafe s ∧ p := by
  simp only [breakingBay, lineBay, Bool.and_eq_true, decide_eq_true_eq] at h
  exact ⟨h.1.1.1, h.1.1.2, h.1.2, h.2, hp⟩
/-- O24, O25: JOINED, inside a frame, an ACK waiting, an entry in flight, nothing lost. -/
theorem witness_BrokenOff (n : Nat) (h : n = 0 ∨ n = 3) :
    let s := breaking fun l => { l with presenceFail := n }
    LineSafe s ∧ ReporterSafe s ∧ AlarmSafe s ∧ QueueSafe s
    ∧ loaded s = true ∧ captured s = true ∧ s.line.mode = .joined ∧ s.line.receiver = .inside
    ∧ s.line.presenceFail = n ∧ s.line.stuck ≤ 160 ∧ s.alarms.ackPress = true
    ∧ s.notices.lost < 255 ∧ s.notices.queue.any (·.inFlight) = true ∧ s.line.noticeWon = true
    ∧ (after (.jabberTrip 161) s).notices.lost = s.notices.lost
    ∧ (after (.stuckCondition 161) s).notices.lost = s.notices.lost := by
  obtain rfl | rfl := h <;> exact breaks (by decide +kernel) (by decide +kernel)
/-- R8, R125, R137: the ACK is withdrawn and acknowledges THERMAL_TRIP to NORMAL, the pump leaves FAULTED,
the frame is counted, the notice has made an attempt. -/
theorem test_breaks_off (c : Instr) (h : c = .jabberTrip 161 ∨ c = .stuckCondition 161) :
    let t := after c (breaking id)
    t.alarms.ackPress = false ∧ t.notices.holdoff = false
    ∧ (recordOf t .thermalTrip).state = .normal ∧ t.duty.pump ≠ .faulted
    ∧ t.line.badFrames = 1 ∧ t.line.receiver = .searching
    ∧ (breaking id).notices.holdoff = true
    ∧ (recordOf (breaking id) .thermalTrip).state = .activeUnack
    ∧ ((t.notices.queue.filter fun x => x.code == 1).map (·.attempts)) = [1] := by
  obtain rfl | rfl := h <;> decide +kernel
/-- O25: a stuck line in ISOLATED and in LINE_FAULT, inside a frame and outside one. -/
def stuckIn (mode : LineMode) (receiver : Receiver) : State := withLine (fun l => { l with
  mode := mode, driver := if mode = .isolated then .cut else .released, receiver := receiver
  faultGood := 9 }) bay
theorem witness_LineFaults_kept (mode : LineMode) (receiver : Receiver)
    (h : mode = .isolated ∨ mode = .lineFault) :
    PumpSafe (stuckIn mode receiver) ∧ RakeSafe (stuckIn mode receiver) ∧ LineSafe (stuckIn mode receiver)
    ∧ captured (stuckIn mode receiver) = true ∧ (stuckIn mode receiver).line.stuck ≤ 160
    ∧ (stuckIn mode receiver).line.mode = mode ∧ (stuckIn mode receiver).line.receiver = receiver := by
  have q : quietBay (stuckIn mode receiver) = true ∧ lineBay (stuckIn mode receiver) = true := by
    obtain rfl | rfl := h <;> cases receiver <;> decide +kernel
  refine both q.1 ⟨(lines q.2 trivial).1, ?_, ?_, rfl, rfl⟩
  all_goals obtain rfl | rfl := h <;> cases receiver <;> decide +kernel
/-- R20, R21: noted in ISOLATED; in LINE_FAULT a frame in progress breaks the run of good frames. -/
theorem test_stuck_kept :
    (after (.stuckCondition 161) (stuckIn .isolated .outside)).line.stuck = 161
    ∧ (after (.stuckCondition 161) (stuckIn .isolated .outside)).line.mode = .isolated
    ∧ (after (.stuckCondition 161) (stuckIn .lineFault .inside)).line.faultGood = 0
    ∧ (after (.stuckCondition 161) (stuckIn .lineFault .inside)).line.badFrames = 1 := by decide +kernel
/-- R71: bays 2 (the own), 5 and 6 show RUNNING, bay 6 YIELDING as well. -/
theorem test_previous_running : (frameEndOf (cellsOf [stationCell 2, stationCell 2 + 3, stationCell 5,
    stationCell 5 + 3, stationCell 6, stationCell 6 + 3, stationCell 6 + 6]) telling).duty.prevRunning
      = [5] := by decide +kernel

/-! ### The pump, the rake and the alarm view at a good frame end -/

/-- A frame end with no stop hold, no dominant ALL_STOP or DRY cell where they count, and no clash. -/
def plainFrame (c : Cells) (s : State) : Bool :=
  @decide _ (pumpDec s) && loaded s && s.line.receiver == .inside
  && !isActive s .allStop && !isActive s .lowFloat && !isActive s .thermal
  && (s.line.mode == .lineFault || (!c.getLsbD 8 && !c.getLsbD 27))
  && (s.line.mode != .joined || [1, 2, 3, 4, 5, 6, 7].all fun i =>
    !c.getLsbD (stationCell (ownAddress s) + i) || (driven s).getLsbD (stationCell (ownAddress s) + i))
theorem plainFrame_premises {c : Cells} {s : State} (h : plainFrame c s = true) :
    PumpSafe s ∧ loaded s = true ∧ s.line.receiver = .inside
    ∧ isActive s .allStop = false ∧ isActive s .lowFloat = false ∧ isActive s .thermal = false
    ∧ (s.line.mode ≠ .lineFault → c.getLsbD 8 = false ∧ c.getLsbD 27 = false)
    ∧ ∀ d, s.line.mode = .joined → s.line.drive = some d → ∀ i ∈ [1, 2, 3, 4, 5, 6, 7],
      c.getLsbD (stationCell (ownAddress s) + i) = true →
      d.cells.getLsbD (stationCell (ownAddress s) + i) = true := by
  simp only [plainFrame, Bool.and_eq_true, decide_eq_true_eq, beq_iff_eq, Bool.not_eq_true',
    Bool.or_eq_true] at h
  obtain ⟨⟨⟨⟨⟨⟨⟨p, l⟩, i⟩, a⟩, b⟩, t⟩, c8⟩, k⟩ := h
  refine ⟨p, l, i, a, b, t, fun n => c8.resolve_left n, fun d m e i hi hc => ?_⟩
  obtain k | k := k
  · simp [m] at k
  · have := List.all_eq_true.1 k i hi
    simpa [driven, e, hc] using this
def inside (mode : LineMode) (s : State) : State := withLine (fun l => { l with
  mode := mode, receiver := .inside }) s
def yieldingFrame : State := inFrame (withDuty (fun d => { d with yielding := true }) running)
/-- The COMMAND of `commandFrame` and all that `claiming` drives, its stage with it. -/
def toldFrame : Cells := driven claiming ||| cellsOf [0, 28] ||| commandFrame
/-- R61, R63, R72, R74, R75, R76, R85: cells, bay, and the pump's state and contactor after them. -/
def frameResults : List (Cells × State × PumpState × Bool) := [
  (driven (inFrame joined) ||| cellsOf [0], inFrame joined, .startWait, false),
  (0, inFrame joined, .idle, false),
  (driven claiming ||| cellsOf [0], claiming, .starting, true),
  (driven claiming ||| cellsOf [0, 19], claiming, .startWait, false),
  (driven claiming ||| cellsOf [0, 24], claiming, .startWait, false),
  (cellsOf [0], claiming, .startWait, false),
  (0, claiming, .idle, false),
  (0, inFrame starting, .starting, true),
  (0, inFrame runOver, .lockedOff, false),
  (0, inFrame running, .running, true),
  (driven (inFrame runOver) ||| cellsOf [0], inFrame runOver, .running, true),
  (0, yieldingFrame, .lockedOff, false),
  (driven yieldingFrame ||| cellsOf [0], yieldingFrame, .running, true),
  (0, inside .listen inHand, .hand, true),
  (0, inside .joined (offOver .lockedOff), .lockedOff, false),
  (0, inside .joined (offOver .outOfService), .outOfService, false),
  (0, inside .listen runOver, .lockedOff, false),
  (0, inside .listen running, .running, true),
  (cellsOf [0], inside .listen runOver, .running, true),
  (0, inside .listen bay, .idle, false),
  (0, inside .isolated bay, .idle, false),
  (cellsOf [8, 27], inside .lineFault running, .running, true)]
theorem test_frame_results : frameResults.all (fun x =>
    (frameEndOf x.1 x.2.1).duty.pump == x.2.2.1 && (frameEndOf x.1 x.2.1).duty.contactor == x.2.2.2)
      = true := by decide +kernel
/-- O41: in each of these, and where an inhibit is carried; the claim won, and what it is called by. -/
theorem witness_FrameStarts : (frameResults.all fun x => plainFrame x.1 x.2.1) = true
    ∧ plainFrame toldFrame claiming = true := by decide +kernel
theorem witness_FrameStarts_joined : IsAvailable claiming ∧ IsAvailable (inFrame joined)
    ∧ (frameEndOf (driven claiming ||| cellsOf [0]) claiming).duty.index = some 0
    ∧ (frameEndOf (driven claiming ||| cellsOf [0]) claiming).stager.dEff = 2
    ∧ (claiming.line.drive.map (·.startKey))
      = some (some (.duty, startField (driven claiming ||| cellsOf [0])))
    ∧ 50 ≤ claiming.duty.supplyQuiet
    ∧ (noticeOf toldFrame).map (fun r => (r.kind, r.subject, r.code)) = some (.command, 2, 1)
    ∧ (frameEndOf 0 (inFrame runOver)).stager.dEff = 0
    ∧ 2 ∈ (frameEndOf 0 (inFrame runOver)).duty.dutyList
    ∧ (peer (frameEndOf 0 (inFrame runOver)) 2).running = true
    ∧ minRunExpired runOver = true ∧ minRunExpired running = false := by
  unfold IsAvailable
  decide +kernel

/-- O11: a frame end whose ALL_STOP cell 27 or DRY cell 8 reads dominant, in JOINED with the own cells
read back and with a clash, and in LISTEN; a T_minoff of 0. -/
def freeOff (s : State) : State := { s with cfg := { s.cfg with tMinOff := 0 } }
def cellStops : List (Cells × State × PumpState) := [
  (driven (inFrame running) ||| cellsOf [27], inFrame running, .lockedOff),
  (driven (inFrame running) ||| cellsOf [8], inFrame running, .lockedOff),
  (driven (inFrame starting) ||| cellsOf [8], inFrame starting, .lockedOff),
  (cellsOf [27, stationCell 2 + 1], inFrame running, .lockedOff),
  (cellsOf [8], inside .listen running, .lockedOff),
  (cellsOf [27], inside .listen (freeOff running), .idle),
  (driven (inFrame (freeOff running)) ||| cellsOf [0, 8], inFrame (freeOff running), .idle),
  (cellsOf [27], inside .listen inHand, .hand),
  (cellsOf [8], inside .listen inHand, .hand)]
theorem test_cells_stop : cellStops.all (fun x => (frameEndOf x.1 x.2.1).duty.pump == x.2.2
    && !(frameEndOf x.1 x.2.1).duty.contactor) = true := by decide +kernel
theorem test_cells_stop_rake :
    (frameEndOf (cellsOf [27]) (raking (inside .listen running))).screen.rake = .idle
    ∧ (frameEndOf (cellsOf [27]) (raking (inside .listen running))).screen.motor = false
    ∧ (frameEndOf (cellsOf [8]) (raking (inside .listen running))).screen.rake = .run
    ∧ (frameEndOf (cellsOf [27]) (raking (inside .lineFault running))).screen.rake = .run
    ∧ (frameEndOf (cellsOf [27]) (raking (inside .lineFault running))).duty.pump = .running := by
  decide +kernel
theorem witness_StopsAreTaken_cells : (cellStops.all fun x => quietBay x.2.1
      && x.2.1.line.receiver == .inside && (x.1.getLsbD 27 || x.1.getLsbD 8)) = true
    ∧ quietBay (raking (inside .listen running)) = true
    ∧ quietBay (raking (inside .lineFault running)) = true
    ∧ (frameEndOf (cellsOf [27, stationCell 2 + 1]) (inFrame running)).line.mode = .isolated := by
  decide +kernel

/-- Bay 2 in a frame, bays 3 and 5 fresh, bay 5 by its last frame; an alarm in the view of 2, 3 and 5. -/
def viewing : State := inFrame (withReporter (fun r => { r with
    alarmView := [[], [], [4], [9], [], [1], [], []] }) (withLine (fun l => { l with
      peers := (l.peers.set 3 { PeerEntry.unheard with heard := true, age := 0 }).set 5
        { PeerEntry.unheard with heard := true, age := 2 } }) reporting))
def viewOf (c : Cells) (s : State) : List (List Nat) := (frameEndOf c s).reporter.alarmView
/-- R153: bay 5 unheard a third time; bay 2 isolated by a clash; the ALARM of bay 5 that its last frame
carries set and cleared; a frame in which bay 5 is heard. -/
theorem test_view_emptied : viewOf 0 viewing = [[], [], [4], [9], [], [], [], []]
    ∧ viewOf (cellsOf [stationCell 2 + 1]) viewing = [[], [], [], [9], [], [], [], []]
    ∧ viewOf (noticeFrame (newEntry .alarm 5 7 1 1 true)) viewing
      = [[], [], [4], [9], [], [7], [], []]
    ∧ viewOf (cellsOf [stationCell 3]) viewing = [[], [], [4], [9], [], [], [], []]
    ∧ viewOf (cellsOf [stationCell 5]) viewing = [[], [], [4], [9], [], [1], [], []] := by
  decide +kernel
/-- O31. -/
theorem witness_Reporter_view : viewing.line.receiver = .inside ∧ viewing.reporter.alarmView.length = 8
    ∧ freshAt viewing 5 = true ∧ freshAt (frameEndOf 0 viewing) 5 = false
    ∧ freshAt viewing 2 = true
    ∧ freshAt (frameEndOf (cellsOf [stationCell 2 + 1]) viewing) 2 = false
    ∧ (noticeOf (noticeFrame (newEntry .alarm 5 7 1 1 true))).map (·.kind) = some .alarm := by
  decide +kernel

/-- Reporter 2 in JOINED, D_eff 3, bay 3 fresh and LEAD with an alarm, bay 5 RUNNING but not fresh, the
clock unset, urgent action alone enabled, 7 bad messages, 9 lost reports. -/
def reportedHouse : List PeerEntry := ((List.replicate 8 PeerEntry.unheard).set 3
  { PeerEntry.unheard with heard := true, age := 0, lead := true }).set 5
  { PeerEntry.unheard with running := true }
def statusBay : State := demanding 3 (withReporter (fun r => { r with
    urgentEnable := true, routineEnable := false, badMessages := 7, lostReports := 9
    alarmView := [[], [], [], [9], [], [], [], []] })
  (withLine (fun l => { l with peers := reportedHouse }) reporting))
/-- 11.2, with E_A 2600 (0A28H). -/
theorem test_status_body : statusBody statusBay
    = [2, 1, 3, 0, 0, 1, 0x83, 0, 8, 0, 0, 0x0A, 0x28, 3, 7, 9] := by decide +kernel
/-- 11.2: FFFFh with channel A faulted. -/
theorem test_status_no_level : ((statusBody { reporting with chanA := { reporting.chanA with
    mode := .faulted } }).drop 11).take 2 = [0xFF, 0xFF] := by decide +kernel

/-! ### The order of notices of one command -/

/-- The example after R165: the COMMAND_RESULT, then ALARM OUT_OF_SERVICE. -/
theorem test_result_before_alarm :
    (after .commandSetInhibit (withNotices (fun n => { n with command := some 1 }) running)
      ).notices.queue.map (fun x => (x.kind, x.code)) = [(.commandResult, 1), (.alarm, 22)] := by
  decide +kernel

end Sys2Proof.Tests.Slice0
end

section
/-! SUPPORT. Frames of the events: what an event of the pump, the screen, the demand, the house or the
line can reach at all. A later proof cites these and unfolds none of the operations. -/

namespace Sys2Proof.Machine

open Sys2Proof

variable {s t u : State}

/-! ### The plant: demand, pump and screen -/

/-- Only the Demand Stager, the Duty Controller and the Screen Controller differ. -/
def OnlyPlant (s t : State) : Prop :=
  t = { s with stager := t.stager, duty := t.duty, screen := t.screen }

theorem OnlyPlant.refl (s : State) : OnlyPlant s s := rfl

theorem OnlyPlant.trans (h : OnlyPlant s t) (k : OnlyPlant t u) : OnlyPlant s u :=
  Eq.trans k ((congrArg (fun x : State =>
    { x with stager := u.stager, duty := u.duty, screen := u.screen }) h).trans rfl)

theorem OnlyDuty.onlyPlant (h : OnlyDuty s t) : OnlyPlant s t := by
  unfold OnlyPlant
  rw [h]
  rfl

theorem OnlyScreen.onlyPlant (h : OnlyScreen s t) : OnlyPlant s t := by
  unfold OnlyPlant
  rw [h]
  rfl

theorem OnlyPlant.line (h : OnlyPlant s t) : t.line = s.line := (congrArg (·.line) h).trans rfl
theorem OnlyPlant.alarms (h : OnlyPlant s t) : t.alarms = s.alarms := (congrArg (·.alarms) h).trans rfl
theorem OnlyPlant.notices (h : OnlyPlant s t) : t.notices = s.notices :=
  (congrArg (·.notices) h).trans rfl
theorem OnlyPlant.reporter (h : OnlyPlant s t) : t.reporter = s.reporter :=
  (congrArg (·.reporter) h).trans rfl

/-! ### The pump's operations (chapter 4) -/

theorem OnlyDuty.refl (s : State) : OnlyDuty s s := rfl

theorem OnlyDuty.of_ite {p : Prop} [Decidable p] {a b : State} (h : OnlyDuty s a)
    (k : OnlyDuty s b) : OnlyDuty s (if p then a else b) := by
  split <;> assumption

theorem enterOutOfService_onlyDuty (s : State) : OnlyDuty s (enterOutOfService s) :=
  (openContactor_onlyDuty s).trans (setDuty_onlyDuty _ _)

theorem enterHand_onlyDuty (s : State) : OnlyDuty s (enterHand s) :=
  .of_ite rfl ((setDuty_onlyDuty s _).trans (closeInHand_onlyDuty _))

theorem enterFaulted_onlyDuty (c : AlarmCode) (s : State) : OnlyDuty s (enterFaulted c s) :=
  (openContactor_onlyDuty s).trans (setDuty_onlyDuty _ _)

theorem answerMode_onlyDuty (s : State) : OnlyDuty s (answerMode s) := by
  unfold answerMode
  split
  · exact .of_ite rfl (enterOutOfService_onlyDuty s)
  · exact .of_ite rfl (enterHand_onlyDuty s)
  · exact .of_ite (.of_ite (enterOutOfService_onlyDuty s) (enterLockedOff_onlyDuty s)) rfl

theorem reformMode_onlyDuty (s : State) : OnlyDuty s (reformMode s) :=
  .of_ite rfl ((setDuty_onlyDuty s _).trans (answerMode_onlyDuty _))

theorem stopAutomatic_onlyDuty (s : State) : OnlyDuty s (stopAutomatic s) :=
  .of_ite (enterLockedOff_onlyDuty s) rfl

theorem setInhibit_onlyDuty (s : State) : OnlyDuty s (setInhibit s) :=
  (setDuty_onlyDuty s _).trans (.of_ite (enterOutOfService_onlyDuty _) rfl)

theorem clearInhibit_onlyDuty (s : State) : OnlyDuty s (clearInhibit s) :=
  (setDuty_onlyDuty s _).trans (.of_ite (enterLockedOff_onlyDuty _) rfl)

theorem confirmActivated_onlyDuty (s : State) : OnlyDuty s (confirmActivated s) :=
  .of_ite ((setDuty_onlyDuty s _).trans (.of_ite rfl rfl)) rfl

theorem confirmReleased_onlyDuty (s : State) : OnlyDuty s (confirmReleased s) := .of_ite rfl rfl

theorem moistureActivated_onlyDuty (s : State) : OnlyDuty s (moistureActivated s) :=
  .of_ite (stopAutomatic_onlyDuty s) rfl

theorem fallbackStop_onlyDuty (s : State) : OnlyDuty s (fallbackStop s) :=
  .of_ite (enterLockedOff_onlyDuty s) rfl

theorem startPump_onlyDuty (s : State) : OnlyDuty s (startPump s) := rfl

theorem minOffStep_onlyDuty (s : State) : OnlyDuty s (minOffStep s) :=
  (setDuty_onlyDuty s _).trans (.of_ite (enterIdle_onlyDuty _) rfl)

theorem inrushStep_onlyDuty (s : State) : OnlyDuty s (inrushStep s) :=
  (setDuty_onlyDuty s _).trans (.of_ite rfl rfl)

/-! ### The demand (chapter 3) -/

theorem OnlyPlant.of_ite {p : Prop} [Decidable p] {a b : State} (h : OnlyPlant s a)
    (k : OnlyPlant s b) : OnlyPlant s (if p then a else b) := by
  split <;> assumption

theorem reformLocal_onlyPlant (s : State) : OnlyPlant s (reformLocal s) :=
  .of_ite (OnlyPlant.trans (t := setStager (setDuty s _) _) rfl (fallbackStop_onlyDuty _).onlyPlant)
    rfl

theorem formDemand_onlyPlant (c : Cells) (s : State) : OnlyPlant s (formDemand c s) :=
  .of_ite rfl (.of_ite rfl rfl)

/-! ### The duty work of a good frame end -/

theorem pumpWork_onlyDuty (won : Bool) (c : CommonCells) (s : State) :
    OnlyDuty s (pumpWork won c s) := by
  unfold pumpWork
  split
  · exact .of_ite (.of_ite (startPump_onlyDuty s) rfl) (enterIdle_onlyDuty s)
  · exact .of_ite rfl rfl
  · exact .of_ite (.of_ite (enterLockedOff_onlyDuty s) rfl) (.of_ite (enterLockedOff_onlyDuty s) rfl)
  all_goals rfl

theorem dutyFrame_onlyDuty (won : Bool) (c : CommonCells) (s : State) :
    OnlyDuty s (dutyFrame won c s) := by
  have hold : ∀ v : State, OnlyDuty v (holdChangeover v) := fun v => .of_ite rfl rfl
  have stop : ∀ v : State, OnlyDuty v (listenStop v) := fun v =>
    .of_ite (stopAutomatic_onlyDuty v) rfl
  refine OnlyDuty.trans (t := holdChangeover (countDuty c.supplyLow (testUnplanned (formDutyList s))))
    (OnlyDuty.trans (t := countDuty c.supplyLow (testUnplanned (formDutyList s))) rfl (hold _)) ?_
  unfold dutyFrame
  refine OnlyDuty.trans ?_ (setDuty_onlyDuty _ _)
  split
  · exact OnlyDuty.trans (setDuty_onlyDuty _ _)
      (OnlyDuty.trans (setDuty_onlyDuty _ _) (pumpWork_onlyDuty won c _))
  · exact OnlyDuty.trans (setDuty_onlyDuty _ _) (stop _)
  all_goals rfl

/-! ### The screen and the rake (chapter 5) -/

theorem setCondition_onlyPlant (c : ScreenCondition) (s : State) : OnlyPlant s (setCondition c s) :=
  .of_ite rfl (OnlyPlant.trans (t := setScreen s _) rfl
    (.of_ite (stopAutomatic_onlyDuty _).onlyPlant rfl))

theorem findSwitch_onlyPlant (s : State) : OnlyPlant s (findSwitch s) :=
  .of_ite (OnlyPlant.trans (t := setScreen s _) rfl (.of_ite (setCondition_onlyPlant _ _) rfl)) rfl

theorem takeSwitch_onlyPlant (s : State) : OnlyPlant s (takeSwitch s) :=
  .of_ite (OnlyPlant.trans (t := setScreen s _) rfl (setCondition_onlyPlant _ _))
    (findSwitch_onlyPlant s)

theorem diffGate_onlyPlant (s : State) : OnlyPlant s (diffGate s) :=
  OnlyPlant.trans (t := setScreen s _) rfl (setCondition_onlyPlant _ _)

theorem leaveSensing_onlyPlant (s : State) : OnlyPlant s (leaveSensing s) :=
  (setCondition_onlyPlant _ s).trans rfl

theorem enterSensing_onlyPlant (m : SensingMode) (s : State) : OnlyPlant s (enterSensing m s) :=
  OnlyPlant.trans (t := setScreen s _) rfl (.of_ite (findSwitch_onlyPlant _) rfl)

theorem expireInterval_onlyPlant (s : State) : OnlyPlant s (expireInterval s) := .of_ite rfl rfl

theorem retakeFlush_onlyPlant (s : State) : OnlyPlant s (retakeFlush s) :=
  OnlyPlant.trans (t := setScreen s _) rfl (expireInterval_onlyPlant _)

theorem limitActivated_onlyPlant (s : State) : OnlyPlant s (limitActivated s) := .of_ite rfl rfl

theorem postRakeStep_onlyPlant (s : State) : OnlyPlant s (postRakeStep s) :=
  OnlyPlant.trans (t := setScreen s _) rfl (.of_ite (setCondition_onlyPlant _ _) rfl)

theorem judgeLocked_onlyPlant (s : State) : OnlyPlant s (judgeLocked s) := by
  unfold judgeLocked
  split
  · exact .of_ite (setCondition_onlyPlant _ s) rfl
  · exact .of_ite (setCondition_onlyPlant _ s) rfl
  all_goals rfl

theorem rakeFrame_onlyPlant (won : Bool) (c : CommonCells) (s : State) :
    OnlyPlant s (rakeFrame won c s) := .of_ite rfl rfl

/-- The blocks that read the plant's cells at a good frame end reach nothing of the house. -/
theorem plantFrame_onlyPlant (c : Cells) (drive : Option Drive) (s : State) :
    OnlyPlant s (plantFrame c drive s) :=
  (formDemand_onlyPlant c s).trans <| (applyHold_onlyDuty _).onlyPlant.trans <|
    (applyRakeStop_onlyScreen _).onlyPlant.trans <| (dutyFrame_onlyDuty _ _ _).onlyPlant.trans <|
    (retakeFlush_onlyPlant _).trans (rakeFrame_onlyPlant _ _ _)

end Sys2Proof.Machine
end

section
/-! SUPPORT. Events that lie aside of the Line Interface and of what the Configuration Loader has
settled: one lemma per effect. -/

namespace Sys2Proof.Machine

open Sys2Proof

variable {s t u : State}

/-! ### Operations of the house (chapters 8 and 9) -/

theorem OnlyHouse.of_ite {p : Prop} [Decidable p] {a b : State} (h : OnlyHouse s a)
    (k : OnlyHouse s b) : OnlyHouse s (if p then a else b) := by
  split <;> assumption

theorem enterActive_onlyHouse (s : State) : OnlyHouse s (enterActive s) := by
  unfold enterActive
  exact (setReporter_onlyHouse s _).trans (buildRecord_onlyHouse _ _ _)

theorem dropSpent_onlyHouse (s : State) : OnlyHouse s (dropSpent s) := by
  unfold dropSpent
  split
  · rfl
  · exact OnlyHouse.trans (t := setQueue s _) rfl (loseEntry_onlyNotices _ _).onlyHouse

theorem answerCommand_onlyHouse (code result : Nat) (s : State) :
    OnlyHouse s (answerCommand code result s) :=
  OnlyHouse.trans (t := { s with notices := _ }) rfl (handNotice_onlyNotices _ _).onlyHouse

theorem pairingStep_onlyHouse (a : Nat) (s : State) : OnlyHouse s (pairingStep a s) := by
  unfold pairingStep
  split
  · exact OnlyHouse.trans (t := setPairing _ _ s) rfl (buildRecord_onlyHouse _ _ _)
  · rfl

theorem startDump_onlyHouse (m : TownMessage) (s : State) : OnlyHouse s (startDump m s) :=
  .of_ite rfl rfl

theorem relayCommand_onlyHouse (code : Nat) (m : TownMessage) (s : State) :
    OnlyHouse s (relayCommand code m s) :=
  .of_ite rfl (.of_ite rfl (OnlyHouse.trans (t := setReporter s _) rfl
    (handNotice_onlyNotices _ _).onlyHouse))

theorem answering_onlyHouse (m : TownMessage) (len : Nat) (inRange : Bool) {act : State → State}
    (h : ∀ s, OnlyHouse s (act s)) (s : State) : OnlyHouse s (answering m len inRange act s) :=
  .of_ite rfl (.of_ite rfl (.of_ite rfl (h s)))

theorem takeAck_onlyHouse (m : TownMessage) (s : State) : OnlyHouse s (takeAck m s) := by
  have flag : ∀ v : State, OnlyHouse v (if bodyByte m 0 ≠ 0 then
      { v with alarms := { v.alarms with ackTown := true } } else v) := fun v => .of_ite rfl rfl
  unfold takeAck
  refine .of_ite rfl (OnlyHouse.trans ?_ (flag _))
  split
  · exact .of_ite (.of_ite rfl rfl) rfl
  · rfl

theorem takeMessage_onlyHouse (isPoll : Bool) (chars : List Byte) {act : TownMessage → State → State}
    (h : ∀ m s, OnlyHouse s (act m s)) (s : State) : OnlyHouse s (takeMessage isPoll chars act s) := by
  unfold takeMessage
  split
  · exact OnlyHouse.trans (t := validTaken isPoll s) rfl (h _ _)
  · rfl

theorem sendFirst_onlyHouse (urgent : Bool) (s : State) : OnlyHouse s (sendFirst urgent s) := by
  unfold sendFirst
  dsimp only
  split <;> rfl

theorem resendFlight_onlyHouse (f : Flight) (n : Nat) (s : State) :
    OnlyHouse s (resendFlight f n s) := by
  unfold resendFlight
  split <;> rfl

theorem answerPoll_onlyHouse (a : Answer) (s : State) : OnlyHouse s (answerPoll a s) := by
  unfold answerPoll
  split
  · exact resendFlight_onlyHouse _ _ s
  · exact .of_ite (sendFirst_onlyHouse _ s) (.of_ite (sendFirst_onlyHouse _ s) rfl)

theorem sendAnswer_onlyHouse (a : Answer) (s : State) : OnlyHouse s (sendAnswer a s) := by
  unfold sendAnswer
  dsimp only
  split
  · exact OnlyHouse.trans (t := setReporter s _) rfl (answerPoll_onlyHouse _ _)
  all_goals rfl

theorem sendDump_onlyHouse (d : DumpContext) (s : State) : OnlyHouse s (sendDump d s) := by
  unfold sendDump
  refine .of_ite rfl ?_
  split <;> rfl

theorem portStep_onlyHouse (s : State) : OnlyHouse s (portStep s) := by
  unfold portStep givePort
  split
  · split
    · exact sendAnswer_onlyHouse _ s
    · split
      · exact resendFlight_onlyHouse _ _ s
      · rfl
    · exact OnlyHouse.trans (t := setReporter s _) rfl (sendFirst_onlyHouse _ _)
    · exact sendDump_onlyHouse _ s
    · exact sendFirst_onlyHouse _ s
  · rfl

theorem expireTa_onlyHouse (f : Flight) (s : State) : OnlyHouse s (expireTa f s) := .of_ite rfl rfl

/-! ### Aside of the line and of the loader -/

/-- The line, the straps, the loader and the settings are as they were. -/
def Aside (s t : State) : Prop :=
  t.line = s.line ∧ t.straps = s.straps ∧ t.loader = s.loader ∧ t.cfg = s.cfg

theorem Aside.refl (s : State) : Aside s s := ⟨rfl, rfl, rfl, rfl⟩

theorem Aside.trans (h : Aside s t) (k : Aside t u) : Aside s u :=
  ⟨k.1.trans h.1, k.2.1.trans h.2.1, k.2.2.1.trans h.2.2.1, k.2.2.2.trans h.2.2.2⟩

theorem Aside.of_ite {p : Prop} [Decidable p] {a b : State} (h : Aside s a) (k : Aside s b) :
    Aside s (if p then a else b) := by
  split <;> assumption

theorem OnlyClosing.aside (h : OnlyClosing s t) : Aside s t := ⟨h.line, h.straps, h.loader, h.cfg⟩

theorem OnlyPlant.aside (h : OnlyPlant s t) : Aside s t :=
  ⟨h.line, (congrArg (·.straps) h).trans rfl, (congrArg (·.loader) h).trans rfl,
    (congrArg (·.cfg) h).trans rfl⟩

theorem OnlyDuty.aside (h : OnlyDuty s t) : Aside s t := h.onlyPlant.aside

theorem OnlyHouse.aside (h : OnlyHouse s t) : Aside s t :=
  ⟨h.line, (congrArg (·.straps) h).trans rfl, (congrArg (·.loader) h).trans rfl,
    (congrArg (·.cfg) h).trans rfl⟩

theorem OnlyNotices.aside (h : OnlyNotices s t) : Aside s t := h.onlyHouse.aside

/-! ### The Overflow Monitor (chapter 6) -/

theorem setOvf_aside (s : State) (o : Overflow) : Aside s (setOvf s o) := .refl s

theorem answerSource_aside (s : State) : Aside s (answerSource s) := by
  unfold answerSource
  split <;> split <;> exact .refl s

theorem retakeSource_aside (s : State) : Aside s (retakeSource s) :=
  .of_ite (.refl s) ((setOvf_aside s _).trans (answerSource_aside _))

theorem formHead_aside (s : State) : Aside s (formHead s) := by
  unfold formHead
  split <;> exact .refl s

theorem updateEvent_aside (s : State) : Aside s (updateEvent s) := by
  have gate : ∀ v : State, Aside v (integrate v) := fun v =>
    .of_ite (.refl v) (.of_ite (.refl v) (.refl v))
  have gateOpen : ∀ v : State, Aside v (if v.ovf.prevGateOpen then integrate v else v) := fun v =>
    .of_ite (gate v) (.refl v)
  unfold updateEvent
  exact .of_ite (Aside.trans (.of_ite (setOvf_aside s _) (.refl s)) (gateOpen _)) (.refl s)

theorem overflowGate_aside (s : State) : Aside s (overflowGate s) := by
  have event : ∀ (b : Bool) (v : State),
      Aside v (if b then v else updateEvent (retakeSource v)) := fun _ v =>
    .of_ite (.refl v) ((retakeSource_aside v).trans (updateEvent_aside _))
  unfold overflowGate
  exact .of_ite (.refl s) (Aside.trans ((formHead_aside s).trans (Aside.trans (setOvf_aside _ _)
    (event _ _))) (setOvf_aside _ _))

theorem openEvent_aside (s : State) : Aside s (openEvent s) :=
  (setOvf_aside s _).trans (handNotice_onlyNotices _ _).aside

theorem closeEvent_aside (s : State) : Aside s (closeEvent s) :=
  ((handNotice_onlyNotices s _).aside.trans (handNotice_onlyNotices _ _).aside).trans
    (setOvf_aside _ _)

/-! ### Inputs, gates, seconds -/

theorem pressAck_aside (s : State) : Aside s (pressAck s) :=
  .of_ite (.refl s) (.of_ite (.refl s) (acknowledge_onlyClosing s).aside)

theorem answerInput_aside (i : Input) (s : State) : Aside s (answerInput i s) := by
  cases i with
  | runConfirm => exact .of_ite (confirmActivated_onlyDuty s).aside (confirmReleased_onlyDuty s).aside
  | thermal => exact .of_ite (enterFaulted_onlyDuty _ s).aside (.refl s)
  | moisture => exact .of_ite (moistureActivated_onlyDuty s).aside (.refl s)
  | lowFloat => exact (reformLocal_onlyPlant s).aside
  | highFloat => exact (reformLocal_onlyPlant s).aside
  | allStop => exact (reformLocal_onlyPlant s).aside
  | modeHand => exact (reformMode_onlyDuty s).aside
  | modeOff => exact (reformMode_onlyDuty s).aside
  | rakeLimit => exact .of_ite (limitActivated_onlyPlant s).aside (.refl s)
  | screenSw => exact .of_ite (takeSwitch_onlyPlant s).aside (.refl s)
  | weirFloat => exact .of_ite (retakeSource_aside s) (.refl s)
  | supplyLow => exact .of_ite (.refl s) (.refl s)
  | ackBtn => exact .of_ite (pressAck_aside s) (.refl s)
  | tideClosed => exact .refl s
  | lampTest => exact .refl s

theorem chooseSensing_aside (s : State) : Aside s (chooseSensing s) :=
  .of_ite (.refl s) ((leaveSensing_onlyPlant s).aside.trans
    ((handOn_onlyClosing _).aside.trans (enterSensing_onlyPlant _ _).aside))

theorem screenGate_aside (s : State) : Aside s (screenGate s) := by
  have choose : ∀ (p : Bool) (v : State), Aside v (if p then chooseSensing v else v) := fun _ v =>
    .of_ite (chooseSensing_aside v) (.refl v)
  have diff : ∀ v : State, Aside v (if v.screen.sensing = some .diff then diffGate v else v) :=
    fun v => .of_ite (diffGate_onlyPlant v).aside (.refl v)
  exact (choose _ s).trans ((diff _).trans (retakeFlush_onlyPlant _).aside)

theorem gateStep_aside (s : State) : Aside s (gateStep s) :=
  Aside.trans (t := stageGate s.chanA.mode (endGates s))
    (Aside.trans (t := setStager (endGates s) _) (.refl s) (reformLocal_onlyPlant _).aside)
    ((screenGate_aside _).trans (overflowGate_aside _))

theorem pulseOn_aside (c : Channel) (s : State) : Aside s (pulseOn c s) := by
  cases c <;> exact .refl s

theorem endPulse_aside (which : PulseAlarm) (s : State) : Aside s (endPulse which s) := by
  cases which <;> exact .refl s

theorem jamRake_aside (s : State) : Aside s (jamRake s) :=
  .of_ite (.refl s) (Aside.trans (t := setScreen _ _) (.refl s) (judgeLocked_onlyPlant _).aside)

/-! ### The loader (chapter 10) -/

theorem finishOverflow_aside (s : State) : Aside s (finishOverflow s) :=
  .of_ite (.refl s) (.of_ite (.refl s) (Aside.trans (t := setOvf s _) (.refl s) (retakeSource_aside _)))

theorem finishDuty_onlyDuty (s : State) : OnlyDuty s (finishDuty s) := by
  have idle : ∀ v : State,
      OnlyDuty v (if v.duty.pump = .lockedOff ∧ v.duty.minOff = none then enterIdle v else v) :=
    fun v => .of_ite (enterIdle_onlyDuty v) rfl
  have trip : ∀ v : State, OnlyDuty v (if isActive v .thermal then thermalTrip v else v) :=
    fun v => .of_ite (enterFaulted_onlyDuty _ v) rfl
  exact (setDuty_onlyDuty s _).trans ((closeInHand_onlyDuty _).trans ((idle _).trans (trip _)))

theorem finishScreen_aside (s : State) : Aside s (finishScreen s) :=
  (leaveSensing_onlyPlant s).aside.trans
    ((enterSensing_onlyPlant _ _).aside.trans (expireInterval_onlyPlant _).aside)

theorem finishStager_aside (s : State) : Aside s (finishStager s) := .of_ite (.refl s) (.refl s)

theorem finishChannels_aside (s : State) : Aside s (finishChannels s) := .refl s

theorem takeMap_aside (b s : State) : Aside s (takeMap b s) := .refl s

theorem finishReporter_aside (s : State) : Aside s (finishReporter s) := .refl s

theorem finishAlarms_aside (s : State) : Aside s (finishAlarms s) := .refl s

/-- The loader's finish leaves the line and the straps (R167). -/
theorem finishStep_line_straps (s : State) :
    (finishStep s).line = s.line ∧ (finishStep s).straps = s.straps := by
  have k := (takeMap_aside s { s with
      loader := { s.loader with phase := .done, checkTicks := none, busDriven := false }
      cfg := s.loader.ready }).trans <|
    (finishChannels_aside _).trans <| (finishStager_aside _).trans <| (finishOverflow_aside _).trans <|
    (finishDuty_onlyDuty _).aside.trans <| (finishScreen_aside _).trans <|
    (finishReporter_aside _).trans (finishAlarms_aside _)
  exact ⟨k.1, k.2.1⟩

end Sys2Proof.Machine
end

section
/-! SUPPORT. The operations of the Line Interface: what they can reach at all, and the line record that
each leaves. -/

namespace Sys2Proof.Machine

open Sys2Proof

variable {s t u : State}

/-! ### What an event of the line can reach -/

/-- `s` with what an event of the station line may change taken from `t`. -/
def stationPart (s t : State) : State :=
  { s with
    line := t.line, stager := t.stager, duty := t.duty, screen := t.screen, alarms := t.alarms
    panel := t.panel, notices := t.notices, reporter := t.reporter, free := t.free }

/-- Time, inputs, straps, loader, settings, gate, channels and the Overflow Monitor are as they were. -/
def OnlyStation (s t : State) : Prop := t = stationPart s t

theorem OnlyStation.refl (s : State) : OnlyStation s s := rfl

theorem OnlyStation.trans (h : OnlyStation s t) (k : OnlyStation t u) : OnlyStation s u :=
  Eq.trans k ((congrArg (fun x => stationPart x u) (show t = stationPart s t from h)).trans rfl)

theorem OnlyStation.of_ite {p : Prop} [Decidable p] {a b : State} (h : OnlyStation s a)
    (k : OnlyStation s b) : OnlyStation s (if p then a else b) := by
  split <;> assumption

theorem OnlyPlant.station (h : OnlyPlant s t) : OnlyStation s t := by
  unfold OnlyStation
  rw [h]
  rfl

theorem OnlyDuty.station (h : OnlyDuty s t) : OnlyStation s t := h.onlyPlant.station

theorem OnlyHouse.station (h : OnlyHouse s t) : OnlyStation s t := by
  unfold OnlyStation
  rw [h]
  rfl

theorem OnlyClosing.station (h : OnlyClosing s t) : OnlyStation s t := by
  unfold OnlyStation
  rw [h]
  rfl

theorem setLine_station (s : State) (l : Line) : OnlyStation s (setLine s l) := rfl
theorem setDuty_station (s : State) (d : Duty) : OnlyStation s (setDuty s d) := rfl

theorem OnlyStation.time (h : OnlyStation s t) : t.time = s.time := (congrArg (·.time) h).trans rfl
theorem OnlyStation.inputs (h : OnlyStation s t) : t.inputs = s.inputs :=
  (congrArg (·.inputs) h).trans rfl
theorem OnlyStation.straps (h : OnlyStation s t) : t.straps = s.straps :=
  (congrArg (·.straps) h).trans rfl
theorem OnlyStation.loader (h : OnlyStation s t) : t.loader = s.loader :=
  (congrArg (·.loader) h).trans rfl
theorem OnlyStation.cfg (h : OnlyStation s t) : t.cfg = s.cfg := (congrArg (·.cfg) h).trans rfl
theorem OnlyStation.gate (h : OnlyStation s t) : t.gate = s.gate := (congrArg (·.gate) h).trans rfl
theorem OnlyStation.chanA (h : OnlyStation s t) : t.chanA = s.chanA :=
  (congrArg (·.chanA) h).trans rfl
theorem OnlyStation.chanB (h : OnlyStation s t) : t.chanB = s.chanB :=
  (congrArg (·.chanB) h).trans rfl
theorem OnlyStation.ovf (h : OnlyStation s t) : t.ovf = s.ovf := (congrArg (·.ovf) h).trans rfl
theorem OnlyStation.own (h : OnlyStation s t) : ownAddress t = ownAddress s := by
  unfold ownAddress
  rw [h.straps]
theorem OnlyStation.isActive (h : OnlyStation s t) (i : Input) : isActive t i = isActive s i := by
  unfold Machine.isActive inputState
  rw [h.inputs]
theorem OnlyStation.loaded (h : OnlyStation s t) : loaded t = loaded s := by
  unfold Machine.loaded
  rw [h.loader]

theorem settle_station (s : State) : OnlyStation s (settle s) := (settle_onlyClosing s).station

/-! ### What each operation reaches -/

theorem withdrawAck_station (s : State) : OnlyStation s (withdrawAck s) := by
  have clear : OnlyStation s
    { s with alarms := { s.alarms with ackPress := false, ackTown := false } } := rfl
  unfold withdrawAck
  exact .of_ite (clear.trans (acknowledge_onlyClosing _).station) clear

theorem withdrawAck_line (s : State) : (withdrawAck s).line = s.line := by
  unfold withdrawAck
  dsimp only
  split
  · exact (acknowledge_onlyClosing _).line
  · rfl

theorem emptyView_onlyHouse (a : Nat) (s : State) : OnlyHouse s (emptyView a s) := rfl

theorem emptyStale_onlyHouse (b s : State) : OnlyHouse s (emptyStale b s) := by
  have fold : ∀ (l : List Nat) (t : State), OnlyHouse t
      (l.foldl (fun t a => if freshAt b a && !freshAt s a then emptyView a t else t) t) := by
    intro l
    induction l with
    | nil => exact .refl
    | cons a l ih =>
      exact fun t => (OnlyHouse.of_ite (emptyView_onlyHouse a t) (.refl t)).trans (ih _)
  exact fold addresses s

theorem reporterLeaves_onlyHouse (s : State) : OnlyHouse s (reporterLeaves s) := by
  unfold reporterLeaves
  split <;> rfl

/-- The duty once JOINED is left, before the reporter's part: the acknowledgment taken, no wait for a
start (R85), no lead (R83). -/
def dutyLeft (s : State) : State :=
  let s := withdrawAck s
  let s := if s.duty.pump = .startWait then enterIdle s else s
  setDuty s { s.duty with holdsLead := false, waiting := [], index := none }

theorem dutyLeft_onlyDuty (s : State) : OnlyDuty (withdrawAck s) (dutyLeft s) := by
  unfold dutyLeft
  exact (OnlyDuty.of_ite (enterIdle_onlyDuty _) (.refl _)).trans (setDuty_onlyDuty _ _)

theorem leaveJoined_station (s : State) : OnlyStation s (leaveJoined s) :=
  (withdrawAck_station s).trans <| (dutyLeft_onlyDuty s).station.trans <|
    OnlyStation.trans (reporterLeaves_onlyHouse (dutyLeft s)).station rfl

/-- The line once JOINED is left: not due, no attempt, not alone (R6, R25). -/
def leftLine (l : Line) : Line :=
  if l.mode = .joined then { l with due := false, syncDriving := false, aloneCount := 0, alone := false }
  else l

theorem leaveJoined_line (s : State) : (leaveJoined s).line =
    { s.line with due := false, syncDriving := false, aloneCount := 0, alone := false } := by
  have e : (reporterLeaves (dutyLeft s)).line = s.line :=
    (reporterLeaves_onlyHouse _).line.trans
      ((dutyLeft_onlyDuty s).onlyPlant.line.trans (withdrawAck_line s))
  rw [← e]
  rfl

theorem leaveIfJoined_station (s : State) : OnlyStation s (leaveIfJoined s) :=
  .of_ite (leaveJoined_station s) (.refl s)

theorem leaveIfJoined_line (s : State) : (leaveIfJoined s).line = leftLine s.line := by
  unfold leaveIfJoined leftLine
  split
  · exact leaveJoined_line s
  · rfl

/-! ### Bad frames -/

theorem badNotice_onlyHouse (s : State) : OnlyHouse s (badNotice s) := by
  rw [badNotice_eq]
  exact .of_ite (noticeResult_onlyHouse _ s) (.refl s)

theorem badFrameEnd_station (n : Nat) (s : State) : OnlyStation s (badFrameEnd n s) :=
  (badNotice_onlyHouse s).station.trans (setLine_station _ _)

theorem ownEntry_of_same (l : t.line = s.line) (h : OnlyStation s t) : ownEntry t = ownEntry s := by
  unfold ownEntry
  rw [l, h.own]

/-- The own entry of a station that is not JOINED is absent (R23). -/
theorem ownEntry_outside (m : s.line.mode ≠ .joined) : ownEntry s = PeerEntry.unheard := by
  unfold ownEntry
  split
  · exact absurd ‹_› m
  · rfl

/-- A frame found bad, on the line: counted, the receiver searching, the runs at 0 (R8, R21, R24). -/
theorem badFrameEnd_line (n : Nat) (s : State) : (badFrameEnd n s).line = { s.line with
    badFrames := satSucc 255 s.line.badFrames, prevGood := false, receiver := .searching
    recessiveRun := 0, goodRun := 0, faultGood := 0, quiet := n
    peers := s.line.peers.set (ownAddress s) (ownEntry s)
    drive := none, noticeWon := false, driver := releasedDriver s.line.driver } := by
  have k := badNotice_onlyHouse s
  rw [← ownEntry_of_same k.line k.station, ← k.station.own, ← k.line]
  rfl

/-- The line of a station outside JOINED, at address `own`, once a frame in progress has been broken off
(R8, R24, log 17). -/
def brokenLine (own : Nat) (l : Line) : Line :=
  if l.receiver = .inside then
    { l with
      badFrames := satSucc 255 l.badFrames, prevGood := false, receiver := .searching
      recessiveRun := 0, goodRun := 0, faultGood := 0, quiet := 0
      peers := l.peers.set own PeerEntry.unheard
      drive := none, noticeWon := false, driver := releasedDriver l.driver }
  else l

theorem breakFrame_line (m : s.line.mode ≠ .joined) :
    (breakFrame s).line = brokenLine (ownAddress s) s.line := by
  unfold brokenLine
  obtain ⟨i, e⟩ | ⟨i, e⟩ := breakFrame_cases s
  · rw [e, if_pos i, badFrameEnd_line, ownEntry_outside m]
  · rw [e, if_neg i]

theorem breakFrame_setLine_line (s : State) {l : Line} (m : l.mode ≠ .joined) :
    (breakFrame (setLine s l)).line = brokenLine (ownAddress s) l := breakFrame_line (s := setLine s l) m

theorem breakFrame_station (s : State) : OnlyStation s (breakFrame s) :=
  .of_ite (badFrameEnd_station 0 s) (.refl s)

/-! ### Changes of line state -/

theorem endLocalCall_onlyPlant (s : State) : OnlyPlant s (endLocalCall s) := rfl

theorem enterIsolated_station (s : State) : OnlyStation s (enterIsolated s) := by
  unfold enterIsolated
  exact (leaveIfJoined_station s).trans <|
    (OnlyPlant.of_ite (endLocalCall_onlyPlant _) (.refl _)).station.trans <|
    (setLine_station _ _).trans <| (breakFrame_station _).trans (stopAutomatic_onlyDuty _).station

/-- Entry to ISOLATED, on the line: the driver cut, a frame in progress broken off (R8, R22). -/
theorem enterIsolated_line (s : State) : (enterIsolated s).line = brokenLine (ownAddress s)
    { leftLine s.line with mode := .isolated, driver := .cut, due := false, syncDriving := false } := by
  have call : OnlyPlant (leaveIfJoined s) (if (leaveIfJoined s).line.mode = .lineFault then
      endLocalCall (leaveIfJoined s) else leaveIfJoined s) := .of_ite (endLocalCall_onlyPlant _) (.refl _)
  have k := (leaveIfJoined_station s).trans call.station
  unfold enterIsolated
  rw [(stopAutomatic_onlyDuty _).onlyPlant.line, breakFrame_setLine_line]
  · rw [k.own, call.line, leaveIfJoined_line]
  · nofun

theorem enterLineFault_station (s : State) : OnlyStation s (enterLineFault s) := by
  unfold enterLineFault
  exact (leaveIfJoined_station s).trans <| (setLine_station _ _).trans <|
    (breakFrame_station _).trans <| (setLine_station _ _).trans (reformLocal_onlyPlant _).station

/-- Entry to LINE_FAULT, on the line: the driver released, a frame in progress broken off, the runs and
the quiet count at 0 (R8, R20, R21). -/
theorem enterLineFault_line (s : State) : (enterLineFault s).line =
    { brokenLine (ownAddress s) { leftLine s.line with
        mode := .lineFault, driver := .released, due := false, syncDriving := false } with
      goodRun := 0, faultGood := 0, quiet := 0 } := by
  have k := leaveIfJoined_station s
  unfold enterLineFault
  rw [(reformLocal_onlyPlant _).line, setLine_line, breakFrame_setLine_line]
  · rw [leaveIfJoined_line, k.own]
  · nofun

theorem enterListen_station (s : State) : OnlyStation s (enterListen s) :=
  (setLine_station s _).trans (endLocalCall_onlyPlant _).station

theorem failSync_station (s : State) : OnlyStation s (failSync s) :=
  (setLine_station s _).trans (.of_ite (enterLineFault_station _) (.refl _))

theorem becomeStuck_station (n : Nat) (s : State) : OnlyStation s (becomeStuck n s) :=
  OnlyStation.trans (.of_ite (enterLineFault_station s) (breakFrame_station s)) (setLine_station _ _)

/-! ### Frames -/

theorem frameStart_station (s : State) : OnlyStation s (frameStart s) := by
  have drive : ∀ v : State, OnlyStation v (takeDrive v) := fun v =>
    OnlyStation.trans (t := if (driveOf v).noticeKey.isSome then
      setQueue v (headInFlight v.notices.queue) else v) (.of_ite rfl rfl) rfl
  unfold frameStart
  exact (setLine_station s _).trans ((setDuty_station _ _).trans (.of_ite (drive _) (.refl _)))

theorem winNotice_station (s : State) : OnlyStation s (winNotice s) := by
  unfold winNotice
  split <;> rfl

theorem countAlone_eq (s : State) : countAlone s = setLine s { s.line with
    aloneCount := if otherFresh s then 0 else satSucc 10 s.line.aloneCount
    alone := if otherFresh s then false else s.line.alone } := by
  unfold countAlone
  cases otherFresh s <;> rfl

theorem countLine_station (c : Cells) (drive : Option Drive) (s : State) :
    OnlyStation s (countLine c drive s) := by
  have clash : ∀ (v : State), OnlyStation v (match drive with
      | some d => if clashes d.cells c (ownAddress s) then enterIsolated v else v
      | none => v) := by
    intro v
    cases drive with
    | none => exact .refl v
    | some d => exact .of_ite (enterIsolated_station v) (.refl v)
  unfold countLine
  dsimp only
  split
  · exact .of_ite rfl rfl
  · rw [countAlone_eq]
    exact (setLine_station s _).trans ((setLine_station _ _).trans (clash _))
  · rfl
  · rfl

/-- What the frame that is read, and the views it stales, leave of the line. -/
theorem readFrame_emptyStale_line (c : Cells) (s : State) :
    (emptyStale s (readFrame c s)).line = (readFrame c s).line := (emptyStale_onlyHouse _ _).line

theorem frameEnd_station (c : Cells) (s : State) : OnlyStation s (frameEnd c s) := by
  unfold frameEnd
  exact (setLine_station s _).trans <| (emptyStale_onlyHouse _ _).station.trans <|
    (countLine_station _ _ _).trans <| (plantFrame_onlyPlant _ _ _).station.trans <|
    (houseFrame_onlyHouse _ _ _ _).station.trans <| (acknowledgeFrame_onlyClosing _ _).station.trans rfl

/-- Of the line a good frame end leaves what the reading of the frame and the counts make of it. -/
theorem frameEnd_line_counts (c : Cells) (s : State) : (frameEnd c s).line
    = (countLine c s.line.drive (emptyStale s (readFrame c s))).line :=
  (frameEnd_line c s).trans ((houseFrame_onlyHouse _ _ _ _).line.trans (plantFrame_onlyPlant _ _ _).line)

end Sys2Proof.Machine
end

section
/-! O57. What holds until RESET: ISOLATED with the driver cut, the straps, the settings and the image. -/

namespace Sys2Proof.Machine

open Sys2Proof

variable {s t : State}

/-! ### A safe line -/

/-- What only a JOINED station does is not done outside JOINED. -/
theorem LineSafe.outside (h : LineSafe s) (m : s.line.mode ≠ .joined) :
    s.line.due = false ∧ s.line.syncDriving = false ∧ s.line.alone = false ∧ s.line.drive = none
      ∧ s.duty.holdsLead = false ∧ s.duty.pump ≠ .startWait := by
  obtain ⟨-, joined, -⟩ := h
  refine ⟨?_, ?_, ?_, ?_, ?_, ?_⟩
  · exact Bool.eq_false_iff.2 fun e => m (joined (.inl e))
  · exact Bool.eq_false_iff.2 fun e => m (joined (.inr (.inl e)))
  · exact Bool.eq_false_iff.2 fun e => m (joined (.inr (.inr (.inl e))))
  · exact Classical.byContradiction fun e => m (joined (.inr (.inr (.inr (.inl e)))))
  · exact Bool.eq_false_iff.2 fun e => m (joined (.inr (.inr (.inr (.inr (.inl e))))))
  · exact fun e => m (joined (.inr (.inr (.inr (.inr (.inr e))))))

/-- A line that is cut off: ISOLATED with the driver cut, no drive of a frame, not due (R22). -/
def CutOff (l : Line) : Prop := l.mode = .isolated ∧ l.driver = .cut ∧ l.drive = none ∧ l.due = false

theorem LineSafe.cutOff (h : LineSafe s) (m : s.line.mode = .isolated) : CutOff s.line := by
  obtain ⟨due, -, -, drive, -⟩ := h.outside (by simp [m])
  exact ⟨m, h.1.2 m, drive, due⟩

/-! ### One event -/

/-- What O57 has hold over one event from `s` to `t`. -/
def Holds (s t : State) : Prop :=
  (CutOff s.line → CutOff t.line) ∧ (captured s = true → t.straps = s.straps)
  ∧ (loaded s = true → t.cfg = s.cfg ∧ loaded t = true ∧ t.loader.image = s.loader.image
      ∧ t.loader.reduced = s.loader.reduced ∧ t.loader.ready = s.loader.ready)

theorem Holds.refl (s : State) : Holds s s := ⟨id, fun _ => rfl, fun l => ⟨rfl, l, rfl, rfl, rfl⟩⟩

theorem OnlyStation.holds (h : OnlyStation s t) (c : CutOff s.line → CutOff t.line) : Holds s t :=
  ⟨c, fun _ => h.straps, fun l => ⟨h.cfg, h.loaded.trans l, by rw [h.loader], by rw [h.loader],
    by rw [h.loader]⟩⟩

theorem Aside.holds (h : Aside s t) : Holds s t := by
  obtain ⟨line, straps, loader, cfg⟩ := h
  refine ⟨fun c => line ▸ c, fun _ => straps, fun l => ⟨cfg, ?_, ?_, ?_, ?_⟩⟩
  · unfold loaded at l ⊢
    rw [loader, l]
  all_goals rw [loader]

/-- The closing work keeps what an effect holds. -/
theorem Holds.settled (h : Holds s t) : Holds s (settle t) := by
  unfold Holds at h ⊢
  rwa [settle_line, settle_straps, settle_cfg, settle_loader,
    show loaded (settle t) = loaded t from (settle_onlyClosing t).loaded]

theorem taken_holds {can : Bool} {f : State → State} (h : taken can f s = .next t)
    (k : can = true → Holds s (f s)) : Holds s t := by
  obtain ⟨-, rfl⟩ | ⟨c, rfl⟩ := taken_cases h
  · exact .refl _
  · exact (k c).settled

/-- An event aside of the line and the loader. -/
theorem taken_aside_holds {can : Bool} {f : State → State} (h : taken can f s = .next t)
    (k : Aside s (f s)) : Holds s t := taken_holds h fun _ => k.holds

/-- An event of the line that can be in ISOLATED keeps the line cut off; one that cannot needs nothing. -/
theorem taken_line_holds {can : Bool} {f : State → State} (h : taken can f s = .next t)
    (k : OnlyStation s (f s)) (c : can = true → CutOff s.line → CutOff (f s).line) : Holds s t :=
  taken_holds h fun e => k.holds (c e)

/-! ### The events of the line in ISOLATED -/

theorem brokenLine_cutOff {own : Nat} {l : Line} (h : CutOff l) : CutOff (brokenLine own l) := by
  obtain ⟨mode, driver, drive, due⟩ := h
  unfold brokenLine
  split
  · exact ⟨mode, by simp [releasedDriver, driver], rfl, due⟩
  · exact ⟨mode, driver, drive, due⟩

theorem badFrameEnd_cutOff (n : Nat) (h : CutOff s.line) : CutOff (badFrameEnd n s).line := by
  obtain ⟨mode, driver, -, due⟩ := h
  rw [badFrameEnd_line]
  exact ⟨mode, by simp [releasedDriver, driver], rfl, due⟩

theorem becomeStuck_cutOff (n : Nat) (h : CutOff s.line) : CutOff (becomeStuck n s).line := by
  have b := brokenLine_cutOff (own := ownAddress s) h
  obtain ⟨mode, -⟩ := h
  rw [← breakFrame_line (by simp [mode])] at b
  unfold becomeStuck
  simpa [mode, CutOff] using b

theorem frameStart_cutOff (h : CutOff s.line) : CutOff (frameStart s).line := by
  obtain ⟨mode, driver, -, -⟩ := h
  have out : (takeEdge s).line.mode ≠ .joined := by simp [takeEdge, mode]
  unfold frameStart
  simp only [setDuty_line, out, if_false]
  exact ⟨mode, driver, rfl, rfl⟩

theorem frameEnd_cutOff (c : Cells) (h : CutOff s.line) : CutOff (frameEnd c s).line := by
  obtain ⟨mode, driver, -, due⟩ := h
  have e := readFrame_emptyStale_line c s
  have isolated : (emptyStale s (readFrame c s)).line.mode = .isolated := by rw [e]; exact mode
  rw [frameEnd_line_counts]
  unfold countLine
  simp only [isolated]
  rw [e]
  exact ⟨mode, by simp [readFrame, releasedDriver, driver], rfl, due⟩

/-! ### The events of the loader -/

/-- An event that needs a loader that has not finished holds the line and the straps alone. -/
theorem holds_of_unloaded (l : loaded s = false) (line : t.line = s.line) (straps : t.straps = s.straps) :
    Holds s t :=
  ⟨fun c => line ▸ c, fun _ => straps, fun e => absurd e (by simp [l])⟩

theorem unloaded_of_phase {p : LoaderPhase} (ne : p ≠ .done) (h : (s.loader.phase == p) = true) :
    loaded s = false := by
  rw [beq_iff_eq] at h
  cases p <;> simp_all [loaded]

theorem unloaded_of_attempting (h : attempting s = true) : loaded s = false :=
  unloaded_of_phase (p := .reading) nofun (Bool.and_eq_true _ _ ▸ h).1

theorem tickStep_holds (pins : BitVec 15) (r : CaptureReadings) (s : State) :
    Holds s (tickStep pins r s) := by
  unfold tickStep
  cases c : captured s with
  | true => exact ⟨id, fun _ => rfl, fun l => ⟨rfl, l, rfl, rfl, rfl⟩⟩
  | false =>
    have l : loaded s = false := unloaded_of_phase (p := .capture) nofun (by simpa [captured] using c)
    exact ⟨id, fun e => absurd (c.symm.trans e) nofun, fun e => absurd (l.symm.trans e) nofun⟩

/-! ### Every command -/

/-- A handover changes the lead and its count alone (R82). -/
theorem passOver_aside (s : State) : Aside s (passOver s) := by
  unfold passOver
  split <;> exact .refl s

theorem takePoll_onlyHouse (m : TownMessage) (s : State) : OnlyHouse s (takePoll m s) :=
  answering_onlyHouse m 3 true (act := owe .poll m) (fun _ => rfl) s

theorem takeDump_onlyHouse (m : TownMessage) (s : State) : OnlyHouse s (takeDump m s) :=
  answering_onlyHouse m 6 _ (startDump_onlyHouse m) s

theorem takeRelay_onlyHouse (code : Nat) (m : TownMessage) (s : State) :
    OnlyHouse s (takeRelay code m s) := answering_onlyHouse m 4 _ (relayCommand_onlyHouse code m) s

theorem takeClock_onlyHouse (m : TownMessage) (s : State) : OnlyHouse s (takeClock m s) :=
  answering_onlyHouse m 7 _ (act := setClock m) (fun _ => rfl) s

theorem takeReporting_onlyHouse (m : TownMessage) (s : State) : OnlyHouse s (takeReporting m s) :=
  answering_onlyHouse m 5 _ (act := setEnables m) (fun _ => rfl) s

theorem takeUnknown_onlyHouse (m : TownMessage) (s : State) : OnlyHouse s (takeUnknown m s) :=
  .of_ite rfl rfl

theorem expireFlight_aside (s : State) : Aside s (match s.reporter.flight with
    | some f => expireTa f s
    | none => s) := by
  split
  · exact (expireTa_onlyHouse _ s).aside
  · exact .refl s

/-- An hourly point clears a counter of the line alone (R143). -/
theorem hourStep_holds (s : State) : Holds s (hourStep s) := by
  have k : OnlyNotices (clearCounters s) (hourStep s) := handAll_onlyNotices _ _
  generalize hourStep s = t at k
  obtain ⟨line, straps, loader, cfg⟩ := k.aside
  refine ⟨fun c => line ▸ c, fun _ => straps, fun l => ⟨cfg, ?_, ?_, ?_, ?_⟩⟩
  · unfold loaded at l ⊢
    rw [loader]
    exact l
  all_goals rw [loader]; rfl

/-- Every command but RESET holds what O57 says. -/
theorem exec_holds {c : Instr} (safe : LineSafe s) (ne : c ≠ .reset) (h : exec c s = .next t) :
    Holds s t := by
  cases c with
  | reset => exact absurd rfl ne
  | tick pins r =>
    unfold exec execTick at h
    exact taken_holds h fun _ => tickStep_holds pins r s
  -- the loader
  | configReadComplete image =>
    unfold exec execConfigReadComplete at h
    refine taken_holds h fun g => ?_
    simp only [Bool.and_eq_true] at g
    exact holds_of_unloaded (unloaded_of_attempting g.1.1) rfl rfl
  | attemptFail cause =>
    unfold exec execAttemptFail at h
    refine taken_holds h fun g => ?_
    simp only [Bool.and_eq_true] at g
    exact holds_of_unloaded (unloaded_of_attempting g.1.1) rfl rfl
  | retryWaitExpiry n =>
    unfold exec execRetryWaitExpiry at h
    refine taken_holds h fun g => ?_
    rw [Bool.and_eq_true] at g
    exact holds_of_unloaded (unloaded_of_phase (p := .reading) nofun g.1) rfl rfl
  | loaderFinish =>
    unfold exec execLoaderFinish at h
    refine taken_holds h fun g => ?_
    rw [Bool.and_eq_true] at g
    exact holds_of_unloaded (unloaded_of_phase (p := .checking) nofun g.1) (finishStep_line_straps s).1
      (finishStep_line_straps s).2
  -- the line
  | hourlyPoint =>
    unfold exec execHourlyPoint at h
    exact taken_holds h fun _ => hourStep_holds s
  | frameTimerExpiry =>
    unfold exec execFrameTimerExpiry at h
    exact taken_line_holds h (setLine_station s _)
      (fun _ c => ⟨c.1, c.2.1, c.2.2.1, by simp [c.1]⟩)
  | syncDrive =>
    unfold exec execSyncDrive at h
    exact taken_line_holds h (setLine_station s _) (fun g c => by simp [c.1] at g)
  | syncAttemptFail =>
    unfold exec execSyncAttemptFail at h
    exact taken_line_holds h (failSync_station s)
      (fun g c => absurd g (by simp [(safe.outside (s := s) (by simp [c.1])).2.1]))
  | syncLeadingEdge =>
    unfold exec execSyncLeadingEdge at h
    exact taken_line_holds h (frameStart_station s) (fun _ => frameStart_cutOff)
  | noticeClaimWon field =>
    unfold exec execNoticeClaimWon at h
    exact taken_line_holds h (winNotice_station s) (fun g c => by simp [noticeWins, c.2.2.1] at g)
  | goodFrameEnd run cells =>
    unfold exec execGoodFrameEnd at h
    exact taken_line_holds h (frameEnd_station cells s) (fun _ => frameEnd_cutOff cells)
  | badFrame run =>
    unfold exec execBadFrame at h
    exact taken_line_holds h (badFrameEnd_station _ s) (fun _ => badFrameEnd_cutOff _)
  | lineIdle n =>
    unfold exec execLineIdle at h
    exact taken_line_holds h (setLine_station s _) (fun _ c => c)
  | receiverInStep n =>
    unfold exec execReceiverInStep at h
    exact taken_line_holds h (setLine_station s _) (fun _ c => c)
  | dominantCellBeforeIdle =>
    unfold exec execDominantCellBeforeIdle at h
    exact taken_line_holds h (setLine_station s _) (fun _ c => c)
  | stuckConditionClear =>
    unfold exec execStuckConditionClear at h
    exact taken_line_holds h (setLine_station s _) (fun _ c => c)
  | join =>
    unfold exec execJoin at h
    exact taken_line_holds h (setLine_station s _) (fun g c => by simp [c.1] at g)
  | ownAddressIsolate =>
    unfold exec execOwnAddressIsolate at h
    exact taken_line_holds h (enterIsolated_station s) (fun g c => by simp [c.1] at g)
  | presenceFault =>
    unfold exec execPresenceFault at h
    exact taken_line_holds h (enterLineFault_station s) (fun g c => by simp [c.1] at g)
  | jabberTrip n =>
    unfold exec execJabberTrip at h
    exact taken_line_holds h ((setLine_station s _).trans (enterIsolated_station _))
      (fun g c => by simp [c.1] at g)
  | stuckCondition n =>
    unfold exec execStuckCondition at h
    exact taken_line_holds h (becomeStuck_station n s) (fun _ => becomeStuck_cutOff n)
  | silenceTimerExpiry =>
    unfold exec execSilenceTimerExpiry at h
    exact taken_line_holds h (setLine_station s _) (fun g c => by simp [c.1] at g)
  | lineFaultFramesRecover =>
    unfold exec execLineFaultFramesRecover at h
    exact taken_line_holds h (enterListen_station s) (fun g c => by simp [c.1] at g)
  | lineFaultQuietRecover n =>
    unfold exec execLineFaultQuietRecover at h
    exact taken_line_holds h (enterListen_station s) (fun g c => by simp [c.1] at g)
  | aloneDetect =>
    unfold exec execAloneDetect at h
    exact taken_line_holds h (setLine_station s _) (fun g c => by simp [c.1] at g)
  -- the station's decisions aside of the line
  | leadUnusableHandover =>
    unfold exec execLeadUnusableHandover at h
    exact taken_aside_holds h (passOver_aside s)
  | noLeadTake =>
    unfold exec execNoLeadTake at h
    exact taken_aside_holds h ((setDuty_onlyDuty s _).aside)
  | noticeDrop =>
    unfold exec execNoticeDrop at h
    exact taken_aside_holds h ((dropSpent_onlyHouse s).aside)
  | commandSetInhibit =>
    unfold exec execCommandSetInhibit at h
    exact taken_aside_holds h ((setInhibit_onlyDuty s).aside.trans (answerCommand_onlyHouse _ _ _).aside)
  | commandClearInhibit =>
    unfold exec execCommandClearInhibit at h
    exact taken_aside_holds h ((clearInhibit_onlyDuty s).aside.trans (answerCommand_onlyHouse _ _ _).aside)
  | commandOtherCode =>
    unfold exec execCommandOtherCode at h
    exact taken_aside_holds h ((answerCommand_onlyHouse _ _ s).aside)
  -- inputs and time
  | inputAcceptedChange i =>
    unfold exec execInputAcceptedChange at h
    exact taken_aside_holds h (answerInput_aside i (accept i s))
  | timeBaseSecond =>
    unfold exec execTimeBaseSecond at h
    exact taken_aside_holds h (.refl s)
  | clockMinute =>
    unfold exec execClockMinute at h
    exact taken_aside_holds h (.refl s)
  | startsWindowStampExpiry =>
    unfold exec execStartsWindowStampExpiry at h
    exact taken_aside_holds h (.refl s)
  -- the plant
  | gateEnd =>
    unfold exec execGateEnd at h
    exact taken_aside_holds h (gateStep_aside s)
  | levelPulseEdge ch =>
    unfold exec execLevelPulseEdge at h
    exact taken_aside_holds h (pulseOn_aside ch s)
  | minOffExpiry =>
    unfold exec execMinOffExpiry at h
    exact taken_aside_holds h ((minOffStep_onlyDuty s).aside)
  | inrushTimerExpiry =>
    unfold exec execInrushTimerExpiry at h
    exact taken_aside_holds h ((inrushStep_onlyDuty s).aside)
  | confirmTimerExpiry =>
    unfold exec execConfirmTimerExpiry at h
    exact taken_aside_holds h ((enterFaulted_onlyDuty _ { s with alarms := _ }).aside)
  | runLossExpiry =>
    unfold exec execRunLossExpiry at h
    exact taken_aside_holds h ((enterFaulted_onlyDuty _ { s with alarms := _ }).aside)
  | maxrunReached =>
    unfold exec execMaxrunReached at h
    exact taken_aside_holds h (.refl s)
  | changeoverTimerExpiry =>
    unfold exec execChangeoverTimerExpiry at h
    exact taken_aside_holds h (.refl s)
  | minRunExpiry =>
    unfold exec execMinRunExpiry at h
    exact taken_aside_holds h ((fallbackStop_onlyDuty (setDuty s _)).aside)
  | fallbackDelayExpiry =>
    unfold exec execFallbackDelayExpiry at h
    exact taken_aside_holds h (.refl s)
  | fallbackStart =>
    unfold exec execFallbackStart at h
    exact taken_aside_holds h (.refl s)
  | switchClearExpiry =>
    unfold exec execSwitchClearExpiry at h
    exact taken_aside_holds h ((setCondition_onlyPlant _ (setScreen s _)).aside)
  | postRakeExpiry =>
    unfold exec execPostRakeExpiry at h
    exact taken_aside_holds h ((postRakeStep_onlyPlant s).aside)
  | highAlarmExpiry =>
    unfold exec execHighAlarmExpiry at h
    exact taken_aside_holds h (.refl s)
  | intervalTimerExpiry =>
    unfold exec execIntervalTimerExpiry at h
    exact taken_aside_holds h ((expireInterval_onlyPlant s).aside)
  | rakeInrushExpiry =>
    unfold exec execRakeInrushExpiry at h
    exact taken_aside_holds h (.refl s)
  | rakeJam =>
    unfold exec execRakeJam at h
    exact taken_aside_holds h (jamRake_aside s)
  | pauseTimerExpiry =>
    unfold exec execPauseTimerExpiry at h
    exact taken_aside_holds h (.refl s)
  | pendingTimerExpiry =>
    unfold exec execPendingTimerExpiry at h
    exact taken_aside_holds h (openEvent_aside s)
  | tailTimerExpiry =>
    unfold exec execTailTimerExpiry at h
    exact taken_aside_holds h (closeEvent_aside s)
  | pulseConditionEnd which =>
    unfold exec execPulseConditionEnd at h
    exact taken_aside_holds h (endPulse_aside which s)
  | stretchTimerExpiry n =>
    unfold exec execStretchTimerExpiry at h
    exact taken_aside_holds h (.refl s)
  | pulseTimerExpiry n =>
    unfold exec execPulseTimerExpiry at h
    exact taken_aside_holds h (.refl s)
  -- the reporter and the port
  | pairingTimeout a =>
    unfold exec execPairingTimeout at h
    exact taken_aside_holds h ((pairingStep_onlyHouse _ s).aside)
  | holdQuietClaim =>
    unfold exec execHoldQuietClaim at h
    exact taken_aside_holds h (.refl s)
  | openFieldActive =>
    unfold exec execOpenFieldActive at h
    exact taken_aside_holds h ((enterActive_onlyHouse s).aside)
  | commandTimeout =>
    unfold exec execCommandTimeout at h
    exact taken_aside_holds h ((endCommand_onlyNotices _ s).aside)
  | townMessageInvalid chars =>
    unfold exec execTownMessageInvalid at h
    exact taken_aside_holds h (.refl s)
  | characterGapTimeout chars =>
    unfold exec execCharacterGapTimeout at h
    exact taken_aside_holds h (.refl s)
  | townPoll chars =>
    unfold exec execTownPoll at h
    exact taken_aside_holds h ((takeMessage_onlyHouse _ chars takePoll_onlyHouse s).aside)
  | townAck chars =>
    unfold exec execTownAck at h
    exact taken_aside_holds h ((takeMessage_onlyHouse _ chars takeAck_onlyHouse s).aside)
  | townDump chars =>
    unfold exec execTownDump at h
    exact taken_aside_holds h ((takeMessage_onlyHouse _ chars takeDump_onlyHouse s).aside)
  | townInhibit chars =>
    unfold exec execTownInhibit at h
    exact taken_aside_holds h ((takeMessage_onlyHouse _ chars (takeRelay_onlyHouse 1) s).aside)
  | townRelease chars =>
    unfold exec execTownRelease at h
    exact taken_aside_holds h ((takeMessage_onlyHouse _ chars (takeRelay_onlyHouse 2) s).aside)
  | townClock chars =>
    unfold exec execTownClock at h
    exact taken_aside_holds h ((takeMessage_onlyHouse _ chars takeClock_onlyHouse s).aside)
  | townReporting chars =>
    unfold exec execTownReporting at h
    exact taken_aside_holds h ((takeMessage_onlyHouse _ chars takeReporting_onlyHouse s).aside)
  | townUnknownType chars =>
    unfold exec execTownUnknownType at h
    exact taken_aside_holds h ((takeMessage_onlyHouse _ chars takeUnknown_onlyHouse s).aside)
  | portSend =>
    unfold exec execPortSend at h
    exact taken_aside_holds h ((portStep_onlyHouse s).aside)
  | keyUpDelayExpiry =>
    unfold exec execKeyUpDelayExpiry at h
    exact taken_aside_holds h (.refl s)
  | transmitEnd =>
    unfold exec execTransmitEnd at h
    exact taken_aside_holds h (.refl s)
  | tAExpiry =>
    unfold exec execTAExpiry at h
    exact taken_aside_holds h (expireFlight_aside s)

/-- Settles O57: every command but RESET either lies aside of the line and the loader, or keeps a line
that is cut off and a loader that has finished. -/
theorem heldUntilReset : Obligations.HeldUntilReset := by
  intro c s t safe ne h
  obtain ⟨cut, straps, finished⟩ := exec_holds safe ne h
  exact ⟨fun m => cut (safe.cutOff m), straps, finished⟩

end Sys2Proof.Machine
end

section
/-! The reset state, the own sync attempt, frames begun and won, the receiver's conditions and the lead:
O4, O16, O17, O19, O23, O26 and O27. -/

namespace Sys2Proof.Machine

open Sys2Proof

variable {s t u : State}

/-! ### What keeps the pump and the rake safe -/

/-- A line with the same common cells, in LINE_FAULT exactly when the other is. -/
def SameCells (l m : Line) : Prop :=
  m.common = l.common ∧ (m.mode = .lineFault ↔ l.mode = .lineFault)

theorem SameCells.used {l : Line} (h : SameCells s.line l) (cell : Bool) :
    cellUsed (setLine s l) cell = cellUsed s cell := by
  have e : (l.mode == .lineFault) = (s.line.mode == .lineFault) := by
    rw [Bool.eq_iff_iff, beq_iff_eq, beq_iff_eq]
    exact h.2
  simp only [cellUsed, setLine_line, bne, e]

theorem SameCells.stopHold {l : Line} (h : SameCells s.line l) :
    stopHold (setLine s l) = stopHold s := by
  simp only [Machine.stopHold, h.used, setLine_line, h.1]
  rfl

theorem SameCells.rakeStop {l : Line} (h : SameCells s.line l) :
    rakeStop (setLine s l) = rakeStop s := by
  simp only [Machine.rakeStop, h.used, setLine_line, h.1]
  rfl

/-- The pump's and the rake's safety rest on nothing of the line but its common cells. -/
theorem PumpSafe.setLine {l : Line} (h : SameCells s.line l) (p : PumpSafe s) :
    PumpSafe (setLine s l) := by
  unfold PumpSafe at p ⊢
  rw [h.stopHold]
  exact p

theorem RakeSafe.setLine {l : Line} (h : SameCells s.line l) (r : RakeSafe s) :
    RakeSafe (setLine s l) := by
  unfold RakeSafe at r ⊢
  rw [h.rakeStop]
  exact r

/-- An event that changes the line alone, and not its common cells: the line record, and what follows. -/
theorem taken_setLine_follows {can : Bool} {f : State → State} {l : Line} (g : can = true)
    (e : f s = Machine.setLine s l) (h : SameCells s.line l) (p : PumpSafe s) (r : RakeSafe s) :
    ∃ t, taken can f s = .next t ∧ Follows (Machine.setLine s l) t :=
  e ▸ taken_follows g (e ▸ p.setLine h) (e ▸ r.setLine h)

/-! ### RESET -/

/-- Settles O4. -/
theorem resetState : Obligations.ResetState := by
  have peers : ∀ a < 8, peer State.reset a = PeerEntry.unheard := by decide
  have records : ∀ c, recordOf State.reset c = AlarmRecord.reset := by
    intro c
    cases c <;> rfl
  refine ⟨fun _ => rfl, rfl, rfl, rfl, rfl, rfl, rfl, rfl, rfl, fun a h => ?_, rfl, rfl, rfl, rfl, rfl,
    rfl, rfl, rfl, rfl, rfl, rfl, records, rfl, rfl, rfl, rfl, rfl, rfl⟩
  rw [peers a h]
  exact ⟨rfl, rfl, rfl, rfl⟩

/-! ### The own sync attempt -/

/-- A first or second failed attempt (R7): no third failure, so LINE_FAULT is not entered. -/
theorem failSync_of_lt (h : s.line.syncFail < 2) : failSync s = setLine s { s.line with
    frameExpired := false, due := false, syncDriving := false
    driver := .released, syncFail := s.line.syncFail + 1 } := by
  have e : satSucc 3 s.line.syncFail = s.line.syncFail + 1 := by unfold satSucc; omega
  have n : ¬3 ≤ s.line.syncFail + 1 := by omega
  simp [failSync, e, n]

/-- Settles O16: three events that change the line alone. -/
theorem ownSync : Obligations.OwnSync := by
  refine ⟨fun s p r captured fresh cells => ?_, fun s p r joined due outside idle free => ?_,
    fun s p r driving few => ?_⟩
  · unfold exec execFrameTimerExpiry
    exact taken_setLine_follows (by simp [captured, fresh, cells]) rfl ⟨rfl, .rfl⟩ p r
  · unfold exec execSyncDrive
    exact taken_setLine_follows (by simp [joined, due, free, lineIdleNow, outside, idle]) rfl
      ⟨rfl, .rfl⟩ p r
  · unfold exec execSyncAttemptFail
    exact taken_setLine_follows driving (failSync_of_lt few) ⟨rfl, .rfl⟩ p r

/-! ### A frame begun outside JOINED, a notice claim won -/

theorem available_outside (m : s.line.mode ≠ .joined) : available s = false := by
  simp [available, m]

/-- Outside JOINED a frame start takes the edge, finds the bay not available, and drives nothing. -/
theorem frameStart_outside (m : s.line.mode ≠ .joined) :
    frameStart s = setDuty (takeEdge s) { s.duty with availableAtStart := false } := by
  have out : (takeEdge s).line.mode ≠ .joined := m
  unfold frameStart
  simp only [setDuty_line, out, if_false, available_outside out]
  rfl

/-- Settles O17. -/
theorem frameTaken : Obligations.FrameTaken := by
  intro s p r outside idle out
  have e := frameStart_outside out
  have k : SameCells s.line (takeEdge s).line := ⟨rfl, .rfl⟩
  have pe : PumpSafe (setDuty (takeEdge s) { s.duty with availableAtStart := false }) := p.setLine k
  have re : RakeSafe (setDuty (takeEdge s) { s.duty with availableAtStart := false }) := r.setLine k
  obtain ⟨t, h, f⟩ := taken_follows (can := lineIdleNow s.line) (f := frameStart) (s := s)
    (by simp [lineIdleNow, outside, idle]) (e ▸ pe) (e ▸ re)
  rw [e] at f
  exact ⟨t, h, f⟩

/-- Settles O19. -/
theorem noticeDriven : Obligations.NoticeDriven := by
  intro field s d p r inside notWon drive key
  have e : winNotice s = setLine { s with notices := { s.notices with holdoff := true } }
      { s.line with
        noticeWon := true
        drive := some { d with cells := d.cells ||| noticeCells d.body d.check } } := by
    simp only [winNotice, drive]
    rfl
  have pe : PumpSafe { s with notices := { s.notices with holdoff := true } } := p
  have re : RakeSafe { s with notices := { s.notices with holdoff := true } } := r
  obtain ⟨t, h, f⟩ := taken_follows (can := noticeWins field s) (f := winNotice) (s := s)
    (by simp [noticeWins, inside, notWon, drive, key]) (e ▸ pe.setLine ⟨rfl, .rfl⟩)
    (e ▸ re.setLine ⟨rfl, .rfl⟩)
  rw [e] at f
  exact ⟨t, h, f⟩

/-! ### The receiver, JOIN and the silence timer -/

/-- Settles O23: five events that change the line alone, none of them to or from LINE_FAULT. -/
theorem lineConditions : Obligations.LineConditions := by
  refine ⟨fun n s p r outside ten => ?_, fun n s p r captured searching cells => ?_,
    fun s p r captured before => ?_, fun s p r listen run => ?_,
    fun s p r captured listen silence => ?_⟩
  · unfold exec execLineIdle
    exact taken_setLine_follows (by simp [outside, ten]) rfl ⟨rfl, .rfl⟩ p r
  · unfold exec execReceiverInStep
    exact taken_setLine_follows (by simp [captured, searching, cells]) rfl ⟨rfl, .rfl⟩ p r
  · unfold exec execDominantCellBeforeIdle
    refine taken_setLine_follows ?_ rfl ⟨rfl, .rfl⟩ p r
    rcases before with searching | ⟨outside, few⟩
    · simp [captured, searching, lineIdleNow]
    · simp [captured, outside, lineIdleNow, few]
  · unfold exec execJoin
    exact taken_setLine_follows (by simp [listen, run]) rfl ⟨rfl, by simp [listen]⟩ p r
  · unfold exec execSilenceTimerExpiry
    exact taken_setLine_follows (by simp [captured, listen, silence]) rfl ⟨rfl, by simp [listen]⟩ p r

/-! ### Back to LISTEN -/

/-- The demand and the lead are as they were, and with the local call off the fallback delay too. -/
def KeepsLead (s t : State) : Prop :=
  t.stager = s.stager ∧ t.duty.holdsLead = s.duty.holdsLead
  ∧ (s.stager.localCall = false → t.duty.fallbackDelay = s.duty.fallbackDelay)

theorem KeepsLead.of_same (g : t.stager = s.stager) (d : t.duty = s.duty) : KeepsLead s t :=
  ⟨g, by rw [d], fun _ => by rw [d]⟩

theorem KeepsLead.refl (s : State) : KeepsLead s s := .of_same rfl rfl

theorem KeepsLead.trans (h : KeepsLead s t) (k : KeepsLead t u) : KeepsLead s u := by
  obtain ⟨stager₁, lead₁, delay₁⟩ := h
  obtain ⟨stager₂, lead₂, delay₂⟩ := k
  exact ⟨stager₂.trans stager₁, lead₂.trans lead₁,
    fun c => (delay₂ (stager₁ ▸ c)).trans (delay₁ c)⟩

theorem KeepsLead.of_ite {p : Prop} [Decidable p] {a b : State} (h : KeepsLead s a)
    (k : KeepsLead s b) : KeepsLead s (if p then a else b) := by
  split <;> assumption

theorem openContactor_keepsLead (s : State) : KeepsLead s (openContactor s) :=
  .of_ite ⟨rfl, rfl, fun _ => rfl⟩ (.refl s)

/-- With the local call off no entry to IDLE starts the fallback delay timer (R86). -/
theorem enterIdle_keepsLead (s : State) : KeepsLead s (enterIdle s) :=
  ⟨rfl, rfl, fun c => by simp [enterIdle, c]⟩

theorem setPump_keepsLead (s : State) (p : PumpState) : KeepsLead s (setPump s p) :=
  ⟨rfl, rfl, fun _ => rfl⟩

theorem enterLockedOff_keepsLead (s : State) : KeepsLead s (enterLockedOff s) :=
  (openContactor_keepsLead s).trans (.of_ite (enterIdle_keepsLead _) (setPump_keepsLead _ _))

theorem closeInHand_keepsLead (s : State) : KeepsLead s (closeInHand s) :=
  .of_ite ⟨rfl, rfl, fun _ => rfl⟩ (.refl s)

theorem applyHold_keepsLead (s : State) : KeepsLead s (applyHold s) :=
  .of_ite (.of_ite (enterLockedOff_keepsLead s) (openContactor_keepsLead s)) (closeInHand_keepsLead s)

theorem settle_keepsLead (s : State) : KeepsLead s (settle s) := by
  obtain ⟨-, lead, delay⟩ := applyHold_keepsLead s
  unfold KeepsLead
  rw [settle_duty]
  exact ⟨settle_stager s, lead, delay⟩

/-- Settles O26. -/
theorem lineRecovers : Obligations.LineRecovers := by
  refine ⟨fun s p r stuck => ?_, fun c s fault way => ?_⟩
  · unfold exec execStuckConditionClear
    exact taken_setLine_follows (by simp [stuckNow, stuck]) rfl ⟨rfl, .rfl⟩ p r
  · have next : exec c s = .next (settle (enterListen s)) := by
      rcases way with ⟨rfl, good⟩ | ⟨n, rfl, cells, quiet, stuck, receiver⟩
      · unfold exec execLineFaultFramesRecover
        exact taken_of_can _ _ (by simp [fault, good])
      · have unstuck : stuckNow s.line = false := by simp [stuckNow, stuck]
        unfold exec execLineFaultQuietRecover
        exact taken_of_can _ _ (by simp [fault, cells, quiet, unstuck, receiver])
    have k := (enterListen_station s).trans (settle_station _)
    exact ⟨_, next, settle_line _, settle_stager _, (settle_keepsLead _).2.2 rfl, k.time, k.inputs, k.cfg,
      k.ovf, k.gate, k.chanA, k.chanB⟩

/-! ### The lead -/

theorem ownAddress_lt (s : State) : ownAddress s < 8 := s.straps.address.isLt

/-- The lowest of a range of addresses that satisfies `p`. -/
theorem find_addresses {p : Nat → Bool} {a : Nat} (le : a < 8) (h : p a = true)
    (lower : ∀ b < a, p b = false) : addresses.find? p = some a := by
  rw [show addresses = List.range 8 from rfl, List.find?_range_eq_some]
  exact ⟨h, List.mem_range.2 le, fun b lt => by simp [lower b lt]⟩

/-- A handover to a new lead (R81, R82). -/
theorem passOver_of_next {n : Nat} (h : nextLead s = some n) : passOver s = setDuty s { s.duty with
    holdsLead := decide (n = ownAddress s), leadUnusable := 0 } := by
  simp only [passOver, handOver, leadAfter, h]
  rfl

/-- Settles O27. -/
theorem leadAndAlone : Obligations.LeadAndAlone := by
  refine ⟨fun s p r joined count => ?_, fun s p r joined noLead atEnd fresh shows lower => ?_,
    fun s p r joined count => ?_⟩
  · unfold exec execAloneDetect
    exact taken_setLine_follows (by simp [joined, count]) rfl ⟨rfl, .rfl⟩ p r
  · have lowest : lowestAvailable s = true := by
      have e := find_addresses (p := fun a => freshAt s a && (peer s a).available)
        (ownAddress_lt s) (by simpa using And.intro fresh shows) fun b lt => by
          simpa using lower b lt
      simpa [lowestAvailable] using e
    unfold exec execNoLeadTake
    refine taken_follows (by simp [joined, noLead, atEnd, lowest]) ?_ ?_
    · exact p
    · exact r
  · have can : (s.line.mode == .joined && decide (50 ≤ s.duty.leadUnusable)) = true := by
      simp [joined, count]
    have safe : PumpSafe (passOver s) ∧ RakeSafe (passOver s) := by
      cases n : nextLead s with
      | none => simp only [passOver, n]; exact ⟨p, r⟩
      | some a => rw [passOver_of_next n]; exact ⟨p, r⟩
    obtain ⟨t, e, f⟩ := taken_follows can safe.1 safe.2
    unfold exec execLeadUnusableHandover
    refine ⟨t, e, fun n => ?_, fun a n => ?_⟩
    · simpa only [passOver, n] using f
    · rw [passOver_of_next n] at f
      exact f

end Sys2Proof.Machine
end

section
/-! SUPPORT. The cells of a frame: what a list of cells reads as, cell by cell and as a numeric field;
and O55, a notice as driven and as read. -/

namespace Sys2Proof.Machine

open Sys2Proof

/-! ### Cells from a list -/

theorem cellsNat_testBit : ∀ (bs : List Bool) (k : Nat), (cellsNat bs).testBit k = bs.getD k false
  | [], k => by simp [cellsNat]
  | b :: bs, 0 => by cases b <;> simp [cellsNat, Nat.testBit_zero]
  | b :: bs, k + 1 => by
    have half : cellsNat (b :: bs) / 2 = cellsNat bs := by
      have lowest : (if b then 1 else 0) < 2 := by split <;> omega
      rw [cellsNat]
      omega
    rw [Nat.testBit_add_one, half, cellsNat_testBit bs k, List.getD_cons_succ]

theorem toCells_getLsbD (bs : List Bool) {k : Nat} (h : k < 136) :
    (toCells bs).getLsbD k = bs.getD k false := by
  rw [toCells, BitVec.getLsbD_ofNat, cellsNat_testBit]
  simp [h]

theorem fieldCells_getD {n j : Nat} (v : Nat) (h : j < n) :
    (fieldCells n v).getD j false = !v.testBit (n - 1 - j) := by
  simp [fieldCells, digits, List.getD_eq_getElem?_getD, h]

theorem fieldCells_length (n v : Nat) : (fieldCells n v).length = n := by simp [fieldCells, digits]

theorem recessive_getD (n j : Nat) : (recessive n).getD j false = false := by
  simp only [recessive, List.getD_eq_getElem?_getD, List.getElem?_replicate]
  split <;> rfl

/-- Cells given in segments: cell `j` of the `i`-th. -/
theorem flatten_getD : ∀ (segments : List (List Bool)) (i j : Nat),
    j < (segments.getD i []).length →
      segments.flatten.getD ((segments.take i).flatten.length + j) false
        = (segments.getD i []).getD j false
  | [], i, j, h => by simp at h
  | x :: xs, 0, j, h => by
    simp only [List.getD_cons_zero] at h
    simp [List.getD_eq_getElem?_getD, List.getElem?_append_left h]
  | x :: xs, i + 1, j, h => by
    simp only [List.getD_cons_succ] at h ⊢
    rw [← flatten_getD xs i j h, List.take_succ_cons, List.flatten_cons, List.flatten_cons,
      List.length_append, Nat.add_assoc, List.getD_append_right _ _ _ _ (by omega)]
    congr 1
    omega

/-! ### Numeric fields -/

/-- A field whose cells carry the digits of a number reads as that number (R2). -/
theorem numericField_of_digits {c : Cells} {start : Nat} : ∀ (n v : Nat), v < 2 ^ n →
    (∀ j < n, c.getLsbD (start + j) = !v.testBit (n - 1 - j)) → numericField c start n = v
  | 0, v, h, _ => by simp only [numericField]; omega
  | n + 1, v, h, d => by
    have upper : numericField c start n = v / 2 := by
      refine numericField_of_digits n (v / 2) (by omega) fun j l => ?_
      rw [d j (by omega), show n + 1 - 1 - j = (n - 1 - j) + 1 by omega, Nat.testBit_add_one]
    have lowest := d n (by omega)
    rw [show n + 1 - 1 - n = 0 by omega, Nat.testBit_zero] at lowest
    rw [numericField, upper, lowest]
    rcases Nat.mod_two_eq_zero_or_one v with e | e <;> simp [e] <;> omega

/-- A claim field as driven reads as its key, or as all ones with none (R12). -/
theorem numericField_of_claim {c : Cells} {start n : Nat} {key : Option Nat}
    (d : ∀ j < n, c.getLsbD (start + j) = (claimCells n key).getD j false)
    (h : ∀ k, key = some k → k < 2 ^ n) : numericField c start n = key.getD (2 ^ n - 1) := by
  cases key with
  | some k =>
    refine numericField_of_digits n k (h k rfl) fun j l => ?_
    rw [d j l]
    exact fieldCells_getD k l
  | none =>
    refine numericField_of_digits n (2 ^ n - 1) (by have := Nat.two_pow_pos n; omega) fun j l => ?_
    rw [d j l, Nat.testBit_two_pow_sub_one]
    simp only [claimCells, recessive_getD, Bool.false_eq, Bool.not_eq_false', decide_eq_true_eq]
    omega

/-! ### A notice -/

theorem crc8_lt (body : Nat) : crc8 body < 2 ^ 8 := BitVec.isLt _

/-- A code and state in the ranges of any kind fit their 5 and 3 digits (R140). -/
theorem fieldsInRange_le {k : NoticeKind} {code state : Nat} (h : fieldsInRange k code state = true) :
    code ≤ 31 ∧ state ≤ 7 := by
  cases k <;> simp [fieldsInRange] at h <;> omega

theorem noticeKindNumber_le (k : NoticeKind) : noticeKindNumber k ≤ 6 := by cases k <;> decide

theorem noticeKindOf_number (k : NoticeKind) : noticeKindOf (noticeKindNumber k) = some k := by
  cases k <;> rfl

/-- The cells of a notice: none before cell 96, its body from there, its check from cell 128. -/
theorem noticeCells_getLsbD (body check : Nat) :
    (∀ k < 96, (noticeCells body check).getLsbD k = false)
      ∧ (∀ j < 32, (noticeCells body check).getLsbD (96 + j) = !body.testBit (32 - 1 - j))
      ∧ ∀ j < 8, (noticeCells body check).getLsbD (128 + j) = !check.testBit (8 - 1 - j) := by
  have e : noticeCells body check
      = toCells [recessive 96, fieldCells 32 body, fieldCells 8 check].flatten := by simp [noticeCells]
  have cell := flatten_getD [recessive 96, fieldCells 32 body, fieldCells 8 check]
  have r : (recessive 96).length = 96 := List.length_replicate ..
  refine ⟨fun k h => ?_, fun j h => ?_, fun j h => ?_⟩
  · have := cell 0 k (by simpa [r] using h)
    rw [e, toCells_getLsbD _ (by omega)]
    exact (by simpa using this : _ = (recessive 96).getD k false).trans (recessive_getD 96 k)
  · have := cell 1 j (by simpa [fieldCells_length] using h)
    rw [e, toCells_getLsbD _ (by omega), ← fieldCells_getD body h]
    simpa [r] using this
  · have := cell 2 j (by simpa [fieldCells_length] using h)
    rw [e, toCells_getLsbD _ (by omega), ← fieldCells_getD check h]
    simpa [r, fieldCells_length] using this

/-- The fields of a body, each in its own digits (11.1). -/
theorem bodyOf_fields {e : NoticeEntry} (subject : e.subject ≤ 15) (code : e.code ≤ 31)
    (state : e.state ≤ 7) (value : e.value < 65536) :
    bodyOf e < 2 ^ 32 ∧ bodyOf e / 2 ^ 28 % 16 = noticeKindNumber e.kind
      ∧ bodyOf e / 2 ^ 24 % 16 = e.subject ∧ bodyOf e / 2 ^ 19 % 32 = e.code
      ∧ bodyOf e / 2 ^ 16 % 8 = e.state ∧ bodyOf e % 65536 = e.value := by
  have kind := noticeKindNumber_le e.kind
  unfold bodyOf
  generalize noticeKindNumber e.kind = k at kind ⊢
  refine ⟨?_, ?_, ?_, ?_, ?_, ?_⟩ <;> omega

/-- A body whose digits are those of a notice in range is read as that notice (R140). -/
theorem receivedOf_of_fields {b : Nat} {k : NoticeKind} {subject code state value : Nat}
    (kind : b / 2 ^ 28 % 16 = noticeKindNumber k) (s : b / 2 ^ 24 % 16 = subject)
    (c : b / 2 ^ 19 % 32 = code) (st : b / 2 ^ 16 % 8 = state) (v : b % 65536 = value)
    (le : subject ≤ 7) (range : fieldsInRange k code state = true) :
    receivedOf b = some ⟨k, subject, code, state, value⟩ := by
  subst s c st v
  unfold receivedOf
  rw [kind, noticeKindOf_number]
  simp only [le, range, decide_true, Bool.and_self, if_true]

/-- Settles O55: each field of a body lies in its own digits, and each digit in its own cell. -/
theorem noticesAgree : Obligations.NoticesAgree := by
  intro e subject value range
  obtain ⟨code, state⟩ := fieldsInRange_le range
  obtain ⟨before, body, check⟩ := noticeCells_getLsbD (bodyOf e) (crc8 (bodyOf e))
  obtain ⟨size, k, s, c, st, v⟩ := bodyOf_fields (by omega) code state value
  exact ⟨numericField_of_digits 32 _ size body, numericField_of_digits 8 _ (crc8_lt _) check,
    receivedOf_of_fields k s c st v subject range, before⟩

end Sys2Proof.Machine
end

section
/-! O18. The frame that a JOINED station drives: its cells in segments, its claim keys, and the state
after a frame start in JOINED. -/

namespace Sys2Proof.Machine

open Sys2Proof

variable {s t : State}

/-! ### The cells driven -/

/-- The segments of the cells that a JOINED station drives, in the order of R175. -/
def driveSegments (s : State) (start report notice : Option Nat) : List (List Bool) :=
  [demandCells (publishedStage s),
   [isActive s .lowFloat, overflowOpen s.ovf, unackAsserted s, s.alarms.ackPress || s.alarms.ackTown],
   claimCells 7 start, [inrushAsserted s], claimCells 4 report,
   [isActive s .supplyLow, isActive s .tideClosed, isActive s .highFloat, isActive s .allStop],
   claimCells 4 notice, recessive (8 * ownAddress s), ownField s, recessive (8 * (7 - ownAddress s)),
   recessive 40]

theorem driveCells_eq (s : State) (start report notice : Option Nat) :
    driveCells s start report notice = toCells (driveSegments s start report notice).flatten := by
  simp [driveCells, driveSegments]

theorem claimCells_length (n : Nat) (key : Option Nat) : (claimCells n key).length = n := by
  cases key with
  | none => exact List.length_replicate ..
  | some k => exact fieldCells_length n k

theorem recessive_length (n : Nat) : (recessive n).length = n := List.length_replicate ..

theorem demandCells_length (n : Nat) : (demandCells n).length = 8 := rfl

theorem demandCells_getD (stage : Nat) {k : Nat} (h : k < 8) :
    (demandCells stage).getD k false = decide (k < stage) := by
  simp [demandCells, List.getD_eq_getElem?_getD, h]

section Segments

variable (s : State) (start report notice : Option Nat)

/-- Cell `j` of the `i`-th segment, where the segments before it hold `n` cells. -/
theorem driveCells_segment (i : Nat) {j n : Nat}
    (before : ((driveSegments s start report notice).take i).flatten.length = n)
    (h : j < ((driveSegments s start report notice).getD i []).length) (k : n + j < 136) :
    (driveCells s start report notice).getLsbD (n + j)
      = ((driveSegments s start report notice).getD i []).getD j false := by
  rw [driveCells_eq, toCells_getLsbD _ k, ← before]
  exact flatten_getD _ i j h

theorem driveCells_demand {k : Nat} (h : k < 8) :
    (driveCells s start report notice).getLsbD k = decide (k < publishedStage s) := by
  have e := driveCells_segment s start report notice 0 (n := 0) (j := k) rfl h (by omega)
  rw [Nat.zero_add] at e
  exact e.trans (demandCells_getD _ h)

/-- The common flags of cells 8 to 11 (R10). -/
theorem driveCells_flags {j : Nat} (h : j < 4) : (driveCells s start report notice).getLsbD (8 + j)
    = [isActive s .lowFloat, overflowOpen s.ovf, unackAsserted s,
        s.alarms.ackPress || s.alarms.ackTown].getD j false :=
  driveCells_segment s start report notice 1 rfl h (by omega)

theorem driveCells_start {j : Nat} (h : j < 7) :
    (driveCells s start report notice).getLsbD (12 + j) = (claimCells 7 start).getD j false :=
  driveCells_segment s start report notice 2 rfl (by simpa [driveSegments, claimCells_length] using h)
    (by omega)

theorem driveCells_inrush :
    (driveCells s start report notice).getLsbD 19 = inrushAsserted s :=
  driveCells_segment s start report notice 3 (n := 19) (j := 0)
    (by simp [driveSegments, claimCells_length, demandCells_length]) (by simp [driveSegments])
    (by decide)

theorem driveCells_report {j : Nat} (h : j < 4) :
    (driveCells s start report notice).getLsbD (20 + j) = (claimCells 4 report).getD j false :=
  driveCells_segment s start report notice 4
    (by simp [driveSegments, claimCells_length, demandCells_length])
    (by simpa [driveSegments, claimCells_length] using h) (by omega)

/-- The input cells 24 to 27 (R10). -/
theorem driveCells_inputs {j : Nat} (h : j < 4) : (driveCells s start report notice).getLsbD (24 + j)
    = [isActive s .supplyLow, isActive s .tideClosed, isActive s .highFloat,
        isActive s .allStop].getD j false :=
  driveCells_segment s start report notice 5
    (by simp [driveSegments, claimCells_length, demandCells_length]) h (by omega)

theorem driveCells_notice {j : Nat} (h : j < 4) :
    (driveCells s start report notice).getLsbD (28 + j) = (claimCells 4 notice).getD j false :=
  driveCells_segment s start report notice 6
    (by simp [driveSegments, claimCells_length, demandCells_length])
    (by simpa [driveSegments, claimCells_length] using h) (by omega)

/-- The own station field (R11). -/
theorem driveCells_own {j : Nat} (h : j < 8) :
    (driveCells s start report notice).getLsbD (stationCell (ownAddress s) + j)
      = (ownField s).getD j false := by
  have own := ownAddress_lt s
  refine driveCells_segment s start report notice 8 ?_ h (by unfold stationCell; omega)
  simp only [driveSegments, List.take_succ_cons, List.take_zero, List.flatten_cons, List.flatten_nil,
    List.length_append, claimCells_length, demandCells_length, recessive_length, List.length_cons,
    List.length_nil, stationCell]
  omega

/-- No other station's field is driven (R11). -/
theorem driveCells_other {a j : Nat} (ha : a < 8) (ne : a ≠ ownAddress s) (h : j < 8) :
    (driveCells s start report notice).getLsbD (stationCell a + j) = false := by
  have own := ownAddress_lt s
  rcases Nat.lt_or_gt_of_ne ne with lt | gt
  · rw [show stationCell a + j = 32 + (8 * a + j) by unfold stationCell; omega,
      driveCells_segment s start report notice 7
        (by simp [driveSegments, claimCells_length, demandCells_length])
        (by simp only [driveSegments, List.getD_cons_succ, List.getD_cons_zero, recessive_length]; omega)
        (by omega)]
    exact recessive_getD _ _
  · rw [show stationCell a + j = (40 + 8 * ownAddress s) + (8 * (a - ownAddress s - 1) + j) by
        unfold stationCell; omega,
      driveCells_segment s start report notice 9
        (by
          simp only [driveSegments, List.take_succ_cons, List.take_zero, List.flatten_cons,
            List.flatten_nil, List.length_append, claimCells_length, demandCells_length,
            recessive_length, List.length_cons, List.length_nil, ownField]
          omega)
        (by simp only [driveSegments, List.getD_cons_succ, List.getD_cons_zero, recessive_length]; omega)
        (by omega)]
    exact recessive_getD _ _

/-- The notice body and check are not driven at the frame start (R13). -/
theorem driveCells_body {k : Nat} (h : 96 ≤ k) :
    (driveCells s start report notice).getLsbD k = false := by
  have own := ownAddress_lt s
  by_cases lt : k < 136
  · rw [show k = 96 + (k - 96) by omega, driveCells_segment s start report notice 10
        (by
          simp only [driveSegments, List.take_succ_cons, List.take_zero, List.flatten_cons,
            List.flatten_nil, List.length_append, claimCells_length, demandCells_length,
            recessive_length, List.length_cons, List.length_nil, ownField]
          omega)
        (by simp only [driveSegments, List.getD_cons_succ, List.getD_cons_zero, recessive_length]; omega)
        (by omega)]
    exact recessive_getD _ _
  · exact BitVec.getLsbD_of_ge _ _ (by omega)

end Segments

/-! ### The claim keys -/

/-- The start key of a pump in START_WAIT (R73). -/
theorem pumpKey_eq (s : State) : pumpKey s =
    (if 0 < s.duty.unplanned ∨ s.duty.peerYielding = true then 0 else 64)
      + (if min (s.duty.index.getD 7) 7 = 7 ∧ ownAddress s = 7 then 6
          else min (s.duty.index.getD 7) 7) * 8 + ownAddress s := by
  unfold pumpKey
  simp only [Nat.min_comm 7, Bool.or_eq_true, decide_eq_true_eq, and_comm (a := ownAddress s = 7)]

theorem rakeKey_eq (s : State) :
    rakeKey s = 64 + (if ownAddress s = 7 then 6 else 7) * 8 + ownAddress s := by
  simp [rakeKey]

theorem startKeyOf_lt {k : Claimant × Nat} (h : startKeyOf s = some k) : k.2 < 2 ^ 7 := by
  have own := ownAddress_lt s
  unfold startKeyOf at h
  split at h
  · obtain rfl := Option.some.inj h
    rw [pumpKey_eq]
    split <;> split <;> omega
  · split at h
    · obtain rfl := Option.some.inj h
      rw [rakeKey_eq]
      split <;> omega
    · exact absurd h nofun

theorem reportKeyOf_eq (s : State) : reportKeyOf s = (if s.reporter.mode = .active then
    some (ownAddress s) else if s.reporter.mode = .claiming then some (8 + ownAddress s) else none) := by
  unfold reportKeyOf
  cases s.reporter.mode <;> rfl

theorem reportKeyOf_lt {k : Nat} (h : reportKeyOf s = some k) : k < 2 ^ 4 := by
  have own := ownAddress_lt s
  rw [reportKeyOf_eq] at h
  split at h
  · obtain rfl := Option.some.inj h
    omega
  · split at h
    · obtain rfl := Option.some.inj h
      omega
    · exact absurd h nofun

theorem noticeKey_eq (s : State) (e : NoticeEntry) : noticeKey s e
    = (if e.urgent = true ∨ ownAddress s = 7 then 0 else 8) + ownAddress s := by
  simp [noticeKey]

theorem noticeKey_lt (s : State) (e : NoticeEntry) : noticeKey s e < 2 ^ 4 := by
  have own := ownAddress_lt s
  rw [noticeKey_eq]
  split <;> omega

/-- The head with which a JOINED station contends (R137, log 29). -/
theorem contendingHead_iff (m : s.line.mode = .joined) (e : NoticeEntry) :
    contendingHead s = some e ↔ s.notices.holdoff = false ∧ s.notices.queue.head? = some e
      ∧ ¬(8 ≤ e.attempts ∧ e.inFlight = false) := by
  unfold contendingHead
  cases s.notices.holdoff with
  | true => simp
  | false =>
    cases s.notices.queue with
    | nil => simp [m]
    | cons x rest =>
      simp only [m, beq_self_eq_true, Bool.not_false, Bool.and_self, if_true, List.head?_cons,
        true_and, Option.some.injEq, spent, Bool.and_eq_true, decide_eq_true_eq, Bool.not_eq_true']
      split
      · rename_i sp
        exact ⟨nofun, fun ⟨eq, no⟩ => absurd (eq ▸ sp) no⟩
      · rename_i no
        rw [Option.some.injEq]
        exact ⟨fun eq => ⟨eq, eq ▸ no⟩, fun h => h.1⟩

/-- The own field shown as an entry (R11). -/
theorem shownEntry_driveOf (s : State) : shownEntry (driveOf s).cells (ownAddress s) 0 =
    ⟨true, 0, s.duty.holdsLead, available s, runningAsserted s, s.duty.inrush.isSome,
      decide (s.screen.condition = .blocked), yieldingAsserted s, s.line.nextBeat, 0⟩ := by
  have own := fun (j : Nat) (h : j < 8) => driveCells_own s ((startKeyOf s).map (·.2)) (reportKeyOf s)
    ((contendingHead s).map (noticeKey s)) h
  simp only [shownEntry, driveOf, own 1 (by decide), own 2 (by decide), own 3 (by decide),
    own 4 (by decide), own 5 (by decide), own 6 (by decide), own 7 (by decide)]
  rfl

/-! ### The frame start in JOINED -/

/-- A frame start in JOINED: the edge, availability, the drive taken with the head put in flight, the
holdoff and the ACK assertions cleared, BEAT inverted (R9, R11, R125, R137). -/
theorem frameStart_joined (m : s.line.mode = .joined) : frameStart s = { s with
    line := { (takeEdge s).line with
      drive := some (driveOf s), driver := .driving, nextBeat := !s.line.nextBeat }
    duty := { s.duty with availableAtStart := available s }
    alarms := { s.alarms with ackPress := false, ackTown := false }
    notices := { s.notices with
      holdoff := false
      queue := if (contendingHead s).isSome then headInFlight s.notices.queue
        else s.notices.queue } } := by
  have joined : (setDuty (takeEdge s) { (takeEdge s).duty with
      availableAtStart := available (takeEdge s) }).line.mode = .joined := m
  have key : (driveOf s).noticeKey.isSome = (contendingHead s).isSome := Option.isSome_map
  unfold frameStart
  simp only [joined, if_true]
  show takeDrive _ = _
  unfold takeDrive
  dsimp only
  rw [show driveOf (setDuty (takeEdge s) { (takeEdge s).duty with
      availableAtStart := available (takeEdge s) }) = driveOf s from rfl, key]
  cases (contendingHead s).isSome <;> rfl

theorem rawCondition_frameStart (m : s.line.mode = .joined) (c : AlarmCode) :
    rawCondition (frameStart s) c = rawCondition s c := by
  rw [frameStart_joined m]
  cases c <;> rfl

theorem recordOf_frameStart (m : s.line.mode = .joined) (c : AlarmCode) :
    recordOf (frameStart s) c = recordOf s c := by
  rw [frameStart_joined m]
  rfl

/-- Where no raw condition differs from its record the closing work hands no notice. -/
theorem Follows.notices (h : Follows s t) (agree : ∀ c, rawCondition s c = (recordOf s c).raw) :
    t.notices = s.notices := by
  obtain ⟨-, -, -, kept, -⟩ := h
  exact (kept agree).2.1

theorem frameStart_safe (m : s.line.mode = .joined) (p : PumpSafe s) (r : RakeSafe s) :
    PumpSafe (frameStart s) ∧ RakeSafe (frameStart s) := by
  have k : SameCells s.line { (takeEdge s).line with
      drive := some (driveOf s), driver := .driving, nextBeat := !s.line.nextBeat } := ⟨rfl, .rfl⟩
  rw [frameStart_joined m]
  exact ⟨p.setLine k, r.setLine k⟩

/-- The three claim fields as driven read as their keys, or all ones (R12). -/
theorem driveOf_claims (s : State) : startField (driveOf s).cells = ((startKeyOf s).map (·.2)).getD 127
    ∧ reportField (driveOf s).cells = (reportKeyOf s).getD 15
    ∧ noticeField (driveOf s).cells = ((contendingHead s).map (noticeKey s)).getD 15 := by
  refine ⟨numericField_of_claim (fun j h => driveCells_start s _ _ _ h) fun k e => ?_,
    numericField_of_claim (fun j h => driveCells_report s _ _ _ h) fun k e => reportKeyOf_lt e,
    numericField_of_claim (fun j h => driveCells_notice s _ _ _ h) fun k e => ?_⟩
  · obtain ⟨x, start, rfl⟩ := Option.map_eq_some_iff.1 e
    exact startKeyOf_lt start
  · obtain ⟨x, -, rfl⟩ := Option.map_eq_some_iff.1 e
    exact noticeKey_lt s x

/-- The start key: the pump's in START_WAIT goes before the rake's in RK_WAIT (R14, R73, R98). -/
theorem startKeyOf_cases (s : State) :
    (s.duty.pump = .startWait → startKeyOf s = some (.duty, pumpKey s))
    ∧ (s.duty.pump ≠ .startWait → s.screen.rake = .wait → startKeyOf s = some (.screen, rakeKey s))
    ∧ (s.duty.pump ≠ .startWait → s.screen.rake ≠ .wait → startKeyOf s = none) := by
  refine ⟨fun w => ?_, fun w r => ?_, fun w r => ?_⟩
  · simp [startKeyOf, w]
  · simp [startKeyOf, w, r]
  · simp [startKeyOf, w, r]

/-- The queue after a frame start in JOINED: the contending head in flight, or as it was (R137). -/
theorem frameStart_queue (m : s.line.mode = .joined) :
    (∀ e, contendingHead s = some e → ∃ rest, s.notices.queue = e :: rest
        ∧ (frameStart s).notices.queue = { e with inFlight := true } :: rest)
      ∧ (contendingHead s = none → (frameStart s).notices.queue = s.notices.queue) := by
  have queue := congrArg (fun x : State => x.notices.queue) (frameStart_joined m)
  refine ⟨fun e h => ?_, fun h => by simpa [h] using queue⟩
  obtain ⟨-, head, -⟩ := (contendingHead_iff m e).1 h
  obtain ⟨rest, q⟩ := List.head?_eq_some_iff.1 head
  exact ⟨rest, q, by simpa [h, q, headInFlight] using queue⟩

/-- Settles O18: the cells segment by segment, the keys, and what the frame start takes with them. -/
theorem frameDriven : Obligations.FrameDriven := by
  intro s p r outside idle m
  have can : lineIdleNow s.line = true := by simp [lineIdleNow, outside, idle]
  have next : exec .syncLeadingEdge s = .next (settle (frameStart s)) := taken_of_can _ _ can
  obtain ⟨pf, rf⟩ := frameStart_safe m p r
  have notices : (∀ c, rawCondition s c = (recordOf s c).raw) →
      (settle (frameStart s)).notices = (frameStart s).notices := fun agree =>
    (settle_follows pf rf).notices fun c => by
      rw [rawCondition_frameStart m, recordOf_frameStart m, agree]
  obtain ⟨inFlight, kept⟩ := frameStart_queue m
  have duty : (settle (frameStart s)).duty = (frameStart s).duty := by
    rw [settle_duty, applyHold_of_safe pf]
  have flags := fun (j : Nat) (h : j < 4) => driveCells_flags s ((startKeyOf s).map (·.2))
    (reportKeyOf s) ((contendingHead s).map (noticeKey s)) h
  have inputs := fun (j : Nat) (h : j < 4) => driveCells_inputs s ((startKeyOf s).map (·.2))
    (reportKeyOf s) ((contendingHead s).map (noticeKey s)) h
  obtain ⟨startRead, reportRead, noticeRead⟩ := driveOf_claims s
  obtain ⟨pumpFirst, rakeNext, noKey⟩ := startKeyOf_cases s
  refine ⟨settle (frameStart s), driveOf s, next, ?_⟩
  simp only [settle_line, settle_ackPress, settle_ackTown, settle_holdoff, duty]
  refine ⟨by rw [frameStart_joined m], fun k h => driveCells_demand s _ _ _ h,
    flags 0 (by decide), flags 1 (by decide), flags 2 (by decide), flags 3 (by decide),
    driveCells_inrush s _ _ _, inputs 0 (by decide), inputs 1 (by decide), inputs 2 (by decide),
    inputs 3 (by decide), startRead, reportRead, noticeRead, shownEntry_driveOf s,
    driveCells_own s _ _ _ (j := 0) (by decide), fun a ha ne j h => driveCells_other s _ _ _ ha ne h,
    fun k h => driveCells_body s _ _ _ h, rfl, rfl, fun w place e => ?_, fun w k => ?_, noKey,
    reportKeyOf_eq s, contendingHead_iff m, noticeKey_eq s, fun e h => ?_, ?_, ?_, ?_, rfl,
    fun e h agree => ?_, fun h agree => ?_, ?_, ?_, ?_, ?_, available_iff s, ?_, ?_, ?_⟩
  · subst e
    rw [pumpFirst w, pumpKey_eq]
  · rw [rakeNext w k, rakeKey_eq]
  · simp [driveOf, h]
  · rw [frameStart_joined m]
  · rw [frameStart_joined m]
  · rw [frameStart_joined m]; rfl
  · rw [notices agree]
    exact inFlight e h
  · rw [notices agree]
    exact kept h
  · rw [frameStart_joined m]; rfl
  · rw [frameStart_joined m]; rfl
  · rw [frameStart_joined m]; rfl
  all_goals rw [frameStart_joined m]

end Sys2Proof.Machine
end

section
/-! SUPPORT. The outgoing queue and the alarm records through the closing work: no entry goes in flight
there, without a loss no entry goes, and each record moves by its own condition. -/

namespace Sys2Proof.Machine

open Sys2Proof

variable {s t u : State}

/-! ### The queue -/

/-- The number of entries in flight. -/
def flights (q : List NoticeEntry) : Nat := q.countP (·.inFlight)

/-- The same notice, as the queue knows it: merging changes its state, value and class alone (R135). -/
def SameNotice (x y : NoticeEntry) : Prop :=
  y.kind = x.kind ∧ y.subject = x.subject ∧ y.code = x.code ∧ y.attempts = x.attempts
    ∧ y.inFlight = x.inFlight

theorem SameNotice.refl (x : NoticeEntry) : SameNotice x x := ⟨rfl, rfl, rfl, rfl, rfl⟩

theorem SameNotice.trans {x y z : NoticeEntry} (h : SameNotice x y) (k : SameNotice y z) :
    SameNotice x z := by
  obtain ⟨kind, subject, code, attempts, inFlight⟩ := h
  obtain ⟨kind', subject', code', attempts', inFlight'⟩ := k
  exact ⟨kind'.trans kind, subject'.trans subject, code'.trans code, attempts'.trans attempts,
    inFlight'.trans inFlight⟩

/-- No more entries are in flight, the loss counter does not fall, and where it does not rise every
entry is still in the queue. -/
def QueueKept (s t : State) : Prop :=
  flights t.notices.queue ≤ flights s.notices.queue
  ∧ (s.notices.lost ≤ 255 → s.notices.lost ≤ t.notices.lost ∧ t.notices.lost ≤ 255)
  ∧ (s.notices.lost < 255 → t.notices.lost = s.notices.lost →
      ∀ x ∈ s.notices.queue, ∃ y ∈ t.notices.queue, SameNotice x y)

theorem QueueKept.trans (h : QueueKept s t) (k : QueueKept t u) : QueueKept s u := by
  obtain ⟨flights₁, lost₁, entries₁⟩ := h
  obtain ⟨flights₂, lost₂, entries₂⟩ := k
  refine ⟨flights₂.trans flights₁, fun b => ?_, fun b e x m => ?_⟩
  · have := lost₁ b
    have := lost₂ this.2
    omega
  · have first := lost₁ (by omega)
    have second := lost₂ first.2
    obtain ⟨y, my, xy⟩ := entries₁ b (by omega) x m
    obtain ⟨z, mz, yz⟩ := entries₂ (by omega) (by omega) y my
    exact ⟨z, mz, xy.trans yz⟩

/-- A queue whose entries have each changed in what merging changes, or in what a command's end does. -/
theorem QueueKept.of_map {f : NoticeEntry → NoticeEntry} (h : ∀ x, SameNotice x (f x))
    (q : t.notices.queue = s.notices.queue.map f) (l : t.notices.lost = s.notices.lost) :
    QueueKept s t := by
  have e : ((fun x : NoticeEntry => x.inFlight) ∘ f) = (·.inFlight) := by
    funext x
    exact (h x).2.2.2.2
  refine ⟨?_, fun b => ⟨l.ge, l.trans_le b⟩, fun _ _ x m => ⟨f x, q ▸ List.mem_map_of_mem m, h x⟩⟩
  rw [q, flights, flights, List.countP_map, e]

theorem QueueKept.of_notices (h : t.notices = s.notices) : QueueKept s t :=
  .of_map (f := id) .refl (by simp [h]) (by rw [h])

theorem QueueKept.refl (s : State) : QueueKept s s := .of_notices rfl

theorem OnlyPlant.queueKept (h : OnlyPlant s t) : QueueKept s t := .of_notices h.notices

theorem endCommand_queueKept (k : AnswerKind) (s : State) : QueueKept s (endCommand k s) := by
  unfold endCommand
  split
  · exact .refl s
  · exact .of_map (f := fun x => { x with forContext := false }) (fun _ => ⟨rfl, rfl, rfl, rfl, rfl⟩)
      rfl rfl

/-- A loss: the counter rises, so that nothing is said of the entries (R133). -/
theorem QueueKept.of_loss (f : flights t.notices.queue ≤ flights s.notices.queue)
    (l : t.notices.lost = satSucc 255 s.notices.lost) : QueueKept s t := by
  unfold satSucc at l
  exact ⟨f, fun _ => by omega, fun _ _ => by omega⟩

theorem afterDiscard_flights (q : List NoticeEntry) : flights (afterDiscard q) ≤ flights q := by
  unfold afterDiscard
  split <;> exact (List.eraseP_sublist ..).countP_le

theorem makeRoom_queueKept (s : State) : QueueKept s (makeRoom s) := by
  unfold makeRoom
  split
  · exact .refl s
  · split
    · exact .refl s
    · rename_i v _
      have loss : QueueKept s (countLoss (setQueue s (afterDiscard s.notices.queue))) :=
        .of_loss (afterDiscard_flights _) rfl
      unfold loseEntry
      dsimp only
      split
      · exact loss.trans (endCommand_queueKept _ _)
      · exact loss

theorem joinQueue_flights {e : NoticeEntry} (h : e.inFlight = false) (q : List NoticeEntry) :
    flights (joinQueue q e) = flights q := by
  unfold joinQueue flights
  split
  · conv_rhs => rw [← List.takeWhile_append_dropWhile (p := (·.urgent)) (l := q)]
    rw [List.countP_append, List.countP_append, List.countP_cons]
    simp [h]
  · simp [List.countP_append, h]

theorem handNotice_queueKept {e : NoticeEntry} (h : e.inFlight = false) (s : State) :
    QueueKept s (handNotice s e) := by
  unfold handNotice
  split
  · refine .of_map (fun x => ?_) rfl rfl
    split
    · exact ⟨rfl, rfl, rfl, rfl, rfl⟩
    · exact .refl x
  · refine (makeRoom_queueKept s).trans ⟨(joinQueue_flights h _).le, fun b => ⟨le_rfl, b⟩,
      fun _ _ x m => ⟨x, (mem_joinQueue _ _ _).2 (.inl m), .refl x⟩⟩

theorem takeRecord_queueKept (s : State) (c : AlarmCode) (r : AlarmRecord) :
    QueueKept s (takeRecord s c r) := by
  have set : QueueKept s (setRecord s c r) := .of_notices rfl
  unfold takeRecord
  dsimp only
  split
  · exact set
  · exact set.trans (handNotice_queueKept rfl _)

theorem settleCode_queueKept (s : State) (c : AlarmCode) : QueueKept s (settleCode s c) := by
  unfold settleCode
  dsimp only
  split
  · exact .refl s
  · split
    · exact takeRecord_queueKept s c _
    · exact .of_notices rfl

theorem QueueKept.foldl {f : State → AlarmCode → State} (h : ∀ s x, QueueKept s (f s x)) :
    ∀ (l : List AlarmCode) (s : State), QueueKept s (l.foldl f s)
  | [], s => .refl s
  | x :: l, s => (h s x).trans (QueueKept.foldl h l (f s x))

theorem takeCodes_queueKept (codes : List AlarmCode) (s : State) : QueueKept s (takeCodes codes s) :=
  (QueueKept.foldl settleCode_queueKept codes s).trans (.of_notices (settlePanel_notices _))

theorem serve_onlyPlant (s : State) : OnlyPlant s (serve s) :=
  (applyHold_onlyDuty s).onlyPlant.trans
    ((applyRakeStop_onlyScreen _).onlyPlant.trans (serveRequest_onlyScreen _).onlyPlant)

/-- The closing work hands notices and does nothing else to the queue. -/
theorem settle_queueKept (s : State) : QueueKept s (settle s) :=
  (serve_onlyPlant s).queueKept.trans ((takeCodes_queueKept _ _).trans (takeCodes_queueKept _ _))

theorem releaseWaiting_onlyPlant (b s : State) : OnlyPlant s (releaseWaiting b s) := by
  have unlock : ∀ v : State, OnlyPlant v (unlockRake v) := fun _ => rfl
  unfold releaseWaiting
  exact (OnlyPlant.of_ite (leaveFaulted_onlyDuty s).onlyPlant (.refl s)).trans
    (.of_ite (unlock _) (.refl _))

theorem acknowledge_queueKept (s : State) : QueueKept s (acknowledge s) := by
  unfold acknowledge
  split
  · exact (QueueKept.foldl (fun v c => takeRecord_queueKept v c _) allCodes s).trans
      ((QueueKept.of_notices (settlePanel_notices _)).trans (releaseWaiting_onlyPlant s _).queueKept)
  · exact .refl s

/-! ### The result of a broken claim -/

theorem releaseEntry_flights (q : List NoticeEntry) (e : NoticeEntry) (n : Nat) :
    flights (releaseEntry q e n) = 0 := by
  unfold releaseEntry flights
  rw [List.countP_eq_zero]
  dsimp only
  split
  all_goals
    intro x m
    obtain ⟨y, -, rfl⟩ := List.mem_map.1 m
    split
    · simp
    · assumption

/-- Two entries in flight in a queue with at most one are the same. -/
theorem eq_of_flights {q : List NoticeEntry} (h : flights q ≤ 1) {x y : NoticeEntry} (mx : x ∈ q)
    (my : y ∈ q) (fx : x.inFlight = true) (fy : y.inFlight = true) : x = y := by
  unfold flights at h
  rw [List.countP_eq_length_filter] at h
  have ix : x ∈ q.filter (·.inFlight) := List.mem_filter.2 ⟨mx, fx⟩
  have iy : y ∈ q.filter (·.inFlight) := List.mem_filter.2 ⟨my, fy⟩
  match e : q.filter (·.inFlight) with
  | [] => simp [e] at ix
  | [a] =>
    rw [e, List.mem_singleton] at ix iy
    exact ix.trans iy.symm
  | a :: b :: l =>
    rw [e] at h
    simp at h

/-- An entry in flight whose claim is released stays in the queue, with these attempts (R138). -/
theorem mem_releaseEntry {q : List NoticeEntry} {e : NoticeEntry} (n : Nat) (m : e ∈ q)
    (f : e.inFlight = true) : ∃ x ∈ releaseEntry q e n,
      x.kind = e.kind ∧ x.subject = e.subject ∧ x.code = e.code ∧ x.attempts = n := by
  unfold releaseEntry
  dsimp only
  split
  · exact ⟨_, List.mem_map_of_mem m, by simp [f]⟩
  · rename_i fresh _
    have stays : e ∈ q.filter fun x => !waitingAlarm e.code x :=
      List.mem_filter.2 ⟨m, by simp [waitingAlarm, f]⟩
    exact ⟨_, List.mem_map_of_mem stays, by simp [f]⟩

/-- A notice result leaves the alarms, the holdoff and the role (R138). -/
theorem noticeResult_keeps (r : NoticeResult) (s : State) :
    (noticeResult r s).alarms = s.alarms ∧ (noticeResult r s).notices.holdoff = s.notices.holdoff
      ∧ (noticeResult r s).notices.lost = s.notices.lost
      ∧ (noticeResult r s).reporter.mode = s.reporter.mode := by
  unfold noticeResult
  split
  · exact ⟨rfl, rfl, rfl, rfl⟩
  · cases r
    · exact ⟨rfl, rfl, rfl, rfl⟩
    · dsimp only
      split <;> exact ⟨rfl, rfl, rfl, rfl⟩
    · exact ⟨rfl, rfl, rfl, rfl⟩

/-- The result of a frame found bad: lost, or not carried (R13). -/
def badResult (won : Bool) : NoticeResult := if won then .notCarried else .lost

/-- The result of a frame found bad (R13, R138): nothing stays in flight, and the one entry that was
stays in the queue with one attempt more where its claim was won. -/
theorem noticeResult_bad (won : Bool) (s : State) :
    flights (noticeResult (badResult won) s).notices.queue = 0
      ∧ (flights s.notices.queue ≤ 1 → ∀ e ∈ s.notices.queue, e.inFlight = true →
        ∃ x ∈ (noticeResult (badResult won) s).notices.queue,
          x.kind = e.kind ∧ x.subject = e.subject ∧ x.code = e.code
            ∧ x.attempts = if won then satSucc 8 e.attempts else e.attempts) := by
  unfold noticeResult
  split
  · rename_i none
    have no : ∀ e ∈ s.notices.queue, ¬e.inFlight = true := by simpa using none
    exact ⟨List.countP_eq_zero.2 no, fun _ e m f => absurd f (no e m)⟩
  · rename_i e found
    have mem := List.mem_of_find?_eq_some found
    have inFlight : e.inFlight = true := by simpa using List.find?_some found
    cases won with
    | false =>
      refine ⟨releaseEntry_flights _ _ _, fun one e' m f => ?_⟩
      obtain rfl := eq_of_flights one m mem f inFlight
      exact mem_releaseEntry _ m f
    | true =>
      refine ⟨releaseEntry_flights _ _ _, fun one e' m f => ?_⟩
      obtain rfl := eq_of_flights one m mem f inFlight
      exact mem_releaseEntry _ m f

theorem all_not_inFlight {q : List NoticeEntry} (h : flights q = 0) :
    q.all (!·.inFlight) = true := by
  rw [flights, List.countP_eq_zero] at h
  simpa [List.all_eq_true] using h

/-! ### The records -/

theorem takeRecord_length (s : State) (c : AlarmCode) (r : AlarmRecord) :
    (takeRecord s c r).alarms.records.length = s.alarms.records.length := by
  unfold takeRecord
  dsimp only
  split
  · exact setRecord_length ..
  · rw [(handNotice_onlyNotices _ _).records]
    exact setRecord_length ..

theorem recordOf_takeRecord_same (n : s.alarms.records.length = 23) (c : AlarmCode) (r : AlarmRecord) :
    recordOf (takeRecord s c r) c = r := by
  unfold takeRecord
  dsimp only
  split
  · exact recordOf_setRecord_same n c r
  · rw [(handNotice_onlyNotices _ _).recordOf]
    exact recordOf_setRecord_same n c r

theorem foldl_acknowledgeCode_length : ∀ (l : List AlarmCode) (s : State),
    (l.foldl acknowledgeCode s).alarms.records.length = s.alarms.records.length
  | [], _ => rfl
  | c :: l, s => (foldl_acknowledgeCode_length l _).trans (takeRecord_length s c _)

theorem recordOf_foldl_acknowledgeCode_other {c : AlarmCode} : ∀ (l : List AlarmCode) (s : State),
    c ∉ l → recordOf (l.foldl acknowledgeCode s) c = recordOf s c
  | [], _, _ => rfl
  | d :: l, s, h => by
    rw [List.foldl_cons, recordOf_foldl_acknowledgeCode_other l _ fun m => h (List.mem_cons_of_mem _ m)]
    exact recordOf_takeRecord_other s _ fun e => h (e ▸ List.mem_cons_self)

/-- Codes acknowledged one after another, each once: each record takes its own two steps (R122). -/
theorem recordOf_foldl_acknowledgeCode {c : AlarmCode} (l : List AlarmCode) (s : State)
    (n : s.alarms.records.length = 23) (nodup : l.Nodup) (m : c ∈ l) :
    recordOf (l.foldl acknowledgeCode s) c = recordAcknowledged (latching c) (recordOf s c) := by
  induction l generalizing s with
  | nil => exact absurd m List.not_mem_nil
  | cons d l ih =>
    obtain ⟨notMem, nodup⟩ := List.nodup_cons.1 nodup
    rw [List.foldl_cons]
    by_cases e : d = c
    · subst e
      rw [recordOf_foldl_acknowledgeCode_other l _ notMem]
      exact recordOf_takeRecord_same n d _
    · have other : recordOf (acknowledgeCode s d) c = recordOf s c := recordOf_takeRecord_other s _ e
      rw [ih (acknowledgeCode s d) ((takeRecord_length s d _).trans n) nodup
        ((List.mem_cons.1 m).resolve_left fun x => e x.symm), other]

/-- An acknowledgment takes every record through its two steps (R122). -/
theorem acknowledge_records (l : loaded s = true) (n : s.alarms.records.length = 23) :
    (acknowledge s).alarms.records.length = 23
      ∧ ∀ c, recordOf (acknowledge s) c = recordAcknowledged (latching c) (recordOf s c) := by
  have e : (acknowledge s).alarms = (allCodes.foldl acknowledgeCode s).alarms := by
    unfold acknowledge
    rw [if_pos l, (releaseWaiting_onlyPlant s _).alarms, settlePanel_alarms]
  refine ⟨by rw [e, foldl_acknowledgeCode_length, n], fun c => ?_⟩
  unfold recordOf
  rw [e]
  exact recordOf_foldl_acknowledgeCode allCodes s n (by decide) (by cases c <;> decide)

/-- The changes handed on: each record moves by the condition that its code then has, QUEUE_LOSS's last
(R121, log 28). -/
theorem recordOf_handOn (n : s.alarms.records.length = 23) (c : AlarmCode) :
    recordOf (handOn s) c = recordAfter s (rawCondition (handOn s) c) c := by
  have e : handOn s = settlePanel (settleCode (settlePanel (othersMoved s)) .queueLoss) := by
    simp only [handOn, takeChanges, List.filter_true, ← foldl_otherCodes]
    rfl
  have o := othersMoved_onlyAlarms s
  rw [e, recordOf_settlePanel, rawCondition_settlePanel]
  by_cases h : c = .queueLoss
  · subst h
    have q : recordOf (settlePanel (othersMoved s)) .queueLoss = recordOf s .queueLoss := by
      rw [recordOf_settlePanel, ← foldl_otherCodes]
      exact recordOf_foldl_other (otherCodes s) s fun m => (mem_otherCodes s _).1 m rfl
    have len : (settlePanel (othersMoved s)).alarms.records.length = 23 := by
      rw [settlePanel_alarms, ← foldl_otherCodes, foldl_settleCode_length, n]
    rw [recordOf_settleCode_same len, rawCondition_settleCode_queueLoss,
      recordAfter_of_same (o.onlyClosing.trans (settlePanel_onlyClosing _)) q]
  · rw [recordOf_settleCode_other _ fun x => h x.symm, recordOf_settlePanel,
      (settleCode_onlyAlarms _ _).raw h, rawCondition_settlePanel, o.raw h, ← foldl_otherCodes]
    exact recordOf_foldl_same (otherCodes s) s (.refl s) n (otherCodes_nodup s)
      (fun m => (mem_otherCodes s _).1 m rfl) (fun _ _ => rfl) c ((mem_otherCodes s c).2 h)

/-- The closing work: each record moves by the condition that its code then has. -/
theorem recordOf_settle (n : s.alarms.records.length = 23) (c : AlarmCode) :
    recordOf (settle s) c = recordAfter s (rawCondition (settle s) c) c := by
  have k := (serve_onlyPlant s).alarms
  have same : recordOf (serve s) c = recordOf s c := by
    unfold recordOf
    rw [k]
  exact (recordOf_handOn (k ▸ n) c).trans (recordAfter_of_same (serve_onlyClosing s) same _)

end Sys2Proof.Machine
end

section
/-! O22, O24 and O25. Frames found bad or broken off, and the entries to ISOLATED and LINE_FAULT. -/

namespace Sys2Proof.Machine

open Sys2Proof

variable {s t u v x : State}

/-! ### A frame found bad -/

theorem badNotice_bad (s : State) : badNotice s
    = if s.line.drive.any (·.noticeKey.isSome) then noticeResult (badResult s.line.noticeWon) s
      else s := badNotice_eq s

/-- A frame found bad, beside its line: the notice claim's result and nothing else. -/
theorem badFrameEnd_eq (n : Nat) (s : State) :
    badFrameEnd n s = setLine (badNotice s) (badFrameEnd n s).line := rfl

theorem OnlyHouse.pumpSafe (h : OnlyHouse s t) (p : PumpSafe s) : PumpSafe t := by
  rw [h]
  exact p

theorem OnlyHouse.rakeSafe (h : OnlyHouse s t) (r : RakeSafe s) : RakeSafe t := by
  rw [h]
  exact r

theorem badFrameEnd_sameCells (n : Nat) (s : State) :
    SameCells (badNotice s).line (badFrameEnd n s).line := by
  rw [(badNotice_onlyHouse s).line, badFrameEnd_line]
  exact ⟨rfl, .rfl⟩

/-- Settles O22: the line record of a bad frame end, and the claim's result beside it. -/
theorem badFrameCounted : Obligations.BadFrameCounted := by
  intro run s p r inside bad
  have k := badNotice_onlyHouse s
  have cells := badFrameEnd_sameCells (quietAfterRun run) s
  have pe : PumpSafe (badFrameEnd (quietAfterRun run) s) := (k.pumpSafe p).setLine cells
  have re : RakeSafe (badFrameEnd (quietAfterRun run) s) := (k.rakeSafe r).setLine cells
  have can : (s.line.receiver == .inside && badRun run) = true := by
    rcases bad with ⟨one, three⟩ | seven
    · simp [inside, badRun, one, three]
    · simp [inside, badRun, seven]
  have quiet : quietAfterRun run = if run = 7 then 0 else 1 := by
    unfold quietAfterRun
    rcases bad with ⟨one, three⟩ | seven
    · rw [if_pos three, if_neg (by omega)]
    · rw [if_neg (by omega), if_pos seven]
  obtain ⟨t, next, follows⟩ := taken_follows (s := s) (f := badFrameEnd (quietAfterRun run)) can pe re
  have settled : t = settle (badFrameEnd (quietAfterRun run) s) := by
    simpa [taken, can] using next.symm
  have line : t.line = (badFrameEnd (quietAfterRun run) s).line := by rw [settled, settle_line]
  have station : OnlyStation s t :=
    settled ▸ (badFrameEnd_station (quietAfterRun run) s).trans (settle_station _)
  rw [badFrameEnd_eq, ← line] at follows
  refine ⟨t, next, ?_, ?_, ?_, ?_, station.ovf, station.chanA, station.chanB, station.inputs,
    station.time, fun d drive key => ?_, fun none => ?_⟩
  · rw [line, badFrameEnd_line, quiet]
    rfl
  · rw [settled, settle_duty, applyHold_of_safe pe]
    exact k.duty
  · rw [settled, settle_screen, serve_of_safe pe re]
    exact k.screen
  · rw [settled, settle_stager]
    exact k.stager
  · have result : badNotice s = noticeResult (badResult s.line.noticeWon) s := by
      rw [badNotice_bad, if_pos (by simp [drive, Option.isSome_iff_ne_none, key])]
    have released : flights (badFrameEnd (quietAfterRun run) s).notices.queue = 0 := by
      rw [badFrameEnd_eq, setLine_notices, result]
      exact (noticeResult_bad _ s).1
    rw [result] at follows
    refine ⟨all_not_inFlight (Nat.le_zero.1 ?_), follows⟩
    rw [← released, settled]
    exact (settle_queueKept _).1
  · have result : badNotice s = s := by
      rw [badNotice_bad, if_neg]
      cases drive : s.line.drive with
      | none => nofun
      | some d => simp [none d drive]
    rw [result] at follows
    exact follows

end Sys2Proof.Machine
end

section
/-! SUPPORT. What an entry to ISOLATED or LINE_FAULT breaks off: JOINED left, a frame in progress broken,
the pump's wait and the reporter's role ended. -/

namespace Sys2Proof.Machine

open Sys2Proof

variable {s t u v x : State}

/-! ### What keeps the lead -/

theorem leaveFaulted_keepsLead (s : State) : KeepsLead s (leaveFaulted s) := by
  have off : ∀ v : State, KeepsLead v (enterOutOfService v) := fun v =>
    (openContactor_keepsLead v).trans (setPump_keepsLead _ _)
  have hand : ∀ v : State, KeepsLead v (enterHand v) := fun v =>
    .of_ite ⟨rfl, rfl, fun _ => rfl⟩ ((setPump_keepsLead v _).trans (closeInHand_keepsLead _))
  have causes : KeepsLead s (setDuty s { s.duty with causes := [] }) := ⟨rfl, rfl, fun _ => rfl⟩
  unfold leaveFaulted
  dsimp only
  split
  · exact causes.trans (off _)
  · exact causes.trans (hand _)
  · exact causes.trans (.of_ite (off _) (enterLockedOff_keepsLead _))

theorem acknowledge_keepsLead (s : State) : KeepsLead s (acknowledge s) := by
  have unlock : ∀ v : State, KeepsLead v (unlockRake v) := fun _ => .of_same rfl rfl
  unfold acknowledge
  split
  · have k := (OnlyAlarms.foldl acknowledgeCode_onlyAlarms allCodes s).onlyClosing.trans
      (settlePanel_onlyClosing _)
    have d := (settlePanel_duty _).trans (OnlyAlarms.foldl acknowledgeCode_onlyAlarms allCodes s).duty
    unfold releaseWaiting
    exact (KeepsLead.of_same k.stager d).trans
      ((KeepsLead.of_ite (leaveFaulted_keepsLead _) (.refl _)).trans (.of_ite (unlock _) (.refl _)))
  · exact .refl s

theorem withdrawAck_keepsLead (s : State) : KeepsLead s (withdrawAck s) := by
  have clear : KeepsLead s { s with alarms := { s.alarms with ackPress := false, ackTown := false } } :=
    .of_same rfl rfl
  unfold withdrawAck
  exact .of_ite (clear.trans (acknowledge_keepsLead _)) clear

theorem stopAutomatic_keepsLead (s : State) : KeepsLead s (stopAutomatic s) :=
  .of_ite (enterLockedOff_keepsLead s) (.refl s)

theorem fallbackStop_keepsLead (s : State) : KeepsLead s (fallbackStop s) :=
  .of_ite (enterLockedOff_keepsLead s) (.refl s)

/-! ### The pump under the stop hold -/

/-- The stop hold (R62): a pump in STARTING or RUNNING goes to LOCKED_OFF or on to IDLE; any other keeps
its state. -/
theorem applyHold_pump_cases (s : State) :
    ((s.duty.pump = .starting ∨ s.duty.pump = .running)
        ∧ ((applyHold s).duty.pump = .lockedOff ∨ (applyHold s).duty.pump = .idle))
      ∨ (applyHold s).duty.pump = s.duty.pump := by
  unfold applyHold
  split
  · split
    · rename_i run
      exact .inl ⟨by simpa using run, enterLockedOff_pump s⟩
    · exact .inr (openContactor_pump s)
  · right
    unfold closeInHand
    split <;> rfl

/-- The closing work starts no pump and puts none in START_WAIT. -/
theorem settle_pump_ne {p : PumpState} (off : p ≠ .lockedOff) (idle : p ≠ .idle)
    (h : s.duty.pump ≠ p) : (settle s).duty.pump ≠ p := by
  rw [settle_duty]
  rcases applyHold_pump_cases s with ⟨-, e | e⟩ | e <;> rw [e]
  · exact off.symm
  · exact idle.symm
  · exact h

/-! ### JOINED left -/

theorem reporterLeaves_mode (s : State) :
    (reporterLeaves s).reporter.mode ≠ .active ∧ (reporterLeaves s).reporter.mode ≠ .claiming := by
  unfold reporterLeaves
  split
  · exact ⟨nofun, nofun⟩
  · exact ⟨nofun, nofun⟩
  · rename_i h
    exact ⟨by simp [h], by simp [h]⟩
  · rename_i h
    exact ⟨by simp [h], by simp [h]⟩

theorem reporterLeaves_alarms (s : State) : (reporterLeaves s).alarms = s.alarms := by
  unfold reporterLeaves
  split <;> rfl

theorem reporterLeaves_queueKept (s : State) : QueueKept s (reporterLeaves s) := by
  have depart : QueueKept s (departReporter s) :=
    .of_map (f := fun x => { x with forContext := false }) (fun _ => ⟨rfl, rfl, rfl, rfl, rfl⟩) rfl rfl
  unfold reporterLeaves
  split
  · exact depart
  · exact depart
  · exact .of_notices rfl
  · exact .refl s

theorem dutyLeft_duty (s : State) :
    (dutyLeft s).duty.pump ≠ .startWait ∧ (dutyLeft s).duty.holdsLead = false
      ∧ (s.stager.localCall = false → (dutyLeft s).duty.fallbackDelay = s.duty.fallbackDelay) := by
  obtain ⟨stager, -, delay⟩ := withdrawAck_keepsLead s
  unfold dutyLeft
  dsimp only
  split
  · refine ⟨nofun, rfl, fun c => ?_⟩
    rw [← delay c]
    exact (enterIdle_keepsLead _).2.2 (stager ▸ c)
  · rename_i notWaiting
    exact ⟨notWaiting, rfl, delay⟩

/-- JOINED left (R77, R83, R85, R125, R137, R147): the pump waits for no start, the lead and the role are
given up, the holdoff is clear, and the ACK assertions are withdrawn. -/
theorem leaveJoined_spec (s : State) : (leaveJoined s).stager = s.stager
    ∧ (leaveJoined s).duty = (dutyLeft s).duty ∧ (leaveJoined s).alarms = (withdrawAck s).alarms
    ∧ (leaveJoined s).notices.holdoff = false ∧ (leaveJoined s).reporter.mode ≠ .active
    ∧ (leaveJoined s).reporter.mode ≠ .claiming := by
  have k := reporterLeaves_onlyHouse (dutyLeft s)
  have duty := dutyLeft_onlyDuty s
  exact ⟨k.stager.trans ((congrArg (·.stager) duty).trans (withdrawAck_keepsLead s).1), k.duty,
    (reporterLeaves_alarms _).trans duty.onlyPlant.alarms, rfl, (reporterLeaves_mode (dutyLeft s)).1,
    (reporterLeaves_mode (dutyLeft s)).2⟩

theorem withdrawAck_queueKept (s : State) : QueueKept s (withdrawAck s) := by
  have clear : QueueKept s { s with alarms := { s.alarms with ackPress := false, ackTown := false } } :=
    .of_notices rfl
  unfold withdrawAck
  dsimp only
  split
  · exact clear.trans (acknowledge_queueKept _)
  · exact clear

theorem leaveJoined_queueKept (s : State) : QueueKept s (leaveJoined s) :=
  (withdrawAck_queueKept s).trans <| (dutyLeft_onlyDuty s).onlyPlant.queueKept.trans <|
    (reporterLeaves_queueKept _).trans (.of_map (f := id) .refl (by simp; rfl) rfl)

/-- The assertions withdrawn (R125): none waits, and each record is acknowledged where one did. -/
theorem withdrawAck_alarms (s : State) :
    (withdrawAck s).alarms.ackPress = false ∧ (withdrawAck s).alarms.ackTown = false
      ∧ (loaded s = true → s.alarms.records.length = 23 →
        (withdrawAck s).alarms.records.length = 23 ∧ ∀ c, recordOf (withdrawAck s) c =
          if s.alarms.ackPress = true ∨ s.alarms.ackTown = true then
            recordAcknowledged (latching c) (recordOf s c) else recordOf s c) := by
  unfold withdrawAck
  dsimp only
  split
  · rename_i waits
    rw [Bool.or_eq_true] at waits
    have k := acknowledge_onlyClosing
      { s with alarms := { s.alarms with ackPress := false, ackTown := false } }
    refine ⟨k.ackPress, k.ackTown, fun l n => ?_⟩
    obtain ⟨len, records⟩ := acknowledge_records
      (s := { s with alarms := { s.alarms with ackPress := false, ackTown := false } }) l n
    exact ⟨len, fun c => by rw [records, if_pos waits]; rfl⟩
  · rename_i none
    rw [Bool.or_eq_true] at none
    exact ⟨rfl, rfl, fun _ n => ⟨n, fun c => by rw [if_neg none]; rfl⟩⟩

/-! ### A frame broken off -/

theorem badNotice_keeps (s : State) :
    (badNotice s).alarms = s.alarms ∧ (badNotice s).notices.holdoff = s.notices.holdoff
      ∧ (badNotice s).notices.lost = s.notices.lost
      ∧ (badNotice s).reporter.mode = s.reporter.mode := by
  rw [badNotice_bad]
  split
  · exact noticeResult_keeps _ s
  · exact ⟨rfl, rfl, rfl, rfl⟩

/-- A frame broken off leaves the alarms, the holdoff, the loss counter and the role. -/
theorem breakFrame_keeps (s : State) :
    (breakFrame s).alarms = s.alarms ∧ (breakFrame s).notices.holdoff = s.notices.holdoff
      ∧ (breakFrame s).notices.lost = s.notices.lost
      ∧ (breakFrame s).reporter.mode = s.reporter.mode := by
  obtain ⟨-, e⟩ | ⟨-, e⟩ := breakFrame_cases s <;> rw [e]
  · exact badNotice_keeps s
  · exact ⟨rfl, rfl, rfl, rfl⟩

theorem breakFrame_plant (s : State) :
    (breakFrame s).duty = s.duty ∧ (breakFrame s).stager = s.stager := by
  obtain ⟨-, e⟩ | ⟨-, e⟩ := breakFrame_cases s <;> rw [e]
  · exact ⟨(badNotice_onlyHouse s).duty, (badNotice_onlyHouse s).stager⟩
  · exact ⟨rfl, rfl⟩

/-- The queue where a frame is broken off that alone can have an entry in flight (R13, R138). -/
theorem breakFrame_queue (one : flights s.notices.queue ≤ 1)
    (claims : s.notices.queue.any (·.inFlight) = true →
      s.line.receiver = .inside ∧ s.line.drive.any (·.noticeKey.isSome) = true) :
    flights (breakFrame s).notices.queue = 0
      ∧ ∀ e ∈ s.notices.queue, e.inFlight = true → ∃ x ∈ (breakFrame s).notices.queue,
        x.kind = e.kind ∧ x.subject = e.subject ∧ x.code = e.code
          ∧ x.attempts = if s.line.noticeWon then satSucc 8 e.attempts else e.attempts := by
  by_cases any : s.notices.queue.any (·.inFlight) = true
  · obtain ⟨inside, drive⟩ := claims any
    have e : (breakFrame s).notices = (noticeResult (badResult s.line.noticeWon) s).notices := by
      unfold breakFrame
      rw [if_pos inside, badFrameEnd_eq, setLine_notices, badNotice_bad, if_pos drive]
    obtain ⟨none, stays⟩ := noticeResult_bad s.line.noticeWon s
    rw [e]
    exact ⟨none, stays one⟩
  · have no : ∀ e ∈ s.notices.queue, ¬e.inFlight = true := by simpa using any
    have zero : flights s.notices.queue = 0 := List.countP_eq_zero.2 no
    refine ⟨?_, fun e m f => absurd f (no e m)⟩
    obtain ⟨-, e⟩ | ⟨-, e⟩ := breakFrame_cases s <;> rw [e]
    · rw [badFrameEnd_eq, setLine_notices, badNotice_bad]
      split
      · exact (noticeResult_bad _ s).1
      · exact zero
    · exact zero

/-! ### An entry to ISOLATED or LINE_FAULT -/

/-- `v` is on the way from `s` to ISOLATED or LINE_FAULT: JOINED has been left, and a frame in progress
is still to be broken off. -/
structure Leaving (s v : State) : Prop where
  station : OnlyStation s v
  alarms : v.alarms = (leaveIfJoined s).alarms
  notices : v.notices = (leaveIfJoined s).notices
  outside : v.line.mode ≠ .joined
  receiver : v.line.receiver = s.line.receiver
  drive : v.line.drive = s.line.drive
  noticeWon : v.line.noticeWon = s.line.noticeWon
  prevGood : v.line.prevGood = s.line.prevGood
  badFrames : v.line.badFrames = s.line.badFrames
  peers : v.line.peers = s.line.peers

/-- `x` is `v` with a frame in progress broken off, as far as `BrokenOff` speaks of it. -/
structure Broken (v x : State) : Prop where
  station : OnlyStation v x
  alarms : x.alarms = (breakFrame v).alarms
  notices : x.notices = (breakFrame v).notices
  receiver : v.line.receiver = .inside → x.line.receiver = .searching
  prevGood : x.line.prevGood = (breakFrame v).line.prevGood
  badFrames : x.line.badFrames = (breakFrame v).line.badFrames
  peers : x.line.peers = (breakFrame v).line.peers

theorem leaveIfJoined_of_joined (m : s.line.mode = .joined) : leaveIfJoined s = leaveJoined s :=
  if_pos m

theorem leaveIfJoined_of_outside (m : s.line.mode ≠ .joined) : leaveIfJoined s = s := if_neg m

theorem leaveIfJoined_queueKept (s : State) : QueueKept s (leaveIfJoined s) := by
  unfold leaveIfJoined
  split
  · exact leaveJoined_queueKept s
  · exact .refl s

/-- The records once JOINED has been left: acknowledged where an assertion was withdrawn (R125). -/
theorem leaveIfJoined_records (l : loaded s = true) (n : s.alarms.records.length = 23) :
    (leaveIfJoined s).alarms.records.length = 23 ∧ ∀ c, recordOf (leaveIfJoined s) c =
      if s.line.mode = .joined ∧ (s.alarms.ackPress = true ∨ s.alarms.ackTown = true) then
        recordAcknowledged (latching c) (recordOf s c) else recordOf s c := by
  by_cases m : s.line.mode = .joined
  · obtain ⟨-, -, alarms, -⟩ := leaveJoined_spec s
    obtain ⟨-, -, records⟩ := withdrawAck_alarms s
    obtain ⟨len, records⟩ := records l n
    rw [leaveIfJoined_of_joined m]
    refine ⟨alarms ▸ len, fun c => ?_⟩
    rw [show recordOf (leaveJoined s) c = recordOf (withdrawAck s) c by unfold recordOf; rw [alarms],
      records]
    simp [m]
  · rw [leaveIfJoined_of_outside m]
    exact ⟨n, fun c => by simp [m]⟩

theorem flights_pos_iff (q : List NoticeEntry) : 0 < flights q ↔ q.any (·.inFlight) = true := by
  simp [flights, List.countP_pos_iff]

/-- The queue of an entry to ISOLATED or LINE_FAULT: nothing in flight, and without a loss the entry that
was in flight still there, with its claim's result (R13, R138). -/
theorem Leaving.queue (safe : LineSafe s) (h : Leaving s v) (k : Broken v x) (q : QueueSafe s) :
    (settle x).notices.queue.all (!·.inFlight) = true
    ∧ (s.notices.lost < 255 → (settle x).notices.lost = s.notices.lost →
      ∀ e ∈ s.notices.queue, e.inFlight = true → ∃ y ∈ (settle x).notices.queue,
        y.kind = e.kind ∧ y.subject = e.subject ∧ y.code = e.code
        ∧ y.attempts = if s.line.noticeWon then e.attempts + 1 else e.attempts) := by
  obtain ⟨-, -, entries, one, claims, -⟩ := q
  obtain ⟨-, -, -, -, inside, -⟩ := safe
  obtain ⟨fewer, lostLeft, staysLeft⟩ : QueueKept s v :=
    (leaveIfJoined_queueKept s).trans (.of_notices h.notices)
  obtain ⟨none, lostClosed, staysClosed⟩ : QueueKept (breakFrame v) (settle x) :=
    (QueueKept.of_notices k.notices).trans (settle_queueKept x)
  obtain ⟨-, -, lostBroken, -⟩ := breakFrame_keeps v
  rw [← List.countP_eq_length_filter] at one
  obtain ⟨zero, result⟩ := breakFrame_queue (s := v) (fewer.trans one) fun any => by
    have drive := claims ((flights_pos_iff _).1 (((flights_pos_iff _).2 any).trans_le fewer))
    rw [h.receiver, h.drive]
    exact ⟨inside fun n => by simp [n] at drive, drive⟩
  rw [h.noticeWon] at result
  refine ⟨all_not_inFlight (by omega), fun below same e m f => ?_⟩
  have left := lostLeft (by omega)
  have closed := lostClosed (by omega)
  obtain ⟨y, my, kindY, subjectY, codeY, attemptsY, inFlightY⟩ := staysLeft below (by omega) e m
  obtain ⟨z, mz, kindZ, subjectZ, codeZ, attemptsZ⟩ := result y my (inFlightY.trans f)
  obtain ⟨w, mw, kindW, subjectW, codeW, attemptsW, -⟩ := staysClosed (by omega) (by omega) z mz
  refine ⟨w, mw, kindW.trans (kindZ.trans kindY), subjectW.trans (subjectZ.trans subjectY),
    codeW.trans (codeZ.trans codeY), attemptsW.trans (attemptsZ.trans ?_)⟩
  obtain ⟨-, seven, -⟩ := entries e m
  have spent := seven f
  rw [attemptsY]
  unfold satSucc
  split <;> omega

/-- The records of an entry to ISOLATED or LINE_FAULT: acknowledged where an assertion was withdrawn,
and then moved by the condition of that moment (R121, R125, log 20, log 51). -/
theorem Leaving.records (h : Leaving s v) (k : Broken v x) (a : AlarmSafe s) (l : loaded s = true)
    (c : AlarmCode) (r : AlarmRecord)
    (e : r = if s.line.mode = .joined ∧ (s.alarms.ackPress = true ∨ s.alarms.ackTown = true) then
      recordAcknowledged (latching c) (recordOf s c) else recordOf s c) :
    recordOf (settle x) c = if rawCondition (settle x) c = r.raw then r
      else recordRaw (latching c) (minuteCount s) (rawCondition (settle x) c) r := by
  obtain ⟨len, records⟩ := leaveIfJoined_records l a.1
  have alarms : x.alarms = (leaveIfJoined s).alarms :=
    k.alarms.trans ((breakFrame_keeps v).1.trans h.alarms)
  have station := h.station.trans k.station
  have record : recordOf x c = r := by
    rw [e, ← records c]
    unfold recordOf
    rw [alarms]
  have minute : minuteCount x = minuteCount s := by
    unfold minuteCount
    rw [station.time]
  rw [recordOf_settle (alarms ▸ len), recordAfter, record, station.loaded, l, if_pos rfl, minute]

/-- What an entry to ISOLATED or LINE_FAULT ends beside the line state. -/
theorem Leaving.brokenOff (safe : LineSafe s) (h : Leaving s v) (k : Broken v x) :
    BrokenOff s (settle x) := by
  obtain ⟨alarms, holdoff, -⟩ := breakFrame_keeps v
  have broken := breakFrame_line h.outside
  rw [h.station.own] at broken
  refine ⟨fun m => ?_, fun m => ?_, fun a l c r e => h.records k a l c r e, fun inside => ?_,
    fun outside => ?_, h.queue safe k⟩
  · obtain ⟨-, -, left, clear, -⟩ := leaveJoined_spec s
    obtain ⟨press, town, -⟩ := withdrawAck_alarms s
    rw [settle_ackPress, settle_ackTown, settle_holdoff, k.alarms, k.notices, alarms, holdoff, h.alarms,
      h.notices, leaveIfJoined_of_joined m, left]
    exact ⟨press, town, clear⟩
  · rw [settle_ackPress, settle_ackTown, settle_holdoff, k.alarms, k.notices, alarms, holdoff, h.alarms,
      h.notices, leaveIfJoined_of_outside m]
    exact ⟨rfl, rfl, rfl⟩
  · have inside' : v.line.receiver = .inside := h.receiver.trans inside
    rw [settle_line, k.receiver inside', k.prevGood, k.badFrames, k.peers, broken, brokenLine,
      if_pos inside', ← h.badFrames, ← h.peers]
    exact ⟨rfl, rfl, rfl, rfl⟩
  · have outside' : ¬v.line.receiver = .inside := h.receiver ▸ outside
    rw [settle_line, k.prevGood, k.badFrames, k.peers, broken, brokenLine, if_neg outside', h.prevGood,
      h.badFrames, h.peers]
    exact ⟨rfl, rfl, rfl⟩

end Sys2Proof.Machine
end

section
/-! O24 and O25. The entries to ISOLATED and LINE_FAULT, and a stuck line. -/

namespace Sys2Proof.Machine

open Sys2Proof

variable {s t : State}

/-! ### JOINED left or not -/

/-- Once JOINED has been left, or outside it: the demand as it was, no lead, no wait for a start, no
role, and no fallback delay where none ran. -/
theorem leaveIfJoined_spec (safe : LineSafe s) (role : ReporterSafe s) :
    (leaveIfJoined s).stager = s.stager ∧ (leaveIfJoined s).duty.holdsLead = false
      ∧ (leaveIfJoined s).duty.pump ≠ .startWait ∧ (leaveIfJoined s).reporter.mode ≠ .active
      ∧ (leaveIfJoined s).reporter.mode ≠ .claiming
      ∧ (s.line.mode ≠ .lineFault → s.stager.localCall = false
        ∧ (leaveIfJoined s).duty.fallbackDelay = .stopped) := by
  have off : s.line.mode ≠ .lineFault →
      s.stager.localCall = false ∧ s.duty.fallbackDelay = .stopped := fun m => by
    obtain ⟨-, -, call, -⟩ := safe
    exact ⟨Bool.eq_false_iff.2 fun e => m (call (.inl e)),
      Classical.byContradiction fun e => m (call (.inr e))⟩
  by_cases m : s.line.mode = .joined
  · obtain ⟨stager, duty, -, -, active, claiming⟩ := leaveJoined_spec s
    obtain ⟨wait, lead, delay⟩ := dutyLeft_duty s
    rw [leaveIfJoined_of_joined m, duty]
    exact ⟨stager, lead, wait, active, claiming, fun f =>
      ⟨(off f).1, (delay (off f).1).trans (off f).2⟩⟩
  · obtain ⟨-, -, -, -, lead, wait⟩ := safe.outside m
    obtain ⟨-, joined, -⟩ := role
    rw [leaveIfJoined_of_outside m]
    exact ⟨rfl, lead, wait, fun e => m (joined (.inl e)), fun e => m (joined (.inr e)), off⟩

theorem leftLine_keeps (l : Line) : (leftLine l).receiver = l.receiver ∧ (leftLine l).drive = l.drive
    ∧ (leftLine l).noticeWon = l.noticeWon ∧ (leftLine l).prevGood = l.prevGood
    ∧ (leftLine l).badFrames = l.badFrames ∧ (leftLine l).peers = l.peers
    ∧ (leftLine l).stuck = l.stuck := by
  unfold leftLine
  split <;> exact ⟨rfl, rfl, rfl, rfl, rfl, rfl, rfl⟩

/-- The station alone no longer, once JOINED has been left or outside it (R25). -/
theorem leftLine_alone (safe : LineSafe s) : (leftLine s.line).alone = false := by
  unfold leftLine
  split
  · rfl
  · rename_i m
    exact (safe.outside m).2.2.1

/-- Of the line a frame broken off leaves the line state, the attempt, the ALONE condition and the
stuck count. -/
theorem brokenLine_keeps (own : Nat) (l : Line) : (brokenLine own l).mode = l.mode
    ∧ (brokenLine own l).due = l.due ∧ (brokenLine own l).syncDriving = l.syncDriving
    ∧ (brokenLine own l).alone = l.alone ∧ (brokenLine own l).stuck = l.stuck
    ∧ (l.receiver ≠ .inside → (brokenLine own l).receiver = l.receiver) := by
  unfold brokenLine
  split
  · exact ⟨rfl, rfl, rfl, rfl, rfl, fun n => absurd ‹_› n⟩
  · exact ⟨rfl, rfl, rfl, rfl, rfl, fun _ => rfl⟩

/-- A driver that is not driving stays as it is where a frame is broken off. -/
theorem brokenLine_driver {own : Nat} {l : Line} (h : l.driver ≠ .driving) :
    (brokenLine own l).driver = l.driver := by
  unfold brokenLine
  split
  · cases e : l.driver <;> simp_all [releasedDriver]
  · rfl

/-- No drive of a frame is left where one in progress has been broken off. -/
theorem brokenLine_drive {own : Nat} {l : Line} (h : l.drive ≠ none → l.receiver = .inside) :
    (brokenLine own l).drive = none := by
  unfold brokenLine
  split
  · rfl
  · rename_i out
    exact Classical.byContradiction fun n => out (h n)

/-! ### ISOLATED -/

/-- The state in which an entry to ISOLATED breaks off a frame in progress. -/
def isolating (s : State) : State :=
  let u := leaveIfJoined s
  let w := if u.line.mode = .lineFault then endLocalCall u else u
  setLine w { w.line with mode := .isolated, driver := .cut, due := false, syncDriving := false }

theorem enterIsolated_eq (s : State) : enterIsolated s = stopAutomatic (breakFrame (isolating s)) := rfl

theorem isolating_leaving (s : State) : Leaving s (isolating s) := by
  have call : OnlyPlant (leaveIfJoined s) (if (leaveIfJoined s).line.mode = .lineFault then
      endLocalCall (leaveIfJoined s) else leaveIfJoined s) :=
    .of_ite (endLocalCall_onlyPlant _) (.refl _)
  have line := call.line.trans (leaveIfJoined_line s)
  obtain ⟨receiver, drive, won, good, bad, peers, -⟩ := leftLine_keeps s.line
  rw [← line] at receiver drive won good bad peers
  exact ⟨(leaveIfJoined_station s).trans (call.station.trans (setLine_station _ _)), call.alarms,
    call.notices, nofun, receiver, drive, won, good, bad, peers⟩

theorem isolating_broken (s : State) : Broken (isolating s) (enterIsolated s) := by
  have k := (stopAutomatic_onlyDuty (breakFrame (isolating s))).onlyPlant
  rw [← enterIsolated_eq] at k
  refine ⟨(breakFrame_station _).trans k.station, k.alarms, k.notices, fun inside => ?_, ?_, ?_, ?_⟩
  · rw [k.line, breakFrame_line (isolating_leaving s).outside, brokenLine, if_pos inside]
  all_goals rw [k.line]

/-- The duty and the role after an entry to ISOLATED (R57, R85, R86, R147, log 31). -/
theorem enterIsolated_spec (safe : LineSafe s) (role : ReporterSafe s) :
    ((enterIsolated s).duty.pump ≠ .starting ∧ (enterIsolated s).duty.pump ≠ .running
      ∧ (enterIsolated s).duty.pump ≠ .startWait)
    ∧ (enterIsolated s).duty.holdsLead = false ∧ (enterIsolated s).stager.localCall = false
    ∧ (enterIsolated s).duty.fallbackDelay = .stopped
    ∧ (enterIsolated s).reporter.mode ≠ .active ∧ (enterIsolated s).reporter.mode ≠ .claiming := by
  obtain ⟨stager, lead, wait, active, claiming, delay⟩ := leaveIfJoined_spec safe role
  have before : (isolating s).duty.holdsLead = false ∧ (isolating s).duty.pump ≠ .startWait
      ∧ (isolating s).stager.localCall = false ∧ (isolating s).duty.fallbackDelay = .stopped
      ∧ (isolating s).reporter = (leaveIfJoined s).reporter := by
    have mode : (leaveIfJoined s).line.mode = s.line.mode := by
      rw [leaveIfJoined_line, leftLine]
      split <;> rfl
    unfold isolating
    dsimp only
    rw [mode]
    split
    · exact ⟨lead, wait, rfl, rfl, rfl⟩
    · rename_i m
      exact ⟨lead, wait, stager ▸ (delay m).1, (delay m).2, rfl⟩
  obtain ⟨lead, wait, call, delay, reporter⟩ := before
  obtain ⟨duty, stager⟩ := breakFrame_plant (isolating s)
  obtain ⟨-, -, -, mode⟩ := breakFrame_keeps (isolating s)
  obtain ⟨stopStager, stopLead, stopDelay⟩ := stopAutomatic_keepsLead (breakFrame (isolating s))
  rw [← enterIsolated_eq, duty] at stopLead
  rw [← enterIsolated_eq, duty, stager] at stopDelay
  rw [← enterIsolated_eq, stager] at stopStager
  have reporterMode : (enterIsolated s).reporter.mode = (leaveIfJoined s).reporter.mode := by
    rw [enterIsolated_eq, (stopAutomatic_onlyDuty _).onlyPlant.reporter, mode, reporter]
  refine ⟨?_, stopLead.trans lead, (congrArg (·.localCall) stopStager).trans call,
    (stopDelay call).trans delay, reporterMode ▸ active, reporterMode ▸ claiming⟩
  rw [enterIsolated_eq]
  obtain ⟨-, e⟩ | ⟨run, e⟩ := stopAutomatic_cases (breakFrame (isolating s)) <;> rw [e]
  · rcases enterLockedOff_pump (breakFrame (isolating s)) with p | p <;> simp [p]
  · rw [not_or] at run
    exact ⟨run.1, run.2, duty ▸ wait⟩

/-- The line record after an entry to ISOLATED (R22, log 17). -/
theorem enterIsolated_line_spec (safe : LineSafe s) (l : Line) (e : l = (enterIsolated s).line) :
    l.mode = .isolated ∧ l.driver = .cut ∧ l.due = false ∧ l.syncDriving = false ∧ l.drive = none
      ∧ l.alone = false ∧ (s.line.receiver ≠ .inside → l.receiver = s.line.receiver)
      ∧ l.stuck = s.line.stuck := by
  obtain ⟨leftReceiver, leftDrive, -, -, -, -, leftStuck⟩ := leftLine_keeps s.line
  have inside : (leftLine s.line).drive ≠ none → (leftLine s.line).receiver = .inside := by
    rw [leftReceiver, leftDrive]
    obtain ⟨-, -, -, -, inside, -⟩ := safe
    exact inside
  rw [enterIsolated_line] at e
  subst e
  obtain ⟨mode, due, sync, alone, stuck, receiver⟩ := brokenLine_keeps (ownAddress s)
    { leftLine s.line with mode := .isolated, driver := .cut, due := false, syncDriving := false }
  exact ⟨mode, brokenLine_driver nofun, due, sync, brokenLine_drive inside,
    alone.trans (leftLine_alone safe),
    fun out => (receiver (leftReceiver ▸ out)).trans leftReceiver, stuck.trans leftStuck⟩

/-- What O24 has of an entry to ISOLATED, once the closing work is done. -/
theorem isolates_of_enterIsolated (safe : LineSafe s) (role : ReporterSafe s) :
    ∀ t, t = settle (enterIsolated s) → t.line.mode = .isolated ∧ t.line.driver = .cut
      ∧ t.line.due = false ∧ t.line.syncDriving = false ∧ t.line.drive = none ∧ t.line.alone = false
      ∧ t.duty.pump ≠ .starting ∧ t.duty.pump ≠ .running ∧ t.duty.pump ≠ .startWait
      ∧ t.duty.holdsLead = false ∧ t.stager.localCall = false ∧ t.duty.fallbackDelay = .stopped
      ∧ t.reporter.mode ≠ .active ∧ t.reporter.mode ≠ .claiming
      ∧ BrokenOff s t ∧ (s.line.receiver ≠ .inside → t.line.receiver = s.line.receiver)
      ∧ t.line.stuck = s.line.stuck
      ∧ t.time = s.time ∧ t.inputs = s.inputs ∧ t.cfg = s.cfg ∧ t.ovf = s.ovf ∧ t.gate = s.gate
      ∧ t.chanA = s.chanA ∧ t.chanB = s.chanB := by
  intro t e
  obtain ⟨⟨starting, running, wait⟩, lead, call, delay, active, claiming⟩ := enterIsolated_spec safe role
  obtain ⟨mode, driver, due, sync, drive, alone, receiver, stuck⟩ :=
    enterIsolated_line_spec safe t.line (e ▸ settle_line _)
  obtain ⟨stager, leadKept, delayKept⟩ : KeepsLead (enterIsolated s) t := e ▸ settle_keepsLead _
  have station : OnlyStation s t := (enterIsolated_station s).trans (e ▸ settle_station _)
  have reporter : t.reporter.mode = (enterIsolated s).reporter.mode := by rw [e, settle_reporter]
  have pump : ∀ p, p ≠ .lockedOff → p ≠ .idle → (enterIsolated s).duty.pump ≠ p → t.duty.pump ≠ p :=
    fun _ off idle h => e ▸ settle_pump_ne off idle h
  exact ⟨mode, driver, due, sync, drive, alone, pump _ nofun nofun starting, pump _ nofun nofun running,
    pump _ nofun nofun wait, leadKept.trans lead, (congrArg (·.localCall) stager).trans call,
    (delayKept call).trans delay, fun h => active (reporter.symm.trans h),
    fun h => claiming (reporter.symm.trans h),
    e ▸ (isolating_leaving s).brokenOff safe (isolating_broken s), receiver, stuck,
    station.time, station.inputs, station.cfg, station.ovf, station.gate, station.chanA, station.chanB⟩

/-- Settles O24: both ways lead through the same entry to ISOLATED. -/
theorem isolates : Obligations.Isolates := by
  rintro c s safe role (⟨rfl, listen, count⟩ | ⟨n, rfl, cells, captured, notIsolated⟩)
  · refine ⟨settle (enterIsolated s), ?_, isolates_of_enterIsolated safe role _ rfl⟩
    unfold exec execOwnAddressIsolate
    exact taken_of_can _ _ (by simp [listen, count])
  · refine ⟨settle (enterIsolated (setLine s { s.line with jabber := n })), ?_,
      isolates_of_enterIsolated (s := setLine s { s.line with jabber := n }) safe role _ rfl⟩
    unfold exec execJabberTrip
    exact taken_of_can _ _ (by simp [captured, notIsolated, cells])

end Sys2Proof.Machine
end

section
/-! O25. The entries to LINE_FAULT, and a stuck line. -/

namespace Sys2Proof.Machine

open Sys2Proof

variable {s t : State}

/-! ### The local demand -/

/-- The local values re-formed in LINE_FAULT (R52, R56, R57): D_pre and D_eff from the own floats, the
call re-taken; no lead is taken and no pump begins to wait. -/
theorem reformLocal_spec (m : s.line.mode = .lineFault) (l : loaded s = true) :
    (reformLocal s).stager = { s.stager with
        prevDEff := s.stager.dEff, dEff := localDEff s, dPre := localDPre s
        localCall := decide (ownAddress s + 1 ≤ localDEff s) }
      ∧ (reformLocal s).duty.holdsLead = s.duty.holdsLead
      ∧ (s.duty.pump ≠ .startWait → (reformLocal s).duty.pump ≠ .startWait) := by
  have stop : ∀ v : State, v.duty.pump ≠ .startWait → (fallbackStop v).duty.pump ≠ .startWait := by
    intro v wait
    unfold fallbackStop
    split
    · rcases enterLockedOff_pump v with p | p <;> simp [p]
    · exact wait
  unfold reformLocal
  simp only [m, l, beq_self_eq_true, Bool.and_self, if_true]
  obtain ⟨stager, lead, -⟩ := fallbackStop_keepsLead (setStager
    (setDuty s { s.duty with
      fallbackDelay := delayAtCall s (decide (ownAddress s + 1 ≤ localDEff s)) })
    { s.stager with
      prevDEff := s.stager.dEff, dEff := localDEff s, dPre := localDPre s
      localCall := decide (ownAddress s + 1 ≤ localDEff s) })
  exact ⟨stager, lead, fun wait => stop _ wait⟩

/-- The local demand in the words of O25: no demand with ALL_STOP or LOW_FLOAT active, else D_pre. -/
theorem localDEff_eq (s : State) : localDEff s =
    if isActive s .allStop then 0 else if isActive s .lowFloat then 0 else localDPre s := by
  unfold localDEff
  cases isActive s .allStop <;> simp

/-- Two states alike in the station and the demand form the same local demand. -/
theorem OnlyStation.localDemand (k : OnlyStation s t) (g : t.stager = s.stager) :
    localDPre t = localDPre s ∧ localDEff t = localDEff s := by
  have pre : localDPre t = localDPre s := by
    unfold localDPre
    rw [k.isActive, k.cfg, g]
  refine ⟨pre, ?_⟩
  rw [localDEff_eq, localDEff_eq, pre, k.isActive, k.isActive]

/-! ### The entry to LINE_FAULT -/

/-- The state in which an entry to LINE_FAULT breaks off a frame in progress. -/
def faulting (s : State) : State :=
  setLine (leaveIfJoined s) { (leaveIfJoined s).line with
    mode := .lineFault, driver := .released, due := false, syncDriving := false }

/-- The state in which an entry to LINE_FAULT forms the local demand. -/
def faultBroken (s : State) : State :=
  setLine (breakFrame (faulting s)) { (breakFrame (faulting s)).line with
    goodRun := 0, faultGood := 0, quiet := 0 }

theorem enterLineFault_eq (s : State) : enterLineFault s = reformLocal (faultBroken s) := rfl

theorem faulting_leaving (s : State) : Leaving s (faulting s) := by
  obtain ⟨receiver, drive, won, good, bad, peers, -⟩ := leftLine_keeps s.line
  rw [← leaveIfJoined_line] at receiver drive won good bad peers
  exact ⟨(leaveIfJoined_station s).trans (setLine_station _ _), rfl, rfl, nofun, receiver, drive, won,
    good, bad, peers⟩

theorem faulting_broken (s : State) : Broken (faulting s) (enterLineFault s) := by
  have k := reformLocal_onlyPlant (faultBroken s)
  rw [← enterLineFault_eq] at k
  refine ⟨(breakFrame_station _).trans ((setLine_station _ _).trans k.station), k.alarms, k.notices,
    fun inside => ?_, ?_, ?_, ?_⟩
  · rw [k.line, faultBroken, setLine_line, breakFrame_line (faulting_leaving s).outside, brokenLine,
      if_pos inside]
  all_goals rw [k.line, faultBroken, setLine_line]

/-- The demand, the duty and the role after an entry to LINE_FAULT (R56, R57, R77, R83, R147). -/
theorem enterLineFault_spec (safe : LineSafe s) (role : ReporterSafe s) (l : loaded s = true) :
    (enterLineFault s).stager = { s.stager with
        prevDEff := s.stager.dEff, dEff := localDEff s, dPre := localDPre s
        localCall := decide (ownAddress s + 1 ≤ localDEff s) }
      ∧ (enterLineFault s).duty.pump ≠ .startWait ∧ (enterLineFault s).duty.holdsLead = false
      ∧ (enterLineFault s).reporter.mode ≠ .active
      ∧ (enterLineFault s).reporter.mode ≠ .claiming := by
  obtain ⟨stager, lead, wait, active, claiming, -⟩ := leaveIfJoined_spec safe role
  obtain ⟨duty, brokenStager⟩ := breakFrame_plant (faulting s)
  obtain ⟨-, -, -, mode⟩ := breakFrame_keeps (faulting s)
  have station : OnlyStation s (faultBroken s) := (faulting_leaving s).station.trans
    ((breakFrame_station _).trans (setLine_station _ _))
  have stager : (faultBroken s).stager = s.stager := brokenStager.trans stager
  have duty : (faultBroken s).duty = (leaveIfJoined s).duty := duty
  have reporter : (enterLineFault s).reporter.mode = (leaveIfJoined s).reporter.mode := by
    rw [enterLineFault_eq, (reformLocal_onlyPlant _).reporter]
    exact mode
  have inFault : (faultBroken s).line.mode = .lineFault := by
    rw [faultBroken, setLine_line, breakFrame_line (faulting_leaving s).outside]
    exact (brokenLine_keeps _ _).1
  obtain ⟨formed, sameLead, stillNoWait⟩ := reformLocal_spec inFault (station.loaded.trans l)
  obtain ⟨pre, eff⟩ := station.localDemand stager
  rw [stager, pre, eff, station.own, ← enterLineFault_eq] at formed
  rw [duty, ← enterLineFault_eq] at sameLead
  rw [duty, ← enterLineFault_eq] at stillNoWait
  exact ⟨formed, stillNoWait wait, sameLead.trans lead, fun e => active (reporter.symm.trans e),
    fun e => claiming (reporter.symm.trans e)⟩

/-- The line record after an entry to LINE_FAULT (R20, R21, log 17). -/
theorem enterLineFault_line_spec (safe : LineSafe s) (l : Line) (e : l = (enterLineFault s).line) :
    (l.mode = .lineFault ∧ l.driver = .released ∧ l.due = false ∧ l.syncDriving = false
        ∧ l.drive = none ∧ l.goodRun = 0 ∧ l.faultGood = 0 ∧ l.quiet = 0 ∧ l.alone = false)
      ∧ (s.line.receiver ≠ .inside → l.receiver = s.line.receiver) ∧ l.stuck = s.line.stuck := by
  obtain ⟨leftReceiver, leftDrive, -, -, -, -, leftStuck⟩ := leftLine_keeps s.line
  have inside : (leftLine s.line).drive ≠ none → (leftLine s.line).receiver = .inside := by
    rw [leftReceiver, leftDrive]
    obtain ⟨-, -, -, -, inside, -⟩ := safe
    exact inside
  rw [enterLineFault_line] at e
  subst e
  obtain ⟨mode, due, sync, alone, stuck, receiver⟩ := brokenLine_keeps (ownAddress s)
    { leftLine s.line with
      mode := .lineFault, driver := .released, due := false, syncDriving := false }
  exact ⟨⟨mode, brokenLine_driver nofun, due, sync, brokenLine_drive inside, rfl, rfl, rfl,
    alone.trans (leftLine_alone safe)⟩,
    fun out => (receiver (leftReceiver ▸ out)).trans leftReceiver, stuck.trans leftStuck⟩

/-- What O25 has of an entry to LINE_FAULT that ends with the line record `l`, once the closing work is
done: the demand, the duty, the role, and what is broken off. -/
theorem settle_enterLineFault (safe : LineSafe s) (role : ReporterSafe s) (lo : loaded s = true)
    (l : Line) (broken : Broken (faulting s) (setLine (enterLineFault s) l)) :
    ∀ t, t = settle (setLine (enterLineFault s) l) → t.line = l
      ∧ (t.stager.dPre = (if isActive s .highFloat then max s.stager.d s.cfg.highFloatStage
            else s.stager.d)
        ∧ t.stager.dEff = (if isActive s .allStop then 0 else if isActive s .lowFloat then 0
            else t.stager.dPre)
        ∧ t.stager.prevDEff = s.stager.dEff ∧ t.stager.d = s.stager.d
        ∧ t.stager.dLine = s.stager.dLine
        ∧ t.stager.localCall = decide (ownAddress s + 1 ≤ t.stager.dEff))
      ∧ (t.duty.pump ≠ .startWait ∧ t.duty.holdsLead = false)
      ∧ (t.reporter.mode ≠ .active ∧ t.reporter.mode ≠ .claiming)
      ∧ BrokenOff s t ∧ OnlyStation s t := by
  intro t e
  obtain ⟨formed, wait, lead, active, claiming⟩ := enterLineFault_spec safe role lo
  have line : t.line = l := e ▸ settle_line _
  have stager : t.stager = (enterLineFault s).stager := e ▸ settle_stager _
  have reporter : t.reporter.mode = (enterLineFault s).reporter.mode := by
    rw [e, settle_reporter, setLine_reporter]
  have holdsLead : t.duty.holdsLead = (enterLineFault s).duty.holdsLead :=
    e ▸ (settle_keepsLead (setLine (enterLineFault s) l)).2.1
  have station : OnlyStation s t := (enterLineFault_station s).trans
    ((setLine_station _ l).trans (e ▸ settle_station _))
  have pump : t.duty.pump ≠ .startWait :=
    e ▸ settle_pump_ne (s := setLine (enterLineFault s) l) nofun nofun wait
  rw [stager, formed]
  exact ⟨line, ⟨rfl, localDEff_eq s, rfl, rfl, rfl, rfl⟩, ⟨pump, holdsLead.trans lead⟩,
    ⟨fun h => active (reporter.symm.trans h), fun h => claiming (reporter.symm.trans h)⟩,
    e ▸ (faulting_leaving s).brokenOff safe broken, station⟩

/-! ### The commands -/

/-- What O25 has of a station that enters LINE_FAULT, the stuck condition aside. -/
def Faulted (s t : State) : Prop :=
  t.line.mode = .lineFault ∧ t.line.driver = .released ∧ t.line.due = false
    ∧ t.line.syncDriving = false ∧ t.line.drive = none ∧ t.line.goodRun = 0
    ∧ t.line.faultGood = 0 ∧ t.line.quiet = 0 ∧ t.line.alone = false
    ∧ t.stager.dPre = (if isActive s .highFloat then max s.stager.d s.cfg.highFloatStage
        else s.stager.d)
    ∧ t.stager.dEff = (if isActive s .allStop then 0 else if isActive s .lowFloat then 0
        else t.stager.dPre)
    ∧ t.stager.prevDEff = s.stager.dEff ∧ t.stager.d = s.stager.d
    ∧ t.stager.dLine = s.stager.dLine
    ∧ t.stager.localCall = decide (ownAddress s + 1 ≤ t.stager.dEff)
    ∧ t.duty.pump ≠ .startWait ∧ t.duty.holdsLead = false
    ∧ t.reporter.mode ≠ .active ∧ t.reporter.mode ≠ .claiming
    ∧ BrokenOff s t

/-- An entry to LINE_FAULT that leaves the line record as it makes it. -/
theorem enterLineFault_faulted (safe : LineSafe s) (role : ReporterSafe s) (lo : loaded s = true) :
    ∀ t, t = settle (enterLineFault s) → Faulted s t ∧ t.line.stuck = s.line.stuck
      ∧ (s.line.receiver ≠ .inside → t.line.receiver = s.line.receiver) ∧ OnlyStation s t := by
  intro t e
  obtain ⟨line, ⟨dPre, dEff, prev, d, dLine, call⟩, ⟨wait, lead⟩, ⟨active, claiming⟩, brokenOff, k⟩ :=
    settle_enterLineFault safe role lo (enterLineFault s).line (faulting_broken s) t e
  obtain ⟨⟨mode, driver, due, sync, drive, good, faultGood, quiet, alone⟩, receiver, stuck⟩ :=
    enterLineFault_line_spec safe t.line line
  exact ⟨⟨mode, driver, due, sync, drive, good, faultGood, quiet, alone, dPre, dEff, prev, d, dLine, call,
    wait, lead, active, claiming, brokenOff⟩, stuck, receiver, k⟩

/-- The line record once the line is found stuck (R20, R21). -/
def stuckLine (n : Nat) (l : Line) : Line :=
  { l with stuck := n, quiet := 0, receiver := .searching, recessiveRun := 0 }

theorem becomeStuck_entry (n : Nat) (m : s.line.mode = .listen ∨ s.line.mode = .joined) :
    becomeStuck n s = setLine (enterLineFault s) (stuckLine n (enterLineFault s).line) := by
  unfold becomeStuck
  rw [if_pos m]
  rfl

theorem faulting_broken_stuck (n : Nat) (s : State) :
    Broken (faulting s) (setLine (enterLineFault s) (stuckLine n (enterLineFault s).line)) := by
  obtain ⟨station, alarms, notices, -, good, bad, peers⟩ := faulting_broken s
  exact ⟨station.trans (setLine_station _ _), alarms, notices, fun _ => rfl, good, bad, peers⟩

/-- The stuck condition in LISTEN or JOINED (R20): the entry to LINE_FAULT, with the receiver
searching whatever went before. -/
theorem becomeStuck_faulted (n : Nat) (safe : LineSafe s) (role : ReporterSafe s)
    (lo : loaded s = true) (m : s.line.mode = .listen ∨ s.line.mode = .joined) :
    ∀ t, t = settle (becomeStuck n s) → Faulted s t
      ∧ (t.line.stuck = n ∧ t.line.receiver = .searching ∧ t.line.recessiveRun = 0)
      ∧ OnlyStation s t := by
  intro t e
  rw [becomeStuck_entry n m] at e
  obtain ⟨line, ⟨dPre, dEff, prev, d, dLine, call⟩, ⟨wait, lead⟩, ⟨active, claiming⟩, brokenOff, k⟩ :=
    settle_enterLineFault safe role lo _ (faulting_broken_stuck n s) t e
  obtain ⟨⟨mode, driver, due, sync, drive, good, faultGood, -, alone⟩, -, -⟩ :=
    enterLineFault_line_spec safe _ rfl
  rw [Faulted, line]
  exact ⟨⟨mode, driver, due, sync, drive, good, faultGood, rfl, alone, dPre, dEff, prev, d, dLine, call,
    wait, lead, active, claiming, brokenOff⟩, ⟨rfl, rfl, rfl⟩, k⟩

/-- The line record in which a third sync attempt fails. -/
def thirdFailure (l : Line) : Line :=
  { l with frameExpired := false, due := false, syncDriving := false, driver := .released
           syncFail := satSucc 3 l.syncFail }

theorem failSync_third (h : 2 ≤ s.line.syncFail) :
    failSync s = enterLineFault (setLine s (thirdFailure s.line)) := by
  unfold failSync
  refine if_pos ?_
  rw [setLine_line]
  dsimp only
  rw [satSucc]
  omega

/-- A sync attempt belongs to JOINED, so that its failure keeps what holds of the line. -/
theorem LineSafe.thirdFailure (safe : LineSafe s) (h : s.line.syncDriving = true) :
    LineSafe (setLine s (thirdFailure s.line)) := by
  obtain ⟨cut, joined, rest⟩ := safe
  have m := joined (.inr (.inl h))
  refine ⟨⟨nofun, fun i => ?_⟩, fun _ => m, rest⟩
  exact nomatch m.symm.trans i

/-- A stuck line in ISOLATED or LINE_FAULT (R20, R21): nothing is driven there, so that a frame broken
off takes no claim with it. -/
theorem becomeStuck_outside (n : Nat) (safe : LineSafe s)
    (m : s.line.mode = .isolated ∨ s.line.mode = .lineFault) :
    becomeStuck n s = setLine s { brokenLine (ownAddress s) s.line with
      stuck := n, quiet := 0, receiver := .searching, recessiveRun := 0 } := by
  have outside : s.line.mode ≠ .joined := by rcases m with m | m <;> simp [m]
  have out : ¬(s.line.mode = .listen ∨ s.line.mode = .joined) := by rcases m with m | m <;> simp [m]
  obtain ⟨-, -, -, drive, -⟩ := safe.outside outside
  have quiet : badNotice s = s := by
    unfold badNotice
    simp [drive]
  have broken : breakFrame s = setLine s (breakFrame s).line := by
    obtain ⟨-, e⟩ | ⟨-, e⟩ := breakFrame_cases s <;> rw [e]
    · rw [badFrameEnd_eq, quiet]
      rfl
    · rfl
  rw [breakFrame_line outside] at broken
  unfold becomeStuck
  rw [if_neg out, broken]
  rfl

theorem captured_of_loaded (h : loaded s = true) : captured s = true := by
  unfold loaded at h
  unfold captured
  simp_all

/-- Three ways into LINE_FAULT. -/
theorem enters_lineFault {c : Instr} (safe : LineSafe s) (role : ReporterSafe s)
    (lo : loaded s = true) (way : (c = .presenceFault ∧ s.line.mode = .joined ∧ 3 ≤ s.line.presenceFail)
      ∨ (c = .syncAttemptFail ∧ s.line.syncDriving = true ∧ 2 ≤ s.line.syncFail)
      ∨ (∃ n, c = .stuckCondition n ∧ 160 < n ∧ s.line.stuck ≤ 160
          ∧ (s.line.mode = .listen ∨ s.line.mode = .joined))) :
    ∃ t, exec c s = .next t ∧ Faulted s t ∧ OnlyStation s t
      ∧ (∀ n, c = .stuckCondition n →
          t.line.stuck = n ∧ t.line.receiver = .searching ∧ t.line.recessiveRun = 0)
      ∧ ((∀ n, c ≠ .stuckCondition n) → t.line.stuck = s.line.stuck
          ∧ (s.line.receiver ≠ .inside → t.line.receiver = s.line.receiver)) := by
  rcases way with ⟨rfl, m, count⟩ | ⟨rfl, sync, count⟩ | ⟨n, rfl, long, short, m⟩
  · obtain ⟨faulted, stuck, receiver, k⟩ := enterLineFault_faulted safe role lo _ rfl
    refine ⟨_, ?_, faulted, k, nofun, fun _ => ⟨stuck, receiver⟩⟩
    unfold exec execPresenceFault
    exact taken_of_can _ _ (by simp [m, count])
  · obtain ⟨faulted, stuck, receiver, k⟩ := enterLineFault_faulted
      (s := setLine s (thirdFailure s.line)) (safe.thirdFailure sync) role lo _ rfl
    refine ⟨_, ?_, faulted, k, nofun, fun _ => ⟨stuck, receiver⟩⟩
    unfold exec execSyncAttemptFail
    rw [← failSync_third count]
    exact taken_of_can _ _ sync
  · have step : exec (.stuckCondition n) s = .next (settle (becomeStuck n s)) := by
      unfold exec execStuckCondition
      exact taken_of_can _ _ (by simp [captured_of_loaded lo, stuckNow, short, long])
    revert step
    generalize e : settle (becomeStuck n s) = t
    intro step
    obtain ⟨faulted, stuck, k⟩ := becomeStuck_faulted n safe role lo m t e.symm
    refine ⟨t, step, faulted, k, fun n' e => ?_, fun no => absurd rfl (no n)⟩
    injection e with e
    exact e ▸ stuck

/-- Settles O25. -/
theorem lineFaults : Obligations.LineFaults := by
  refine ⟨fun c s safe role lo way => ?_, fun n s p r safe can long short m => ?_⟩
  · obtain ⟨t, step, ⟨mode, driver, due, sync, drive, good, faultGood, quiet, alone, dPre, dEff, prev, d,
      dLine, call, wait, lead, active, claiming, brokenOff⟩, k, stuck, other⟩ :=
      enters_lineFault safe role lo way
    exact ⟨t, step, mode, driver, due, sync, drive, good, faultGood, quiet, alone, dPre, dEff, prev, d,
      dLine, call, wait, lead, active, claiming, brokenOff, stuck, other, k.time, k.inputs, k.cfg, k.ovf,
      k.gate, k.chanA, k.chanB⟩
  · have e := becomeStuck_outside n safe m
    have cells : SameCells s.line (stuckLine n (brokenLine (ownAddress s) s.line)) := by
      unfold stuckLine brokenLine
      split <;> exact ⟨rfl, .rfl⟩
    obtain ⟨t, step, follows⟩ := taken_setLine_follows
      (can := captured s && !stuckNow s.line && decide (160 < n)) (f := becomeStuck n)
      (by simp [can, stuckNow, short, long]) e cells p r
    refine ⟨t, step, fun out => ?_, fun inside => ?_⟩
    · rw [brokenLine, if_neg out] at follows
      exact follows
    · rw [brokenLine, if_pos inside] at follows
      exact follows

end Sys2Proof.Machine
end

section
/-! O20. What the Line Interface makes of a good frame end. -/

namespace Sys2Proof.Machine

open Sys2Proof

variable {s t u : State}

/-! ### The frame as read -/

/-- How far a predicate holds along the first numbers. -/
theorem length_takeWhile_range {p : Nat → Bool} {m n : Nat} (le : m ≤ n) (all : ∀ i < m, p i = true)
    (stop : m < n → p m = false) : ((List.range n).takeWhile p).length = m := by
  obtain ⟨r, rfl⟩ := Nat.exists_eq_add_of_le le
  rw [List.range_add, List.takeWhile_append_of_pos fun i h => all i (List.mem_range.1 h)]
  cases r with
  | zero => simp
  | succ r =>
    rw [List.range_succ_eq_map, List.map_cons,
      List.takeWhile_cons_of_neg (by simp [stop (by omega)])]
    simp

/-- A frame with no dominant data cell ends with 137 recessive cells (R3, R21). -/
theorem trailingRecessive_all {c : Cells} (h : ∀ k < 136, c.getLsbD k = false) :
    trailingRecessive c = 137 := by
  refine length_takeWhile_range (Nat.le_refl _) (fun i lt => ?_) (by omega)
  by_cases e : i = 136
  · simp [e]
  · simp [h (135 - i) (by omega)]

/-- A frame ends with the recessive cells after its last dominant one (R21). -/
theorem trailingRecessive_last {c : Cells} {k : Nat} (lt : k < 136) (dominant : c.getLsbD k = true)
    (last : ∀ j < 136, k < j → c.getLsbD j = false) : trailingRecessive c = 135 - k := by
  refine length_takeWhile_range (by omega) (fun i h => ?_) fun _ => ?_
  · simp [last (135 - i) (by omega) (by omega)]
  · rw [show 135 - (135 - k) = k by omega, dominant]
    simp
    omega

theorem claimStart_eq_some_iff {k first : Nat} : claimStart k = some first ↔
    ∃ n, (first, n) ∈ [(12, 7), (20, 4), (28, 4)] ∧ first ≤ k ∧ k < first + n := by
  unfold claimStart
  simp only [List.mem_cons, List.not_mem_nil, or_false, Prod.mk.injEq]
  constructor
  · intro h
    split at h
    · exact ⟨7, .inl ⟨by simpa using h.symm, rfl⟩, by simp at h; omega⟩
    · split at h
      · exact ⟨4, .inr (.inl ⟨by simpa using h.symm, rfl⟩), by simp at h; omega⟩
      · split at h
        · exact ⟨4, .inr (.inr ⟨by simpa using h.symm, rfl⟩), by simp at h; omega⟩
        · simp at h
  · rintro ⟨n, (⟨rfl, rfl⟩ | ⟨rfl, rfl⟩ | ⟨rfl, rfl⟩), low, high⟩
    · rw [if_pos (by omega)]
    · rw [if_neg (by omega), if_pos (by omega)]
    · rw [if_neg (by omega), if_neg (by omega), if_pos (by omega)]

/-- A key stands at a cell while every cell of its field so far that it drove recessive read so (R12). -/
theorem lostBefore_eq_false_iff {key read : Cells} {k : Nat} : lostBefore key read k = false ↔
    ∀ first n, (first, n) ∈ [(12, 7), (20, 4), (28, 4)] → first ≤ k → k < first + n →
      ∀ j, first ≤ j → j < k → key.getLsbD j = false → read.getLsbD j = false := by
  have standing : ∀ first, ((List.range (k - first)).any fun j =>
      !key.getLsbD (first + j) && read.getLsbD (first + j)) = false ↔
        ∀ j, first ≤ j → j < k → key.getLsbD j = false → read.getLsbD j = false := by
    intro first
    rw [List.any_eq_false]
    constructor
    · intro h j low high recessive
      have := h (j - first) (List.mem_range.2 (by omega))
      rw [show first + (j - first) = j by omega] at this
      simpa [recessive] using this
    · intro h i m
      rw [List.mem_range] at m
      cases e : key.getLsbD (first + i)
      · simp [h (first + i) (by omega) (by omega) e]
      · simp
  unfold lostBefore
  split
  · rename_i first e
    rw [standing]
    constructor
    · intro h first' n mem low high
      have e' := claimStart_eq_some_iff.2 ⟨n, mem, low, high⟩
      rw [e] at e'
      injection e' with e'
      exact e' ▸ h
    · obtain ⟨n, mem, low, high⟩ := claimStart_eq_some_iff.1 e
      exact fun h => h first n mem low high
  · rename_i e
    refine ⟨fun _ first n mem low high => ?_, fun _ => rfl⟩
    have e' := claimStart_eq_some_iff.2 ⟨n, mem, low, high⟩
    exact nomatch e.symm.trans e'

/-- A station drives what it means to drive but for the rest of each lost key (R12). -/
theorem releaseLost_getLsbD (meant read : Cells) {k : Nat} (h : k < 136) :
    (releaseLost meant read).getLsbD k = (meant.getLsbD k && !lostBefore meant read k) := by
  rw [releaseLost, toCells_getLsbD _ h]
  simp [List.getD_eq_getElem?_getD, h]

/-! ### The peer table -/

/-- The entry of an address after a good frame (R23, R24). -/
theorem peer_of_peersAfter {c : Cells} (e : t.line.peers = peersAfter c s) {a : Nat} (lt : a < 8) :
    peer t a = if a = ownAddress s then ownEntry s
      else peerAfter s.line.prevGood c a (peer s a) := by
  have at' : addresses[a]? = some a := by
    rw [show addresses = List.range 8 from rfl, List.getElem?_range lt]
  unfold peer
  rw [e, peersAfter, List.getD_eq_getElem?_getD, List.getElem?_map, at']
  rfl

/-- A peer's beat-stuck count (R24), as O20 has it. -/
theorem beatStuckAfter_eq (prevGood beat : Bool) (e : PeerEntry) : beatStuckAfter prevGood beat e =
    if e.heard ∧ e.age = 0 then
      if prevGood then if beat = e.lastBeat then min (e.beatStuck + 1) 3 else 0 else e.beatStuck
    else 0 := by
  unfold beatStuckAfter
  by_cases last : e.heard = true ∧ e.age = 0
  · obtain ⟨heard, age⟩ := last
    cases prevGood
    · simp [heard, age]
    · simp [heard, age, satSucc]
  · have unheard : (!e.heard || e.age != 0) = true := by
      simpa [Classical.or_iff_not_imp_left] using last
    rw [if_pos unheard, if_neg last]

/-- The freshness of a peer rests on the table alone (R25). -/
theorem freshAt_of_peers (own : ownAddress t = ownAddress s) (e : t.line.peers = s.line.peers) {a : Nat}
    (other : a ≠ ownAddress s) : freshAt t a = freshAt s a := by
  unfold freshAt peer
  rw [own, e, if_neg other, if_neg other]

theorem otherFresh_iff : otherFresh s = true ↔ ∃ a < 8, a ≠ ownAddress s ∧ freshAt s a = true := by
  unfold otherFresh
  rw [show addresses = List.range 8 from rfl]
  simp

/-! ### The counts of the line state -/

theorem clashes_iff {driven c : Cells} {own : Nat} : clashes driven c own = true ↔
    ∃ i, 1 ≤ i ∧ i ≤ 7 ∧ driven.getLsbD (stationCell own + i) = false
      ∧ c.getLsbD (stationCell own + i) = true := by
  unfold clashes
  rw [show [1, 2, 3, 4, 5, 6, 7] = (List.range 7).map (· + 1) from rfl]
  simp only [List.any_map, List.any_eq_true, List.mem_range, Function.comp, Bool.and_eq_true,
    Bool.not_eq_true']
  constructor
  · rintro ⟨i, lt, k⟩
    exact ⟨i + 1, by omega, by omega, k⟩
  · rintro ⟨i, low, high, k⟩
    exact ⟨i - 1, by omega, by rwa [show i - 1 + 1 = i by omega]⟩

/-- A frame ends with a clash (R18). -/
def ClashAt (c : Cells) (drive : Option Drive) (own : Nat) : Prop :=
  ∃ d, drive = some d ∧ clashes d.cells c own = true

/-- The line record of a JOINED station at a good frame end, a clash aside (R7, R25). -/
def joinedLine (c : Cells) (s : State) : Line :=
  { s.line with
    presenceFail := if presentCell c (ownAddress s) then 0 else satSucc 3 s.line.presenceFail
    aloneCount := if otherFresh s then 0 else satSucc 10 s.line.aloneCount
    alone := if otherFresh s then false else s.line.alone }

/-- The counts of a JOINED station, and the clash check that follows them. -/
theorem countLine_of_joined {c : Cells} {drive : Option Drive} (m : s.line.mode = .joined)
    [Decidable (ClashAt c drive (ownAddress s))] : countLine c drive s =
      if ClashAt c drive (ownAddress s) then enterIsolated (setLine s (joinedLine c s))
      else setLine s (joinedLine c s) := by
  have counted : countAlone (setLine s { s.line with
      presenceFail := if presentCell c (ownAddress s) then 0 else satSucc 3 s.line.presenceFail })
        = setLine s (joinedLine c s) := countAlone_eq _
  unfold countLine
  dsimp only
  split
  case h_2 =>
    rw [counted]
    cases drive with
    | none => rw [if_neg fun ⟨_, e, _⟩ => nomatch e]
    | some d =>
      dsimp only
      by_cases clash : clashes d.cells c (ownAddress s) = true
      · rw [if_pos clash, if_pos ⟨d, rfl, clash⟩]
      · rw [if_neg clash, if_neg]
        rintro ⟨_, ⟨⟩, clash'⟩
        exact clash clash'
  all_goals
    rename_i m'
    exact nomatch m.symm.trans m'

theorem countLine_joined {c : Cells} {drive : Option Drive} (m : s.line.mode = .joined)
    (no : ¬ClashAt c drive (ownAddress s)) : countLine c drive s = setLine s (joinedLine c s) := by
  classical
  rw [countLine_of_joined m, if_neg no]

theorem countLine_clash {c : Cells} {drive : Option Drive} (m : s.line.mode = .joined)
    (clash : ClashAt c drive (ownAddress s)) :
    countLine c drive s = enterIsolated (setLine s (joinedLine c s)) := by
  classical
  rw [countLine_of_joined m, if_pos clash]

/-- The line record where a clash isolates a station outside a frame (R18, R22). -/
theorem countLine_clash_line {c : Cells} {drive : Option Drive} (m : s.line.mode = .joined)
    (out : s.line.receiver ≠ .inside) (clash : ClashAt c drive (ownAddress s)) :
    (countLine c drive s).line = { joinedLine c s with
      mode := .isolated, driver := .cut, due := false, syncDriving := false, aloneCount := 0
      alone := false } := by
  have out' : (joinedLine c s).receiver ≠ .inside := out
  have m' : (joinedLine c s).mode = .joined := m
  rw [countLine_clash m clash, enterIsolated_line, setLine_line, leftLine, if_pos m', brokenLine,
    if_neg out']

theorem countLine_listen {c : Cells} {drive : Option Drive} (m : s.line.mode = .listen) :
    countLine c drive s = setLine s { s.line with
      goodRun := if presentCell c (ownAddress s) then 0 else satSucc 5 s.line.goodRun
      ownCount := if presentCell c (ownAddress s) then satSucc 2 s.line.ownCount
        else s.line.ownCount } := by
  unfold countLine
  simp only [m]
  cases presentCell c (ownAddress s) <;> rfl

theorem countLine_lineFault {c : Cells} {drive : Option Drive} (m : s.line.mode = .lineFault) :
    countLine c drive s = setLine s { s.line with faultGood := satSucc 10 s.line.faultGood } := by
  unfold countLine
  simp only [m]

theorem countLine_isolated {c : Cells} {drive : Option Drive} (m : s.line.mode = .isolated) :
    countLine c drive s = s := by
  unfold countLine
  simp only [m]

/-- What the counts leave of the frame as read: the table, the common cells, the receiver, and the
driving of the frame. -/
def SameFrame (l m : Line) : Prop :=
  m.peers = l.peers ∧ m.prevGood = l.prevGood ∧ m.common = l.common ∧ m.receiver = l.receiver
    ∧ m.drive = l.drive ∧ m.driven = l.driven ∧ m.noticeWon = l.noticeWon
    ∧ m.badFrames = l.badFrames ∧ m.quiet = l.quiet

/-- The counts at a good frame end, in every line state (R7, R15, R17, R18, R21, R25). -/
structure Counted (c : Cells) (clash : Prop) (own : Nat) (fresh : Bool) (l m : Line) : Prop where
  frame : SameFrame l m
  listen : l.mode = .listen → m.mode = .listen
    ∧ m.goodRun = (if presentCell c own then 0 else satSucc 5 l.goodRun)
    ∧ m.ownCount = (if presentCell c own then satSucc 2 l.ownCount else l.ownCount)
  clashing : l.mode = .joined → clash → m.mode = .isolated ∧ m.driver = .cut ∧ m.due = false
    ∧ m.alone = false
  joined : l.mode = .joined → ¬clash → m.mode = .joined
    ∧ m.presenceFail = (if presentCell c own then 0 else satSucc 3 l.presenceFail)
    ∧ m.aloneCount = (if fresh then 0 else satSucc 10 l.aloneCount)
    ∧ m.alone = (if fresh then false else l.alone)
  lineFault : l.mode = .lineFault → m.mode = .lineFault ∧ m.faultGood = satSucc 10 l.faultGood
  isolated : l.mode = .isolated → m.mode = .isolated
  notListen : l.mode ≠ .listen → m.goodRun = l.goodRun ∧ m.ownCount = l.ownCount
  notJoined : l.mode ≠ .joined → m.presenceFail = l.presenceFail ∧ m.aloneCount = l.aloneCount
    ∧ m.alone = l.alone
  notFault : l.mode ≠ .lineFault → m.faultGood = l.faultGood

theorem countLine_counted (c : Cells) (drive : Option Drive) (out : s.line.receiver ≠ .inside) :
    Counted c (ClashAt c drive (ownAddress s)) (ownAddress s) (otherFresh s) s.line
      (countLine c drive s).line := by
  have same : SameFrame s.line s.line := ⟨rfl, rfl, rfl, rfl, rfl, rfl, rfl, rfl, rfl⟩
  cases m : s.line.mode with
  | listen =>
    rw [countLine_listen m]
    constructor <;> simp [m, SameFrame]
  | joined =>
    by_cases clash : ClashAt c drive (ownAddress s)
    · rw [countLine_clash_line m out clash]
      constructor <;> simp [m, clash, SameFrame, joinedLine]
    · rw [countLine_joined m clash]
      constructor <;> simp [m, clash, SameFrame, joinedLine]
  | lineFault =>
    rw [countLine_lineFault m]
    constructor <;> simp [m, SameFrame]
  | isolated =>
    rw [countLine_isolated m]
    constructor <;> simp [m, SameFrame]

/-! ### A clash withdraws what JOINED asserts -/

/-- The ACK assertions and the holdoff are as they were. -/
def KeepsAsserted (s t : State) : Prop :=
  t.alarms.ackPress = s.alarms.ackPress ∧ t.alarms.ackTown = s.alarms.ackTown
    ∧ t.notices.holdoff = s.notices.holdoff

theorem KeepsAsserted.of_same (a : t.alarms = s.alarms) (n : t.notices.holdoff = s.notices.holdoff) :
    KeepsAsserted s t := ⟨congrArg (·.ackPress) a, congrArg (·.ackTown) a, n⟩

theorem KeepsAsserted.refl (s : State) : KeepsAsserted s s := ⟨rfl, rfl, rfl⟩

theorem KeepsAsserted.trans (h : KeepsAsserted s t) (k : KeepsAsserted t u) : KeepsAsserted s u :=
  ⟨k.1.trans h.1, k.2.1.trans h.2.1, k.2.2.trans h.2.2⟩

theorem OnlyNotices.keepsAsserted (h : OnlyNotices s t) : KeepsAsserted s t :=
  ⟨(congrArg (·.alarms.ackPress) h).trans rfl, (congrArg (·.alarms.ackTown) h).trans rfl,
    (congrArg (·.notices.holdoff) h).trans rfl⟩

theorem OnlyClosing.keepsAsserted (h : OnlyClosing s t) : KeepsAsserted s t :=
  ⟨h.ackPress, h.ackTown, h.holdoff⟩

theorem OnlyPlant.keepsAsserted (h : OnlyPlant s t) : KeepsAsserted s t :=
  .of_same h.alarms (congrArg (·.holdoff) h.notices)

theorem buildRecord_keepsAsserted (urgent : Bool) (r : ReportRecord) (s : State) :
    KeepsAsserted s (buildRecord urgent r s) := by
  unfold buildRecord enqueueReport
  dsimp only
  split <;> exact .of_same rfl rfl

theorem buildOverflowEvent_keepsAsserted (a : Nat) (w : WaitingEnd) (code : Nat) (d : Option Nat)
    (s : State) : KeepsAsserted s (buildOverflowEvent a w code d s) :=
  KeepsAsserted.trans (t := setPairing a none s) (.of_same rfl rfl) (buildRecord_keepsAsserted _ _ _)

theorem recordNotice_keepsAsserted (n : Received) (s : State) : KeepsAsserted s (recordNotice n s) := by
  unfold recordNotice
  split
  · exact (buildRecord_keepsAsserted _ _ s).trans (.of_same rfl rfl)
  · exact buildRecord_keepsAsserted _ _ s
  · dsimp only
    split
    · exact (buildOverflowEvent_keepsAsserted _ _ _ _ s).trans (.of_same rfl rfl)
    · exact .of_same rfl rfl
  · split
    · split
      · exact buildOverflowEvent_keepsAsserted _ _ _ _ s
      · exact .refl s
    · exact .refl s
  · exact buildRecord_keepsAsserted _ _ s
  · exact .refl s
  · split
    · split
      · exact (endCommand_onlyNotices _ s).keepsAsserted
      · exact .refl s
    · exact .refl s

theorem handResult_keepsAsserted (won : Bool) (c : Cells) (drive : Option Drive) (s : State) :
    KeepsAsserted s (handResult won c drive s) := by
  unfold handResult
  split
  · split
    · obtain ⟨alarms, holdoff, -⟩ := noticeResult_keeps _ s
      exact .of_same alarms holdoff
    · exact .refl s
  · exact .refl s

theorem reporterResult_keepsAsserted (c : Cells) (drive : Option Drive) (s : State) :
    KeepsAsserted s (reporterResult c drive s) := by
  have active : KeepsAsserted s (enterActive s) := by
    unfold enterActive
    exact KeepsAsserted.trans (t := setReporter s _) (.of_same rfl rfl)
      (buildRecord_keepsAsserted _ _ _)
  unfold reporterResult reporterFrame
  split
  · split
    · exact .refl s
    · exact .of_same rfl rfl
    · split
      · exact .refl s
      · split
        · exact active
        · exact .of_same rfl rfl
    · split
      · exact .refl s
      · split
        · exact .refl s
        · exact .of_same rfl rfl
  · exact .refl s

theorem receiveNotice_keepsAsserted (c : Cells) (s : State) : KeepsAsserted s (receiveNotice c s) := by
  unfold receiveNotice
  split
  · dsimp only
    split
    · split
      · exact KeepsAsserted.trans (t := { s with notices := { s.notices with
          command := commandFor (ownAddress s) (noticeOf c)
          checkFail := if noticeField c ≠ 15 ∧ noticeOf c = none then satSucc 255 s.notices.checkFail
            else s.notices.checkFail } }) (.of_same rfl rfl) (recordNotice_keepsAsserted _ _)
      · exact .of_same rfl rfl
    · exact .of_same rfl rfl
  · exact .refl s

theorem countAfterNotice_keepsAsserted (carried : Bool) (s : State) :
    KeepsAsserted s (countAfterNotice carried s) := by
  unfold countAfterNotice
  dsimp only
  split <;> split <;> exact .of_same rfl rfl

theorem refresh_keepsAsserted (c : Cells) (s : State) : KeepsAsserted s (refresh c s) := by
  unfold refresh
  split
  · exact .refl s
  · rename_i h _
    split
    · exact KeepsAsserted.trans (t := { s with notices := { s.notices with lastHolder := some h } })
        (.of_same rfl rfl) (handAll_onlyNotices _ _).keepsAsserted
    · exact .refl s

/-- The Notice Unit's and the reporter's part of a good frame end asserts and withdraws nothing. -/
theorem houseFrame_keepsAsserted (won : Bool) (c : Cells) (drive : Option Drive) (s : State) :
    KeepsAsserted s (houseFrame won c drive s) :=
  (handResult_keepsAsserted won c drive s).trans <| (reporterResult_keepsAsserted c drive _).trans <|
    (receiveNotice_keepsAsserted c _).trans <| (countAfterNotice_keepsAsserted _ _).trans <|
    refresh_keepsAsserted c _

/-- An entry to ISOLATED from JOINED leaves no ACK assertion and no holdoff (R125, R137). -/
theorem enterIsolated_asserts_nothing (m : s.line.mode = .joined) :
    (enterIsolated s).alarms.ackPress = false ∧ (enterIsolated s).alarms.ackTown = false
      ∧ (enterIsolated s).notices.holdoff = false := by
  have leaving := isolating_leaving s
  have broken := isolating_broken s
  obtain ⟨alarms, holdoff, -⟩ := breakFrame_keeps (isolating s)
  obtain ⟨-, -, left, clear, -⟩ := leaveJoined_spec s
  obtain ⟨press, town, -⟩ := withdrawAck_alarms s
  rw [broken.alarms, broken.notices, alarms, holdoff, leaving.alarms, leaving.notices,
    leaveIfJoined_of_joined m, left]
  exact ⟨press, town, clear⟩

/-- A clash at a frame end leaves no ACK assertion and no holdoff (R18, R125, R137). -/
theorem clash_asserts_nothing {c : Cells} (m : s.line.mode = .joined)
    (clash : ClashAt c s.line.drive (ownAddress s)) :
    (countLine c s.line.drive (emptyStale s (readFrame c s))).alarms.ackPress = false
      ∧ (countLine c s.line.drive (emptyStale s (readFrame c s))).alarms.ackTown = false
      ∧ (countLine c s.line.drive (emptyStale s (readFrame c s))).notices.holdoff = false := by
  have k := emptyStale_onlyHouse s (readFrame c s)
  have joined : (emptyStale s (readFrame c s)).line.mode = .joined := by
    rw [k.line]
    exact m
  have own : ownAddress (emptyStale s (readFrame c s)) = ownAddress s := by
    rw [k]
    rfl
  rw [countLine_clash joined (own ▸ clash)]
  exact enterIsolated_asserts_nothing joined

/-- After its counts a good frame end neither asserts nor withdraws (R125, R137). -/
theorem frameEnd_keepsAsserted (c : Cells) (s : State) :
    KeepsAsserted (countLine c s.line.drive (emptyStale s (readFrame c s))) (frameEnd c s) :=
  (plantFrame_onlyPlant c _ _).keepsAsserted.trans <| (houseFrame_keepsAsserted _ c _ _).trans <|
    (acknowledgeFrame_onlyClosing c _).keepsAsserted.trans (.of_same rfl rfl)

/-! ### The whole -/

theorem clashAt_iff {c : Cells} {drive : Option Drive} {own : Nat} : ClashAt c drive own ↔
    ∃ d, drive = some d ∧ ∃ i, 1 ≤ i ∧ i ≤ 7 ∧ d.cells.getLsbD (stationCell own + i) = false
      ∧ c.getLsbD (stationCell own + i) = true := by
  unfold ClashAt
  simp only [clashes_iff]

/-- The line of a good frame end: the frame as read, with its counts. -/
theorem frameEnd_counted (c : Cells) (s : State) :
    Counted c (ClashAt c s.line.drive (ownAddress s)) (ownAddress s) (otherFresh (readFrame c s))
      (readFrame c s).line (frameEnd c s).line := by
  have k := emptyStale_onlyHouse s (readFrame c s)
  have fresh : otherFresh (emptyStale s (readFrame c s)) = otherFresh (readFrame c s) := by
    rw [k]
    rfl
  have own : ownAddress (emptyStale s (readFrame c s)) = ownAddress s := by
    rw [k]
    rfl
  have out : (emptyStale s (readFrame c s)).line.receiver ≠ .inside := by
    rw [k.line]
    nofun
  have counted := countLine_counted c s.line.drive out
  rw [own, fresh, k.line, ← frameEnd_line_counts] at counted
  exact counted

/-- The peer table of O20, of any state with the table of the frame. -/
theorem peers_of_frame {c : Cells} (e : t.line.peers = peersAfter c s) :
    (∀ a < 8, a ≠ ownAddress s → peer t a =
        if c.getLsbD (stationCell a) then
          ⟨true, 0, c.getLsbD (stationCell a + 1), c.getLsbD (stationCell a + 2),
            c.getLsbD (stationCell a + 3), c.getLsbD (stationCell a + 4),
            c.getLsbD (stationCell a + 5), c.getLsbD (stationCell a + 6),
            c.getLsbD (stationCell a + 7),
            if (peer s a).heard ∧ (peer s a).age = 0 then
              if s.line.prevGood then
                if c.getLsbD (stationCell a + 7) = (peer s a).lastBeat then
                  min ((peer s a).beatStuck + 1) 3
                else 0
              else (peer s a).beatStuck
            else 0⟩
        else { peer s a with age := min ((peer s a).age + 1) 15 })
      ∧ (∀ d, s.line.mode = .joined → s.line.drive = some d →
          peer t (ownAddress s) = shownEntry d.cells (ownAddress s) 0)
      ∧ (s.line.mode ≠ .joined → peer t (ownAddress s) = PeerEntry.unheard) := by
  have own : peer t (ownAddress s) = ownEntry s := by
    rw [peer_of_peersAfter e (ownAddress_lt s), if_pos rfl]
  refine ⟨fun a lt other => ?_, fun d m drive => ?_, fun m => own.trans (ownEntry_outside m)⟩
  · rw [peer_of_peersAfter e lt, if_neg other, peerAfter, presentCell, beatStuckAfter_eq]
    rfl
  · rw [own, ownEntry, m, drive]

/-- What the station drove, of what it meant to (R12). -/
theorem releaseLost_iff (meant read : Cells) : ∀ k < 136,
    ((releaseLost meant read).getLsbD k = true ↔ meant.getLsbD k = true
      ∧ ∀ first n, (first, n) ∈ [(12, 7), (20, 4), (28, 4)] → first ≤ k → k < first + n →
          ∀ j, first ≤ j → j < k → meant.getLsbD j = false → read.getLsbD j = false) := by
  intro k lt
  rw [releaseLost_getLsbD meant read lt, Bool.and_eq_true, Bool.not_eq_true', lostBefore_eq_false_iff]

/-- Settles O20. -/
theorem frameUpdatesPeers : Obligations.FrameUpdatesPeers := by
  intro run c s inside low high
  have step : exec (.goodFrameEnd run c) s = .next (settle (frameEnd c s)) := by
    unfold exec execGoodFrameEnd
    exact taken_of_can _ _ (by simp [inside, goodRun, low, high])
  generalize e : settle (frameEnd c s) = t at step
  have k : OnlyStation s t := (frameEnd_station c s).trans (e ▸ settle_station _)
  have line : t.line = (frameEnd c s).line := e ▸ settle_line _
  have asserted : KeepsAsserted (countLine c s.line.drive (emptyStale s (readFrame c s))) t :=
    (frameEnd_keepsAsserted c s).trans (e ▸ (settle_onlyClosing _).keepsAsserted)
  obtain ⟨⟨peers, good, common, receiver, drive, driven, won, bad, quiet⟩, listen, clashing, joined,
    lineFault, isolated, notListen, notJoined, notFault⟩ := line ▸ frameEnd_counted c s
  obtain ⟨others, ownJoined, ownOutside⟩ := peers_of_frame (t := t) peers
  have clash_iff := clashAt_iff (c := c) (drive := s.line.drive) (own := ownAddress s)
  have fresh_iff : otherFresh (readFrame c s) = true
      ↔ ∃ a < 8, a ≠ ownAddress s ∧ freshAt t a = true := by
    rw [otherFresh_iff]
    refine exists_congr fun a => and_congr_right fun _ => and_congr_right fun other => ?_
    rw [freshAt_of_peers (s := readFrame c s) (t := t) k.own peers other]
  refine ⟨t, step, others, ownJoined, ownOutside, ?_, ?_, good, common, receiver, drive, won, bad, ?_, ?_,
    listen, ?_, lineFault, isolated, notListen, notJoined, notFault, k.time, k.inputs, k.straps, k.loader,
    k.cfg, k.gate, k.chanA, k.chanB, k.ovf⟩
  · intro none
    rw [driven]
    simp [readFrame, none]
  · intro d some
    refine ⟨releaseLost d.cells c, ?_, releaseLost_iff d.cells c⟩
    rw [driven]
    simp [readFrame, some]
  · exact fun all => quiet.trans (trailingRecessive_all all)
  · exact fun k lt dominant last => quiet.trans (trailingRecessive_last lt dominant last)
  · intro clash same m
    rw [same, ← clash_iff]
    refine ⟨fun h => ?_, fun h => ?_⟩
    · obtain ⟨mode, driver, due, alone⟩ := clashing m h
      obtain ⟨press, town, holdoff⟩ := clash_asserts_nothing m h
      obtain ⟨samePress, sameTown, sameHoldoff⟩ := asserted
      exact ⟨mode, driver, due, alone, samePress.trans press, sameTown.trans town,
        sameHoldoff.trans holdoff⟩
    · obtain ⟨mode, presence, count, alone⟩ := joined m h
      refine ⟨mode, presence, fun fresh same => ?_⟩
      rw [same, ← fresh_iff]
      refine ⟨fun f => ?_, fun f => ?_⟩
      · rw [if_pos f] at count alone
        exact ⟨count, alone⟩
      · rw [if_neg f] at count alone
        exact ⟨count, alone⟩

end Sys2Proof.Machine
end

section
/-! O6, O7, O8 and O12. A tick, the first tick after reset, and what each second and minute counts. -/

namespace Sys2Proof.Machine

open Sys2Proof

variable {s t : State}

/-! ### Timers at a tick -/

@[simp] theorem advance_eq_none_iff (x : Timer) : advance x = none ↔ x = none := by
  cases x <;> simp [advance]

@[simp] theorem isSome_advance (x : Timer) : (advance x).isSome = x.isSome := by
  cases x <;> rfl

theorem tickOvf_of_seeing {o : Overflow} (h : o.blind = false) :
    tickOvf o = { o with pending := advance o.pending, tail := advance o.tail } := by
  simp [tickOvf, h]

theorem tickOvf_of_blind {o : Overflow} (h : o.blind = true) : tickOvf o = o := by
  simp [tickOvf, h]

/-- What a tick does to the Duty Controller's timers (R26, R76, R77, R86). -/
theorem tickDuty_timers (low : Bool) (d : Duty) :
    (tickDuty low d).minOff = advance d.minOff ∧ (tickDuty low d).inrush = advance d.inrush
      ∧ (tickDuty low d).confirm = advance d.confirm ∧ (tickDuty low d).runLoss = advance d.runLoss
      ∧ (tickDuty low d).minRun = advance d.minRun
      ∧ (tickDuty low d).changeover = tickChangeover d
      ∧ (∀ n, d.fallbackDelay = .running n → (tickDuty low d).fallbackDelay = .running (n + 1)) := by
  refine ⟨rfl, rfl, rfl, rfl, rfl, rfl, fun n h => ?_⟩
  simp only [tickDuty, h]

/-- Settles O7, block by block: a timer of each is advanced, and nothing else of it is touched. -/
theorem tickTimers : Obligations.TickTimers := by
  refine ⟨fun low d => ?_, fun o blind => tickOvf_of_blind blind, fun o n seeing => ?_,
    fun g n => ?_, fun a n => ?_, fun p => ?_, fun r n => ?_⟩
  · obtain ⟨minOff, inrush, confirm, runLoss, minRun, changeover, delay⟩ := tickDuty_timers low d
    rw [minOff, inrush, confirm, runLoss, minRun, changeover]
    refine ⟨fun _ => congrArg advance, congrArg advance, fun _ => congrArg advance,
      congrArg advance, fun _ => congrArg advance, fun _ => congrArg advance,
      fun _ => congrArg advance, delay, fun run => if_pos run,
      fun starting running => if_neg (by simp [starting, running]), fun yielding empty => ?_,
      fun off => ?_, rfl, rfl, fun l => if_pos l, fun l => if_neg (by simp [l]), rfl, rfl⟩
    · simp [tickChangeover, yielding, empty, satSucc, changeoverLimit, secondsTicks]
    · rcases tickChangeover_cases d with ⟨yielding, empty, -⟩ | ⟨-, same⟩
      · simp [yielding, empty] at off
      · exact same
  · rw [tickOvf_of_seeing seeing]
    exact ⟨congrArg advance, congrArg advance, rfl⟩
  · exact ⟨congrArg advance, congrArg advance, congrArg advance, congrArg advance, congrArg advance,
      congrArg advance, congrArg advance, congrArg advance, congrArg advance, congrArg advance,
      congrArg advance, congrArg advance, rfl, rfl, rfl, rfl, rfl, rfl⟩
  · exact ⟨congrArg advance, congrArg advance, congrArg advance, congrArg advance, congrArg advance,
      congrArg advance, congrArg advance, congrArg advance, rfl⟩
  · refine ⟨rfl, rfl, List.length_map _, fun k o at_k => ?_⟩
    exact ⟨{ o with stretch := advance o.stretch, pulse := advance o.pulse },
      by simp [tickPanel, at_k], rfl, rfl, fun _ => congrArg advance, congrArg advance,
      fun _ => congrArg advance, congrArg advance⟩
  · have sent : (tickReporter r).flight = r.flight.map fun f => { f with ta := advance f.ta } := rfl
    refine ⟨fun h => by simp only [tickReporter, h], fun h => by simp only [tickReporter, h],
      congrArg tickSince, congrArg tickSince, fun f inFlight ta => ?_, fun f inFlight ta => ?_,
      fun none => ?_, fun c clock => ?_⟩
    · rw [sent, inFlight, Option.map_some, ta]
      rfl
    · rw [sent, inFlight, Option.map_some, ta]
      exact congrArg (fun x => some { f with ta := x }) ta.symm
    · rw [sent, none]
      rfl
    · simp only [tickReporter, clock, Option.map_some]

/-! ### What keeps the pump and the rake safe -/

theorem stopHold_congr (i : ∀ x, isActive t x = isActive s x) (l : t.line = s.line) :
    stopHold t = stopHold s := by
  simp only [stopHold, cellUsed, i, l]

theorem rakeStop_congr (i : ∀ x, isActive t x = isActive s x) (l : t.line = s.line)
    (m : t.duty.mode = s.duty.mode) : rakeStop t = rakeStop s := by
  simp only [rakeStop, cellUsed, i, l, m]

/-- The pump's safety rests on the Duty Controller, the screen's condition, the stop hold and the
loader's phase. -/
theorem PumpSafe.congr (p : PumpSafe s) (duty : t.duty = s.duty)
    (condition : t.screen.condition = s.screen.condition) (hold : stopHold t = stopHold s)
    (l : loaded t = loaded s) : PumpSafe t := by
  unfold PumpSafe at p ⊢
  rw [duty, condition, hold, l]
  exact p

/-- The rake's safety rests on the Screen Controller, the rake stop and the loader's phase. -/
theorem RakeSafe.congr (r : RakeSafe s) (screen : t.screen = s.screen)
    (stop : rakeStop t = rakeStop s) (l : loaded t = loaded s) : RakeSafe t := by
  unfold RakeSafe rakeRequested at r ⊢
  rw [screen, stop, l]
  exact r

/-- Timers that advance start and stop none. -/
theorem PumpSafe.advanceTimers (p : PumpSafe s) : PumpSafe (advanceTimers s) := by
  obtain ⟨closed, run, hand, idle, yielding, blocked, inrush, minRun, confirm, runLoss, confirmed,
    screen⟩ := p
  exact ⟨closed, run, hand, idle, yielding, blocked,
    fun h => inrush ((advance_eq_none_iff _).not.1 h),
    fun h => minRun ((advance_eq_none_iff _).not.1 h),
    fun h => confirm ((advance_eq_none_iff _).not.1 h),
    fun h => runLoss ((advance_eq_none_iff _).not.1 h), confirmed, screen⟩

theorem RakeSafe.advanceTimers (r : RakeSafe s) : RakeSafe (advanceTimers s) := by
  obtain ⟨motor, run, inrush, pause, stop, before, request, jams⟩ := r
  have same : ∀ x : Timer, (advance x).isSome = true ↔ x.isSome = true := fun x => by
    rw [isSome_advance]
  exact ⟨motor, (same _).trans run, fun h => inrush ((same _).1 h), (same _).trans pause, stop, before,
    request, jams⟩

/-! ### The inputs at a tick -/

/-- The inputs formed for each place in turn, read at one (R27). -/
theorem inputState_map (s : State) (f : Input → InputState) (i : Input) :
    inputState { s with inputs := allInputs.map f } i = f i := by
  cases i <;> rfl

theorem sampleInput_eq (n : Nat) (sample : Bool) (x : InputState) : sampleInput n sample x =
    if sample = x.active then ⟨x.active, 0, false⟩
    else ⟨x.active, x.count + 1, decide (n ≤ x.count + 1)⟩ := rfl

/-- A sample accepts nothing by itself (R27). -/
theorem isActive_sampleInputs (pins : BitVec 15) (s : State) (i : Input) :
    isActive (sampleInputs pins s) i = isActive s i := by
  unfold isActive sampleInputs
  rw [inputState_map, sampleInput_eq]
  split <;> rfl

/-- Settles O6. -/
theorem tickAdvances : Obligations.TickAdvances := by
  intro pins straps s p r c
  have active := isActive_sampleInputs pins s
  have step : tickStep pins straps s = advanceTimers (sampleInputs pins s) := by
    simp only [tickStep, c, if_true]
  have ps : PumpSafe (sampleInputs pins s) := p.congr rfl rfl (stopHold_congr active rfl) rfl
  have rs : RakeSafe (sampleInputs pins s) := r.congr rfl (rakeStop_congr active rfl rfl) rfl
  obtain ⟨t, e, f⟩ := taken_follows (can := true) (f := tickStep pins straps) (s := s) rfl
    (step ▸ ps.advanceTimers) (step ▸ rs.advanceTimers)
  rw [step, advanceTimers, active] at f
  exact ⟨t, e, f⟩

/-! ### The first tick -/

/-- A strap's bit, read from the pins that are LOW (R166). -/
theorem address_strapsOf (pins : BitVec 7) :
    ∀ k < 3, (strapsOf pins).address.val.testBit k = !pins.getLsbD k := by
  intro k lt
  have bit : ((~~~pins).toNat % 2 ^ 3).testBit k = !pins.getLsbD k := by
    rw [Nat.testBit_mod_two_pow, BitVec.testBit_toNat, BitVec.getLsbD_not]
    simp [lt, show k < 7 by omega]
  exact bit

theorem isActive_capture (pins : BitVec 15) (straps : CaptureReadings) (s : State) (i : Input) :
    isActive (capture pins straps s) i = sampleActive pins i :=
  congrArg InputState.active (inputState_map s (fun i => ⟨sampleActive pins i, 0, false⟩) i)

/-- The closing work leaves the Duty Controller of an open pump alone, until the loader finishes. -/
theorem settle_duty_of_open (open_ : s.duty.contactor = false) (l : loaded s = false)
    (starting : s.duty.pump ≠ .starting) (running : s.duty.pump ≠ .running) :
    (settle s).duty = s.duty := by
  rw [settle_duty]
  simp [applyHold, closeInHand, starting, running, openContactor_of_open open_, l]

/-- The first mode and pump state (R58, R59). -/
theorem firstPump_modeOf (off hand : Bool) :
    (off = true → modeOf off hand = .off ∧ firstPump (modeOf off hand) = .outOfService)
      ∧ (off = false → hand = true → modeOf off hand = .hand ∧ firstPump (modeOf off hand) = .hand)
      ∧ (off = false → hand = false →
          modeOf off hand = .auto ∧ firstPump (modeOf off hand) = .lockedOff) := by
  cases off <;> cases hand <;> decide

theorem firstPump_rests (m : PumpMode) : firstPump m ≠ .starting ∧ firstPump m ≠ .running := by
  cases m <;> decide

/-- Settles O8. -/
theorem firstTick : Obligations.FirstTick := by
  intro pins straps s p c
  have notLoaded : loaded s = false := by
    unfold captured at c
    unfold loaded
    simp_all
  have contactor : s.duty.contactor = false := by
    cases closed : s.duty.contactor with
    | false => rfl
    | true =>
      obtain ⟨-, -, l⟩ := p.1 closed
      exact absurd l (by simp [notLoaded])
  have step : tickStep pins straps s = advanceTimers (capture pins straps s) := by
    simp only [tickStep, c, Bool.false_eq_true, if_false]
  have next : exec (.tick pins straps) s = .next (settle (advanceTimers (capture pins straps s))) :=
    step ▸ taken_of_can (tickStep pins straps) s rfl
  have station := settle_station (advanceTimers (capture pins straps s))
  have active : ∀ i, isActive (settle (advanceTimers (capture pins straps s))) i
      = sampleActive pins i := fun i =>
    (station.isActive i).trans (isActive_capture pins straps s i)
  obtain ⟨starting, running⟩ := firstPump_rests
    (modeOf (isActive (capture pins straps s) .modeOff) (isActive (capture pins straps s) .modeHand))
  have duty := settle_duty_of_open (s := advanceTimers (capture pins straps s)) contactor rfl
    starting running
  obtain ⟨off, hand, auto⟩ := firstPump_modeOf (sampleActive pins .modeOff)
    (sampleActive pins .modeHand)
  have mode : (settle (advanceTimers (capture pins straps s))).duty.mode
      = modeOf (sampleActive pins .modeOff) (sampleActive pins .modeHand) := by
    rw [duty]
    rfl
  have pump : (settle (advanceTimers (capture pins straps s))).duty.pump
      = firstPump (modeOf (sampleActive pins .modeOff) (sampleActive pins .modeHand)) := by
    rw [duty]
    rfl
  refine ⟨_, next, ?_⟩
  rw [mode, pump, active, active, station.straps, station.loader, station.chanA, station.chanB,
    station.cfg, station.gate, settle_line, settle_stager, duty]
  refine ⟨address_strapsOf straps.levels, rfl, rfl, rfl, rfl, active, off, hand, auto, contactor, rfl,
    rfl, rfl, rfl, rfl, rfl, rfl, rfl, rfl, rfl, rfl, rfl, rfl⟩

/-! ### Seconds, minutes, stamps -/

/-- A count of seconds that rises to a minute (R87, R116). -/
theorem countSecond_eq (running : Bool) (seconds minutes : Nat) :
    countSecond running seconds minutes =
      (if running then if seconds < 59 then seconds + 1 else 0 else seconds,
       if running = true ∧ 59 ≤ seconds then min (minutes + 1) 65535 else minutes) := by
  unfold countSecond satSucc
  cases running with
  | false => simp
  | true =>
    by_cases h : seconds < 59
    · simp [h, show seconds + 1 < 60 by omega, show ¬59 ≤ seconds by omega]
    · simp [h, show ¬seconds + 1 < 60 by omega, show 59 ≤ seconds by omega]

/-- Settles O12: three events that change no timer and no state of the pump or the rake. -/
theorem timeCounts : Obligations.TimeCounts := by
  refine ⟨fun s p r due => ?_, fun s c p r clock due => ?_, fun s oldest rest p r window due => ?_⟩
  · obtain ⟨t, e, f⟩ := taken_follows (can := decide (100 ≤ s.time.subTicks)) (f := secondStep)
      (s := s) (by simp [due]) p r
    refine ⟨t, e, ?_⟩
    simpa only [secondStep, countSecond_eq, beq_iff_eq] using f
  · have can : clockDue s = true := by simp [clockDue, clock, due]
    have step : minuteStep s = setReporter s { s.reporter with clock := some (nextMinute c) } := by
      rw [minuteStep, clock, Option.map_some]
    obtain ⟨t, e, f⟩ := taken_follows (f := minuteStep) can p r
    rw [step] at f
    exact ⟨t, e, f⟩
  · have can : stampDue s = true := by
      simp only [stampDue, window]
      exact decide_eq_true due
    have step : dropStamp s = setDuty s { s.duty with window := rest } := by
      rw [dropStamp, window]
      rfl
    obtain ⟨t, e, f⟩ := taken_follows (f := dropStamp) can p r
    rw [step] at f
    exact ⟨t, e, f⟩

end Sys2Proof.Machine
end

section
/-! O33 and O34. The level of a count, and a channel at a gate end. -/

namespace Sys2Proof.Machine

open Sys2Proof

/-! ### The level of a count (R33, R34) -/

/-- Below the span a count's level, rounded half up, is no higher than the span's (R34). -/
theorem convert_le {k : Calibration} {count : Nat} (above : k.z < count) (below : count < k.f) :
    convert k count ≤ k.h := by
  have whole : (count - k.z) * k.h ≤ (k.f - k.z) * k.h := Nat.mul_le_mul_right _ (by omega)
  have room : (k.h + 1) * (k.f - k.z) = (k.f - k.z) * k.h + (k.f - k.z) := by ring
  refine Nat.le_of_lt_succ ((Nat.div_lt_iff_lt_mul (by omega)).2 ?_)
  rw [room]
  omega

/-- Settles O33: the five branches of the classification, in the order of the statement. -/
theorem levelOfCount : Obligations.LevelOfCount := by
  intro k count lt
  unfold classify overLimit
  refine ⟨fun zero => if_pos zero, fun beyond => ?_, fun pos low => ?_, fun high fits => ?_,
    fun above below => ⟨?_, convert_le above below⟩⟩
  · rw [if_neg (by omega), if_pos beyond]
  · rw [if_neg (by omega), if_neg (by omega), if_pos low]
  · rw [if_neg (by omega), if_neg (by omega), if_neg (by omega), if_pos high]
  · rw [if_neg (by omega), if_neg (by omega), if_neg (by omega), if_neg (by omega)]
    rfl

/-! ### The filter (R35) -/

/-- `a` divided by 2^k and rounded half up, times 2^k, as `roundShift` has it of a magnitude: within half
of 2^k of `a`, above it at exactly half; and the quotient is no more than `a`. -/
theorem round_near (a k : Nat) :
    (a + 2 ^ k / 2) / 2 ^ k * 2 ^ k * 2 ≤ 2 * a + 2 ^ k
      ∧ 2 * a + (if k = 0 then 0 else 1) ≤ (a + 2 ^ k / 2) / 2 ^ k * 2 ^ k * 2 + 2 ^ k
      ∧ (a + 2 ^ k / 2) / 2 ^ k ≤ a := by
  have pos : 0 < 2 ^ k := Nat.two_pow_pos k
  have lower := Nat.div_mul_le_self (a + 2 ^ k / 2) (2 ^ k)
  have upper := Nat.lt_div_mul_add (a := a + 2 ^ k / 2) pos
  have quotient : (a + 2 ^ k / 2) / 2 ^ k ≤ a := by
    refine Nat.le_of_lt_succ ((Nat.div_lt_iff_lt_mul pos).2 ?_)
    have grow : a.succ * 2 ^ k = a * 2 ^ k + 2 ^ k := Nat.succ_mul a _
    have more : a * 1 ≤ a * 2 ^ k := Nat.mul_le_mul_left a pos
    omega
  generalize (a + 2 ^ k / 2) / 2 ^ k * 2 ^ k = p at lower upper ⊢
  refine ⟨by omega, ?_, quotient⟩
  cases k with
  | zero => simp at upper ⊢; omega
  | succ k => rw [pow_succ] at upper ⊢; simp; omega

/-- The rounded quotient times 2^k, with its magnitude (R35). -/
theorem roundShift_mul (d : Int) (k : Nat) : roundShift d k * 2 ^ k =
    if d < 0 then -(((d.natAbs + 2 ^ k / 2) / 2 ^ k * 2 ^ k : Nat) : Int)
    else (((d.natAbs + 2 ^ k / 2) / 2 ^ k * 2 ^ k : Nat) : Int) := by
  unfold roundShift
  split <;> push_cast <;> ring

/-- The rounding is to the nearest, and away from zero at exactly half (R35). -/
theorem roundShift_near (d : Int) (k : Nat) :
    2 * (d - roundShift d k * 2 ^ k).natAbs ≤ 2 ^ k
      ∧ (2 * (d - roundShift d k * 2 ^ k).natAbs = 2 ^ k →
        d.natAbs < (roundShift d k * 2 ^ k).natAbs) := by
  obtain ⟨low, high, -⟩ := round_near d.natAbs k
  have pos : 0 < 2 ^ k := Nat.two_pow_pos k
  rw [roundShift_mul]
  generalize (d.natAbs + 2 ^ k / 2) / 2 ^ k * 2 ^ k = p at low high ⊢
  by_cases zero : k = 0
  · subst zero
    simp only [pow_zero, if_true] at low high ⊢
    split <;> omega
  · rw [if_neg zero] at high
    split <;> omega

/-- The rounded quotient lies between 0 and the difference (R35). -/
theorem roundShift_between (d : Int) (k : Nat) :
    min 0 d ≤ roundShift d k ∧ roundShift d k ≤ max 0 d := by
  obtain ⟨-, -, quotient⟩ := round_near d.natAbs k
  unfold roundShift
  dsimp only
  generalize (d.natAbs + 2 ^ k / 2) / 2 ^ k = m at quotient ⊢
  split <;> omega

/-- The filtered level moves from the old towards the new one and not beyond it (R35). -/
theorem filterLevel_spec (k e level : Nat) :
    (filterLevel k e level : Int) = e + roundShift ((level : Int) - e) k
      ∧ min e level ≤ filterLevel k e level ∧ filterLevel k e level ≤ max e level := by
  obtain ⟨low, high⟩ := roundShift_between ((level : Int) - e) k
  unfold filterLevel
  omega

/-- The prediction is the level ahead, within the span (R37). -/
theorem predict_eq (c : Calibration) (q e : Nat) (rate : Int) :
    (predict c q e rate : Int) = max 0 (min (c.h : Int) ((e : Int) + rate * q)) := by
  unfold predict clampInt
  generalize (e : Int) + rate * q = ahead
  omega

/-! ### A gate by the state of its channel (R38 to R41, R43) -/

section Gate

variable {c : Calibration} {q level : Nat} {ch : LevelChannel}

/-- What a channel hands at a gate end once its gate has been taken (R43). -/
def handed (ch after : LevelChannel) (good : Bool) : LevelChannel :=
  { after with count := 0, gateGood := good, changed := after.mode != ch.mode }

theorem gateChannel_of_absent (m : ch.mode = .absent) :
    gateChannel c q ch = handed ch ch false := by
  simp [gateChannel, handed, badGate, m]

theorem gateChannel_of_good (m : ch.mode ≠ .absent) (g : classify c ch.count = some level) :
    gateChannel c q ch = handed ch (goodGate c q level ch) true := by
  simp [gateChannel, handed, m, g]

theorem gateChannel_of_bad (g : classify c ch.count = none) :
    gateChannel c q ch = handed ch (badGate ch) false := by
  simp [gateChannel, handed, g]

theorem goodGate_offering (m : ch.mode = .healthy ∨ ch.mode = .suspect) :
    goodGate c q level ch = { updateLevel c q level ch with badRun := 0, mode := .healthy } := by
  rcases m with m | m <;> simp only [goodGate, m]

theorem goodGate_beginning (m : ch.mode = .starting ∨ (ch.mode = .faulted ∧ 2 ≤ ch.goodRun)) :
    goodGate c q level ch = initialise level ch := by
  rcases m with m | ⟨m, run⟩
  · simp only [goodGate, m]
  · simp only [goodGate, m]
    exact if_neg (by omega)

theorem goodGate_recovering (m : ch.mode = .faulted) (run : ch.goodRun < 2) :
    goodGate c q level ch = { ch with goodRun := ch.goodRun + 1 } := by
  simp only [goodGate, m]
  exact if_pos (by omega)

/-- A bad gate leaves the level, the prediction, the rate and the ring (R40). -/
theorem badGate_level (ch : LevelChannel) : (badGate ch).e = ch.e ∧ (badGate ch).p = ch.p
    ∧ (badGate ch).rate = ch.rate ∧ (badGate ch).ring = ch.ring := by
  unfold badGate
  split
  · split <;> exact ⟨rfl, rfl, rfl, rfl⟩
  · exact ⟨rfl, rfl, rfl, rfl⟩
  · split <;> exact ⟨rfl, rfl, rfl, rfl⟩
  · exact ⟨rfl, rfl, rfl, rfl⟩
  · exact ⟨rfl, rfl, rfl, rfl⟩

/-- The runs and states at a bad gate (R39 to R41). -/
theorem badGate_states (ch : LevelChannel) :
    (ch.mode = .healthy → ch.badRun = 0 →
        (badGate ch).mode = .suspect ∧ (badGate ch).badRun = 1)
      ∧ (ch.mode = .suspect → ch.badRun = 1 →
        (badGate ch).mode = .suspect ∧ (badGate ch).badRun = 2)
      ∧ (ch.mode = .suspect → ch.badRun = 2 →
        (badGate ch).mode = .faulted ∧ (badGate ch).goodRun = 0)
      ∧ (ch.mode = .starting → ch.badRun < 2 →
        (badGate ch).mode = .starting ∧ (badGate ch).badRun = ch.badRun + 1)
      ∧ (ch.mode = .starting → ch.badRun = 2 →
        (badGate ch).mode = .faulted ∧ (badGate ch).goodRun = 0)
      ∧ (ch.mode = .faulted → (badGate ch).mode = .faulted ∧ (badGate ch).goodRun = 0) := by
  refine ⟨fun m run => ?_, fun m run => ?_, fun m run => ?_, fun m run => ?_, fun m run => ?_,
    fun m => ?_⟩
  · simp [badGate, m, run]
  · simp [badGate, m, run]
  · simp [badGate, m, run]
  · have early : ch.badRun + 1 < 3 := by omega
    simp [badGate, m, early]
  · simp [badGate, m, run]
  · simp [badGate, m]

/-- What every gate end hands (R31, R43). -/
theorem gateChannel_handed (c : Calibration) (q : Nat) (ch : LevelChannel) :
    (gateChannel c q ch).changed = decide ((gateChannel c q ch).mode ≠ ch.mode)
      ∧ (gateChannel c q ch).count = 0
      ∧ (ch.mode ≠ .absent → (gateChannel c q ch).gateGood = (classify c ch.count).isSome) := by
  have changed : ∀ x : LevelChannel, (x.mode != ch.mode) = decide (x.mode ≠ ch.mode) := fun x => by
    rw [Bool.eq_iff_iff]
    simp
  refine ⟨changed _, rfl, fun m => ?_⟩
  simp [gateChannel, m]

end Gate

/-- Settles O34: a good gate of a channel that offers a level, one that begins or recovers, a bad one. -/
theorem channelAtGate : Obligations.ChannelAtGate := by
  intro c q ch
  obtain ⟨changed, count, good⟩ := gateChannel_handed c q ch
  refine ⟨fun level g m => ?_, fun level g m => ?_, fun level g m run => ?_, fun g => ?_, fun m => ?_,
    good, changed, count⟩
  · have present : ch.mode ≠ .absent := by rcases m with m | m <;> simp [m]
    obtain ⟨sum, low, high⟩ := filterLevel_spec c.k ch.e level
    obtain ⟨near, half⟩ := roundShift_near ((level : Int) - ch.e) c.k
    rw [gateChannel_of_good present g, goodGate_offering m]
    exact ⟨rfl, rfl, rfl, ⟨_, sum, near, half⟩, low, high, rfl, rfl, predict_eq _ _ _ _⟩
  · have present : ch.mode ≠ .absent := by rcases m with m | ⟨m, -⟩ <;> simp [m]
    rw [gateChannel_of_good present g, goodGate_beginning m]
    exact ⟨rfl, rfl, rfl, rfl, rfl, rfl, rfl⟩
  · rw [gateChannel_of_good (by simp [m]) g, goodGate_recovering m run]
    exact ⟨m, rfl, rfl, rfl, rfl, rfl⟩
  · rw [gateChannel_of_bad g]
    obtain ⟨healthy, suspect, lost, starting, never, faulted⟩ := badGate_states ch
    exact ⟨healthy, suspect, lost, starting, never, faulted, badGate_level ch⟩
  · rw [gateChannel_of_absent m]
    exact ⟨m, rfl⟩

end Sys2Proof.Machine
end

section
/-! The pump at rest after a stop, and O40: the expiries of a run. -/

namespace Sys2Proof.Machine

open Sys2Proof

variable {s t : State}

/-! ### A pump at rest -/

/-- The contactor is open and no timer of a run is left (R62). -/
def Unrun (d : Duty) : Prop :=
  d.contactor = false ∧ d.inrush = none ∧ d.confirm = none ∧ d.runLoss = none ∧ d.minRun = none
  ∧ d.confirmed = false ∧ d.yielding = false ∧ d.changeoverBlocked = false

/-- A safe pump whose contactor is open has nothing of a run left. -/
theorem PumpSafe.unrun (p : PumpSafe s) (contactor : s.duty.contactor = false) : Unrun s.duty := by
  obtain ⟨-, run, -, -, yielding, blocked, inrush, minRun, confirm, runLoss, confirmed, -⟩ := p
  have notRun : ¬(s.duty.pump = .starting ∨ s.duty.pump = .running) := fun r =>
    absurd (run r) (by simp [contactor])
  have notYielding : s.duty.yielding = false :=
    Bool.eq_false_iff.2 fun y => notRun (.inr (yielding y))
  have notConfirmed : s.duty.confirmed = false := Bool.eq_false_iff.2 fun c => notRun (confirmed c)
  refine ⟨contactor, ?_, ?_, ?_, ?_, notConfirmed, notYielding, ?_⟩
  · exact not_not.1 fun h => absurd (inrush h) (by simp [contactor])
  · exact not_not.1 fun h => notRun (.inl (confirm h).1)
  · exact not_not.1 fun h => absurd (runLoss h) (by simp [notConfirmed])
  · exact not_not.1 fun h => notRun (minRun h)
  · exact Bool.eq_false_iff.2 fun b => absurd (blocked b) (by simp [notYielding])

/-- The contactor's opening leaves nothing of a run (R62). -/
theorem openContactor_unrun (p : PumpSafe s) (same : t.duty = s.duty) :
    Unrun (openContactor t).duty := by
  cases c : t.duty.contactor with
  | true =>
    rw [openContactor_of_closed c]
    exact ⟨rfl, rfl, rfl, rfl, rfl, rfl, rfl, rfl⟩
  | false =>
    rw [openContactor_of_open c, same]
    exact p.unrun (same ▸ c)

/-- A pump with nothing of a run left, in no running state, is safe. -/
theorem Unrun.safe (u : Unrun s.duty) (starting : s.duty.pump ≠ .starting)
    (running : s.duty.pump ≠ .running) (hand : s.duty.pump = .hand → stopHold s = true ∨ loaded s = false)
    (idle : s.duty.pump = .idle ∨ s.duty.pump = .startWait → loaded s = true) : PumpSafe s := by
  obtain ⟨contactor, inrush, confirm, runLoss, minRun, confirmed, yielding, blocked⟩ := u
  refine ⟨by simp [contactor], by simp [starting, running], fun h hold l => ?_, idle, by simp [yielding],
    by simp [blocked], by simp [inrush], by simp [minRun], by simp [confirm], by simp [runLoss],
    by simp [confirmed], fun _ => ⟨starting, running⟩⟩
  rcases hand h with e | e
  · exact absurd e (by simp [hold])
  · exact absurd e (by simp [l])

/-- An entry to LOCKED_OFF (R63) leaves the pump at rest, whatever else of the state has changed before
it. -/
theorem enterLockedOff_safe (p : PumpSafe s) (same : t.duty = s.duty) : PumpSafe (enterLockedOff t) := by
  have u := openContactor_unrun p same
  have l : loaded (enterLockedOff t) = loaded t := (enterLockedOff_onlyDuty t).station.loaded
  obtain ⟨e, -⟩ | ⟨e, -, finished⟩ := enterLockedOff_cases t
  · rw [e]
    exact Unrun.safe (s := setPump (openContactor t) .lockedOff) u nofun nofun nofun
      (by rintro (h | h) <;> exact nomatch h)
  · have finished : loaded (enterIdle (openContactor t)) = true := e ▸ l.trans finished
    rw [e]
    exact Unrun.safe (s := enterIdle (openContactor t)) u nofun nofun nofun fun _ => finished

theorem fallbackStop_safe (p : PumpSafe s) : PumpSafe (fallbackStop s) := by
  unfold fallbackStop
  split
  · exact enterLockedOff_safe p rfl
  · exact p

/-- The closing work leaves a safe pump's Duty Controller as it is. -/
theorem settle_duty_of_safe (p : PumpSafe s) : (settle s).duty = s.duty := by
  rw [settle_duty, applyHold_of_safe p]

/-- A running pump's entry to LOCKED_OFF (R63): through to IDLE at a T_minoff of 0. -/
theorem enterLockedOff_of_closed (c : s.duty.contactor = true) (l : loaded s = true) :
    (enterLockedOff s).duty = { s.duty with
      pump := if s.cfg.tMinOff = 0 then .idle else .lockedOff
      contactor := false, minOff := if s.cfg.tMinOff = 0 then none else some 0
      inrush := none, confirm := none, runLoss := none, minRun := none, contRun := 0
      confirmed := false, yielding := false, changeover := 0, changeoverBlocked := false
      fallbackDelay := if s.cfg.tMinOff = 0 ∧ s.stager.localCall = true then startedDelay s
        else s.duty.fallbackDelay } := by
  have opened := openContactor_of_closed c
  have minOff : (openContactor s).duty.minOff = if s.cfg.tMinOff = 0 then none else some 0 := by
    rw [opened]
    rfl
  obtain ⟨e, stays⟩ | ⟨e, passes, -⟩ := enterLockedOff_cases s
  · have z : s.cfg.tMinOff ≠ 0 := fun z => stays ⟨by rw [minOff, if_pos z], l⟩
    rw [e, opened]
    simp [setPump, setDuty, startedMinOff, z]
  · have z : s.cfg.tMinOff = 0 := by
      rw [minOff] at passes
      by_contra z
      simp [z] at passes
    rw [e, opened]
    simp [enterIdle, setDuty, startedMinOff, startedDelay, ownAddress, z]

/-- A pump in STARTING or RUNNING has its contactor closed, the loader finished and no stop hold. -/
theorem PumpSafe.closed (p : PumpSafe s) (run : s.duty.pump = .starting ∨ s.duty.pump = .running) :
    s.duty.contactor = true ∧ stopHold s = false ∧ loaded s = true := by
  obtain ⟨closed, runs, -⟩ := p
  have c := runs run
  obtain ⟨-, hold, l⟩ := closed c
  exact ⟨c, hold, l⟩

/-! ### The expiries of a run -/

/-- The minimum run timer's expiry (R75) leaves the pump safe. -/
theorem PumpSafe.endMinRun (p : PumpSafe s) :
    PumpSafe (setDuty s { s.duty with minRun := none }) := by
  obtain ⟨closed, run, hand, idle, yielding, blocked, inrush, -, rest⟩ := p
  exact ⟨closed, run, hand, idle, yielding, blocked, inrush, fun h => absurd rfl h, rest⟩

/-- The fallback stop (R86) where the minimum run timer has just expired. -/
theorem fallbackStop_endMinRun (s : State) :
    fallbackStop (setDuty s { s.duty with minRun := none }) =
      if s.line.mode = .lineFault ∧ s.duty.pump = .running ∧ s.stager.localCall = false then
        enterLockedOff (setDuty s { s.duty with minRun := none })
      else setDuty s { s.duty with minRun := none } := by
  simp [fallbackStop, minRunExpired, and_assoc]

/-- Settles O40. -/
theorem runTimersExpire : Obligations.RunTimersExpire := by
  refine ⟨fun s p r running bound long => ?_, fun s p r yielding long => ?_,
    fun s n p r minRun long => ?_, fun s n p r delay long => ?_⟩
  · unfold exec execMaxrunReached
    refine taken_follows (f := fun s => setDuty s { s.duty with yielding := true })
      (by simp [running, bound, minutesTicks, long]) ?_ r
    obtain ⟨closed, run, hand, idle, -, -, rest⟩ := p
    exact ⟨closed, run, hand, idle, fun _ => running, fun _ => rfl, rest⟩
  · have limit : changeoverLimit ≤ s.duty.changeover := long
    unfold exec execChangeoverTimerExpiry
    refine taken_follows (f := fun s => setDuty s { s.duty with changeoverBlocked := true })
      (by simp [yielding, limit]) ?_ r
    obtain ⟨closed, run, hand, idle, runs, -, rest⟩ := p
    exact ⟨closed, run, hand, idle, runs, fun _ => yielding, rest⟩
  · have can : reached s.duty.minRun (secondsTicks s.cfg.tMinRun) = true :=
      (reached_iff _ _).2 ⟨n, minRun, long⟩
    have e := fallbackStop_endMinRun s
    unfold exec execMinRunExpiry
    refine ⟨_, taken_of_can (fun s => fallbackStop (setDuty s { s.duty with minRun := none })) s can,
      fun fault running call => ?_, fun other => ?_⟩
    · obtain ⟨c, -, l⟩ := p.closed (.inr running)
      have safe := enterLockedOff_safe (t := setDuty s { s.duty with minRun := none }) p.endMinRun rfl
      rw [e, if_pos ⟨fault, running, call⟩, settle_duty_of_safe safe,
        enterLockedOff_of_closed (by exact c) (by exact l)]
      exact ⟨rfl, rfl⟩
    · rw [e, if_neg other]
      exact settle_follows p.endMinRun r
  · unfold exec execFallbackDelayExpiry
    refine taken_follows (f := fun s => setDuty s { s.duty with fallbackDelay := .expired }) ?_ p r
    simp only [delayPassed, delay]
    exact decide_eq_true long

end Sys2Proof.Machine
end

section
/-! SUPPORT. The screen judged and the weir's gate: what each operation can reach, what it keeps of the
pump's and the rake's safety, and what it is formed of. -/

namespace Sys2Proof.Machine

open Sys2Proof

variable {s t u : State}

/-! ### The screen judged (chapter 5) -/

theorem setScreen_onlyClosing (s : State) (g : Screen) : OnlyClosing s (setScreen s g) := rfl

/-- The rake with its motor, timers and jam count is as it was. -/
def SameRake (g h : Screen) : Prop :=
  h.motor = g.motor ∧ h.rake = g.rake ∧ h.rakeRun = g.rakeRun ∧ h.rakeInrush = g.rakeInrush
  ∧ h.pause = g.pause ∧ h.jams = g.jams

theorem SameRake.trans {g h i : Screen} (a : SameRake g h) (b : SameRake h i) : SameRake g i := by
  obtain ⟨motor, rake, run, inrush, pause, jams⟩ := a
  obtain ⟨motor', rake', run', inrush', pause', jams'⟩ := b
  exact ⟨motor'.trans motor, rake'.trans rake, run'.trans run, inrush'.trans inrush, pause'.trans pause,
    jams'.trans jams⟩

/-- What judging the screen can do (R89 to R95): it reaches no more than the closing work of an event,
leaves the rake and the pump's mode, and keeps the pump safe. -/
structure Judged (s t : State) : Prop where
  only : OnlyClosing s t
  rake : SameRake s.screen t.screen
  mode : t.duty.mode = s.duty.mode
  safe : PumpSafe s → PumpSafe t

theorem Judged.refl (s : State) : Judged s s := ⟨rfl, ⟨rfl, rfl, rfl, rfl, rfl, rfl⟩, rfl, id⟩

theorem Judged.trans (h : Judged s t) (k : Judged t u) : Judged s u :=
  ⟨h.only.trans k.only, h.rake.trans k.rake, k.mode.trans h.mode, fun p => k.safe (h.safe p)⟩

theorem Judged.of_ite {p : Prop} [Decidable p] {a b : State} (h : Judged s a) (k : Judged s b) :
    Judged s (if p then a else b) := by
  split <;> assumption

/-- A change of the screen's record beside its condition and its rake. -/
theorem setScreen_judged {g : Screen} (rake : SameRake s.screen g)
    (condition : g.condition = s.screen.condition) : Judged s (setScreen s g) :=
  ⟨rfl, rake, rfl, fun p => p.congr rfl condition rfl rfl⟩

theorem enterLockedOff_mode (s : State) : (enterLockedOff s).duty.mode = s.duty.mode := by
  obtain ⟨e, -⟩ | ⟨e, -⟩ := enterLockedOff_cases s <;> rw [e] <;> exact openContactor_mode s

/-- The screen's record at a change of its condition (R94). -/
def conditioned (c : ScreenCondition) (g : Screen) : Screen :=
  if g.condition = c then g
  else { g with condition := c, highAlarm := if c = .high then some 0 else none, screenHigh := false }

theorem setCondition_screen (c : ScreenCondition) (s : State) :
    (setCondition c s).screen = conditioned c s.screen := by
  unfold setCondition conditioned
  split
  · rfl
  · dsimp only
    split
    · rw [stopAutomatic_screen]
      rfl
    · rfl

theorem conditioned_rake (c : ScreenCondition) (g : Screen) : SameRake g (conditioned c g) := by
  unfold conditioned
  split <;> exact ⟨rfl, rfl, rfl, rfl, rfl, rfl⟩

/-- A change of condition (R80, R94) stops a running pump where it is to BLOCKED, which keeps it safe. -/
theorem setCondition_safe (c : ScreenCondition) (p : PumpSafe s) : PumpSafe (setCondition c s) := by
  unfold setCondition
  dsimp only
  split
  · exact p
  · split
    · generalize e : setScreen s _ = v
      have same : v.duty = s.duty := by rw [← e]; rfl
      obtain ⟨-, stop⟩ | ⟨rests, stop⟩ := stopAutomatic_cases v <;> rw [stop]
      · exact enterLockedOff_safe p same
      · subst e
        obtain ⟨closed, run, hand, idle, yielding, blocked, inrush, minRun, confirm, runLoss, confirmed,
          -⟩ := p
        exact ⟨closed, run, hand, idle, yielding, blocked, inrush, minRun, confirm, runLoss, confirmed,
          fun _ => not_or.1 rests⟩
    · rename_i other
      obtain ⟨closed, run, hand, idle, yielding, blocked, inrush, minRun, confirm, runLoss, confirmed,
        -⟩ := p
      exact ⟨closed, run, hand, idle, yielding, blocked, inrush, minRun, confirm, runLoss, confirmed,
        fun h => absurd h other⟩

theorem stopAutomatic_mode (s : State) : (stopAutomatic s).duty.mode = s.duty.mode := by
  obtain ⟨-, e⟩ | ⟨-, e⟩ := stopAutomatic_cases s <;> rw [e]
  exact enterLockedOff_mode s

theorem setCondition_judged (c : ScreenCondition) (s : State) : Judged s (setCondition c s) := by
  refine ⟨?_, ?_, ?_, setCondition_safe c⟩
  · unfold setCondition
    dsimp only
    split
    · rfl
    · split
      · exact (setScreen_onlyClosing s _).trans (stopAutomatic_onlyDuty _).onlyClosing
      · exact setScreen_onlyClosing s _
  · rw [setCondition_screen]
    exact conditioned_rake c _
  · unfold setCondition
    dsimp only
    split
    · rfl
    · split
      · exact stopAutomatic_mode _
      · rfl

theorem findSwitch_judged (s : State) : Judged s (findSwitch s) :=
  .of_ite (Judged.trans (t := setScreen s _)
    (setScreen_judged (by exact ⟨rfl, rfl, rfl, rfl, rfl, rfl⟩) (by rfl))
      (.of_ite (setCondition_judged _ _) (.refl _)))
    (setScreen_judged (by exact ⟨rfl, rfl, rfl, rfl, rfl, rfl⟩) (by rfl))

theorem leaveSensing_judged (s : State) : Judged s (leaveSensing s) :=
  (setCondition_judged _ s).trans (setScreen_judged (by exact ⟨rfl, rfl, rfl, rfl, rfl, rfl⟩) (by rfl))

theorem enterSensing_judged (m : SensingMode) (s : State) : Judged s (enterSensing m s) :=
  Judged.trans (t := setScreen s { s.screen with sensing := some m })
    (setScreen_judged (by exact ⟨rfl, rfl, rfl, rfl, rfl, rfl⟩) (by rfl))
    (.of_ite (findSwitch_judged _) (.refl _))

theorem handOn_screen (s : State) : (handOn s).screen = s.screen :=
  (takeCodes_screen _ _).trans (takeCodes_screen _ _)

theorem handOn_duty (s : State) : (handOn s).duty = s.duty :=
  (takeCodes_duty _ _).trans (takeCodes_duty _ _)

theorem handOn_judged (s : State) : Judged s (handOn s) := by
  have k := handOn_onlyClosing s
  have screen := handOn_screen s
  refine ⟨k, by rw [screen]; exact ⟨rfl, rfl, rfl, rfl, rfl, rfl⟩, by rw [handOn_duty], fun p => ?_⟩
  exact p.congr (handOn_duty s) (by rw [screen]) (stopHold_congr k.station.isActive k.line)
    k.station.loaded

theorem chooseSensing_judged (s : State) : Judged s (chooseSensing s) :=
  .of_ite (.refl s) ((leaveSensing_judged s).trans
    ((handOn_judged _).trans (enterSensing_judged _ _)))

theorem diffGate_judged (s : State) : Judged s (diffGate s) :=
  Judged.trans (t := setScreen s _)
    (setScreen_judged (by exact ⟨rfl, rfl, rfl, rfl, rfl, rfl⟩) (by rfl)) (setCondition_judged _ _)

theorem expireInterval_judged (s : State) : Judged s (expireInterval s) :=
  .of_ite (setScreen_judged (by exact ⟨rfl, rfl, rfl, rfl, rfl, rfl⟩) (by rfl)) (.refl s)

theorem retakeFlush_judged (s : State) : Judged s (retakeFlush s) :=
  Judged.trans (t := setScreen s _)
    (setScreen_judged (by exact ⟨rfl, rfl, rfl, rfl, rfl, rfl⟩) (by rfl)) (expireInterval_judged _)

/-- The Screen Controller's work at a gate end. -/
theorem screenGate_judged (s : State) : Judged s (screenGate s) := by
  have choose : ∀ (b : Bool) (v : State), Judged v (if b then chooseSensing v else v) := fun _ v =>
    .of_ite (chooseSensing_judged v) (.refl v)
  have diff : ∀ v : State, Judged v (if v.screen.sensing = some .diff then diffGate v else v) :=
    fun v => .of_ite (diffGate_judged v) (.refl v)
  exact (choose _ s).trans ((diff _).trans (retakeFlush_judged _))

/-! ### What the judgement of the screen is formed of -/

/-- All that the Screen Controller sees is the same: its own record, the settings, the channels, the line
and the inputs. -/
structure SameSight (s t : State) : Prop where
  screen : t.screen = s.screen
  cfg : t.cfg = s.cfg
  chanA : t.chanA = s.chanA
  chanB : t.chanB = s.chanB
  line : t.line = s.line
  inputs : t.inputs = s.inputs

theorem SameSight.isActive (h : SameSight s t) (i : Input) : isActive t i = isActive s i := by
  unfold Machine.isActive inputState
  rw [h.inputs]

theorem SameSight.after {f : State → State} (h : SameSight s t) (only : ∀ v, OnlyClosing v (f v))
    (screen : (f t).screen = (f s).screen) : SameSight (f s) (f t) :=
  ⟨screen, (only t).cfg.trans (h.cfg.trans (only s).cfg.symm),
    (only t).chanA.trans (h.chanA.trans (only s).chanA.symm),
    (only t).chanB.trans (h.chanB.trans (only s).chanB.symm),
    (only t).line.trans (h.line.trans (only s).line.symm),
    (only t).inputs.trans (h.inputs.trans (only s).inputs.symm)⟩

theorem SameSight.setScreen (h : SameSight s t) (g : Screen) :
    SameSight (setScreen s g) (setScreen t g) :=
  ⟨rfl, h.cfg, h.chanA, h.chanB, h.line, h.inputs⟩

theorem SameSight.setCondition (h : SameSight s t) (c : ScreenCondition) :
    SameSight (setCondition c s) (setCondition c t) :=
  h.after (fun v => (setCondition_judged c v).only) (by rw [setCondition_screen, setCondition_screen,
    h.screen])

theorem SameSight.findSwitch (h : SameSight s t) : SameSight (findSwitch s) (findSwitch t) := by
  have found : ∀ {v w : State}, SameSight v w → SameSight
      (if v.screen.condition = .unknown ∨ v.screen.condition = .clear then
        Machine.setCondition .high v else v)
      (if w.screen.condition = .unknown ∨ w.screen.condition = .clear then
        Machine.setCondition .high w else w) := fun {v w} k => by
    rw [k.screen]
    split
    · exact k.setCondition _
    · exact k
  unfold Machine.findSwitch
  rw [h.isActive, h.screen]
  split
  · exact found (h.setScreen _)
  · exact h.setScreen _

theorem SameSight.leaveSensing (h : SameSight s t) : SameSight (leaveSensing s) (leaveSensing t) := by
  have k := h.setCondition .unknown
  unfold Machine.leaveSensing
  dsimp only
  rw [k.screen]
  exact k.setScreen _

theorem SameSight.enterSensing (h : SameSight s t) (m : SensingMode) :
    SameSight (enterSensing m s) (enterSensing m t) := by
  unfold Machine.enterSensing
  rw [h.screen]
  dsimp only
  split
  · exact (h.setScreen _).findSwitch
  · exact h.setScreen _

theorem SameSight.handOn (h : SameSight s t) : SameSight (handOn s) (handOn t) :=
  h.after handOn_onlyClosing (by rw [handOn_screen, handOn_screen, h.screen])

theorem SameSight.sensingOf (h : SameSight s t) : sensingOf t = sensingOf s := by
  unfold Machine.sensingOf
  rw [h.chanA, h.chanB, h.cfg]

theorem SameSight.chooseSensing (h : SameSight s t) : SameSight (chooseSensing s) (chooseSensing t) := by
  unfold Machine.chooseSensing
  rw [h.sensingOf, h.screen]
  dsimp only
  split
  · exact h
  · exact h.leaveSensing.handOn.enterSensing _

theorem SameSight.diffGate (h : SameSight s t) : SameSight (diffGate s) (diffGate t) := by
  have judged : ∀ {v w : State}, SameSight v w → diffCondition w = diffCondition v := fun k => by
    unfold diffCondition dwellGates
    rw [k.screen, k.cfg]
  unfold Machine.diffGate
  rw [h.chanA, h.chanB, h.screen, h.cfg]
  dsimp only
  rw [judged (h.setScreen _)]
  exact (h.setScreen _).setCondition _

theorem SameSight.expireInterval (h : SameSight s t) :
    SameSight (expireInterval s) (expireInterval t) := by
  have reached : intervalReached t = intervalReached s := by
    unfold intervalReached intervalInUse
    rw [h.screen, h.cfg]
  unfold Machine.expireInterval
  rw [reached, h.screen]
  split
  · exact h.setScreen _
  · exact h

theorem SameSight.retakeFlush (h : SameSight s t) : SameSight (retakeFlush s) (retakeFlush t) := by
  have flush : inFlush t = inFlush s := by
    unfold inFlush cellUsed
    rw [h.cfg, h.chanA, h.line]
  unfold Machine.retakeFlush
  rw [h.screen, flush]
  exact (h.setScreen _).expireInterval

/-- The Screen Controller's work at a gate end is formed of what it sees. -/
theorem SameSight.screenGate (h : SameSight s t) : SameSight (screenGate s) (screenGate t) := by
  have choose : SameSight (if s.chanA.changed || s.chanB.changed then Machine.chooseSensing s else s)
      (if t.chanA.changed || t.chanB.changed then Machine.chooseSensing t else t) := by
    rw [h.chanA, h.chanB]
    split
    · exact h.chooseSensing
    · exact h
  have diff : ∀ {v w : State}, SameSight v w →
      SameSight (if v.screen.sensing = some .diff then Machine.diffGate v else v)
        (if w.screen.sensing = some .diff then Machine.diffGate w else w) := fun {v w} k => by
    rw [k.screen]
    split
    · exact k.diffGate
    · exact k
  exact (diff choose).retakeFlush

/-! ### The rake served -/

/-- A rake that was safe before its screen was judged: the rake stop has nothing to do, and once its
request has been served it is safe again (R97, R102). -/
theorem RakeSafe.served (r : RakeSafe s) (rake : SameRake s.screen t.screen)
    (stop : rakeStop t = rakeStop s) (l : loaded t = loaded s) :
    applyRakeStop t = t ∧ RakeSafe (serveRequest t) := by
  obtain ⟨motor, run, inrush, pause, stopped, before, -, jams⟩ := r
  obtain ⟨sameMotor, sameRake, sameRun, sameInrush, samePause, sameJams⟩ := rake
  rw [← sameMotor, ← sameRake] at motor
  rw [← sameRun, ← sameRake] at run
  rw [← sameInrush, ← sameRake] at inrush
  rw [← samePause, ← sameRake] at pause
  rw [← stop, ← sameRake] at stopped
  rw [← l, ← sameRake] at before
  rw [← sameJams, ← sameRake] at jams
  constructor
  · unfold applyRakeStop
    split
    · rename_i h
      rcases stopped h with e | e <;> simp [e]
    · rfl
  · unfold serveRequest
    split
    · rename_i g
      simp only [Bool.and_eq_true, beq_iff_eq, Bool.not_eq_true'] at g
      obtain ⟨⟨⟨idle, -⟩, free⟩, finished⟩ := g
      rw [idle] at motor run inrush pause jams
      have free' : rakeStop (setScreen t { t.screen with rake := .wait }) = false := free
      have finished' : loaded (setScreen t { t.screen with rake := .wait }) = true := finished
      refine ⟨?_, ?_, ?_, ?_, ?_, ?_, ?_, ?_⟩
      · simpa using motor
      · simpa using run
      · simpa using inrush
      · simpa using pause
      · simp [free']
      · simp [finished']
      · simp
      · simpa using jams
    · rename_i g
      refine ⟨motor, run, inrush, pause, stopped, before, fun idle requested finished => ?_, jams⟩
      by_contra free
      exact g (by simp [idle, requested, finished, Bool.eq_false_iff.2 free])

/-! ### The weir's gate (chapter 6) -/

/-- Only the Overflow Monitor differs. -/
def OnlyOvf (s t : State) : Prop := t = setOvf s t.ovf

theorem OnlyOvf.refl (s : State) : OnlyOvf s s := rfl

theorem setOvf_onlyOvf (s : State) (o : Overflow) : OnlyOvf s (setOvf s o) := rfl

theorem OnlyOvf.trans (h : OnlyOvf s t) (k : OnlyOvf t u) : OnlyOvf s u :=
  Eq.trans k ((congrArg (fun x => setOvf x u.ovf) (show t = setOvf s t.ovf from h)).trans rfl)

theorem OnlyOvf.of_ite {p : Prop} [Decidable p] {a b : State} (h : OnlyOvf s a) (k : OnlyOvf s b) :
    OnlyOvf s (if p then a else b) := by
  split <;> assumption

theorem OnlyOvf.time (h : OnlyOvf s t) : t.time = s.time := (congrArg (·.time) h).trans rfl
theorem OnlyOvf.inputs (h : OnlyOvf s t) : t.inputs = s.inputs := (congrArg (·.inputs) h).trans rfl
theorem OnlyOvf.loader (h : OnlyOvf s t) : t.loader = s.loader := (congrArg (·.loader) h).trans rfl
theorem OnlyOvf.cfg (h : OnlyOvf s t) : t.cfg = s.cfg := (congrArg (·.cfg) h).trans rfl
theorem OnlyOvf.causeCfg (h : OnlyOvf s t) : t.causeCfg = s.causeCfg :=
  (congrArg (·.causeCfg) h).trans rfl
theorem OnlyOvf.line (h : OnlyOvf s t) : t.line = s.line := (congrArg (·.line) h).trans rfl
theorem OnlyOvf.gate (h : OnlyOvf s t) : t.gate = s.gate := (congrArg (·.gate) h).trans rfl
theorem OnlyOvf.chanA (h : OnlyOvf s t) : t.chanA = s.chanA := (congrArg (·.chanA) h).trans rfl
theorem OnlyOvf.chanB (h : OnlyOvf s t) : t.chanB = s.chanB := (congrArg (·.chanB) h).trans rfl
theorem OnlyOvf.stager (h : OnlyOvf s t) : t.stager = s.stager := (congrArg (·.stager) h).trans rfl
theorem OnlyOvf.duty (h : OnlyOvf s t) : t.duty = s.duty := (congrArg (·.duty) h).trans rfl
theorem OnlyOvf.screen (h : OnlyOvf s t) : t.screen = s.screen := (congrArg (·.screen) h).trans rfl
theorem OnlyOvf.isActive (h : OnlyOvf s t) (i : Input) : isActive t i = isActive s i := by
  unfold Machine.isActive inputState
  rw [h.inputs]
theorem OnlyOvf.loaded (h : OnlyOvf s t) : loaded t = loaded s := by
  unfold Machine.loaded
  rw [h.loader]

/-- The Overflow Monitor's work keeps the pump safe. -/
theorem OnlyOvf.pumpSafe (h : OnlyOvf s t) (p : PumpSafe s) : PumpSafe t :=
  p.congr h.duty (congrArg (·.condition) h.screen) (stopHold_congr h.isActive h.line) h.loaded

theorem answerSource_onlyOvf (s : State) : OnlyOvf s (answerSource s) := by
  unfold answerSource
  split <;> split <;> rfl

theorem retakeSource_onlyOvf (s : State) : OnlyOvf s (retakeSource s) :=
  .of_ite (.refl s) ((setOvf_onlyOvf s _).trans (answerSource_onlyOvf _))

theorem formHead_onlyOvf (s : State) : OnlyOvf s (formHead s) := by
  unfold formHead
  split <;> rfl

theorem integrate_onlyOvf (s : State) : OnlyOvf s (integrate s) := .of_ite rfl (.of_ite rfl rfl)

theorem updateEvent_onlyOvf (s : State) : OnlyOvf s (updateEvent s) := by
  have gate : ∀ v : State, OnlyOvf v (if v.ovf.prevGateOpen then integrate v else v) := fun v =>
    .of_ite (integrate_onlyOvf v) (.refl v)
  have peak : ∀ v : State, OnlyOvf v (if v.chanA.mode = .healthy then
      setOvf v { v.ovf with peak := max v.ovf.peak v.ovf.head } else v) := fun v => .of_ite rfl rfl
  exact .of_ite ((peak s).trans (gate _)) (.refl s)

/-- The Overflow Monitor's work at a gate end reaches nothing else. -/
theorem overflowGate_onlyOvf (s : State) : OnlyOvf s (overflowGate s) := by
  have event : ∀ (b : Bool) (v : State),
      OnlyOvf v (if b then v else updateEvent (retakeSource v)) := fun _ v =>
    .of_ite (.refl v) ((retakeSource_onlyOvf v).trans (updateEvent_onlyOvf _))
  exact .of_ite (.refl s) (((formHead_onlyOvf s).trans (setOvf_onlyOvf _ _)).trans
    ((event _ _).trans (setOvf_onlyOvf _ _)))

/-- All that the Overflow Monitor sees is the same: its own record, the time, the inputs, the straps, the
settings and channel A. -/
structure SameWeir (s t : State) : Prop where
  ovf : t.ovf = s.ovf
  time : t.time = s.time
  inputs : t.inputs = s.inputs
  straps : t.straps = s.straps
  cfg : t.cfg = s.cfg
  chanA : t.chanA = s.chanA

theorem SameWeir.setOvf (h : SameWeir s t) (o : Overflow) : SameWeir (setOvf s o) (setOvf t o) :=
  ⟨rfl, h.time, h.inputs, h.straps, h.cfg, h.chanA⟩

theorem SameWeir.answerSource (h : SameWeir s t) : SameWeir (answerSource s) (answerSource t) := by
  unfold Machine.answerSource
  rw [h.ovf, h.time]
  split
  · split
    · exact h.setOvf _
    · exact h.setOvf _
    · exact h
    · exact h
  · split
    · exact h.setOvf _
    · exact h.setOvf _
    · exact h
    · exact h

theorem SameWeir.retakeSource (h : SameWeir s t) : SameWeir (retakeSource s) (retakeSource t) := by
  have source : headSource t = headSource s := by
    unfold headSource isActive inputState
    rw [h.ovf, h.cfg, h.inputs]
  unfold Machine.retakeSource
  rw [source, h.ovf]
  dsimp only
  split
  · exact h
  · exact (h.setOvf _).answerSource

theorem SameWeir.formHead (h : SameWeir s t) : SameWeir (formHead s) (formHead t) := by
  unfold Machine.formHead
  rw [h.chanA, h.cfg, h.ovf]
  cases s.chanA.mode with
  | suspect => exact h
  | _ => exact h.setOvf _

theorem SameWeir.integrate (h : SameWeir s t) : SameWeir (integrate s) (integrate t) := by
  unfold Machine.integrate
  rw [h.ovf, h.chanA, h.cfg]
  split
  · exact h.setOvf _
  · split
    · exact h.setOvf _
    · exact h.setOvf _

theorem SameWeir.updateEvent (h : SameWeir s t) : SameWeir (updateEvent s) (updateEvent t) := by
  have gate : ∀ {v w : State}, SameWeir v w → SameWeir
      (if v.ovf.prevGateOpen then Machine.integrate v else v)
      (if w.ovf.prevGateOpen then Machine.integrate w else w) := fun {v w} k => by
    rw [k.ovf]
    split
    · exact k.integrate
    · exact k
  have peak : SameWeir
      (if s.chanA.mode = .healthy then
        Machine.setOvf s { s.ovf with peak := max s.ovf.peak s.ovf.head } else s)
      (if t.chanA.mode = .healthy then
        Machine.setOvf t { t.ovf with peak := max t.ovf.peak t.ovf.head } else t) := by
    rw [h.chanA, h.ovf]
    split
    · exact h.setOvf _
    · exact h
  unfold Machine.updateEvent
  rw [show overflowOpen t.ovf = overflowOpen s.ovf by rw [h.ovf]]
  split
  · exact gate peak
  · exact h

/-- The Overflow Monitor's work at a gate end is formed of what it sees. -/
theorem SameWeir.overflowGate (h : SameWeir s t) : SameWeir (overflowGate s) (overflowGate t) := by
  have blind : ∀ {v w : State}, SameWeir v w → blindNow w = blindNow v := fun k => by
    unfold blindNow
    rw [k.cfg, k.chanA]
  have event : ∀ (b : Bool) {v w : State}, SameWeir v w → SameWeir
      (if b then v else Machine.updateEvent (Machine.retakeSource v))
      (if b then w else Machine.updateEvent (Machine.retakeSource w)) := fun b {v w} k => by
    cases b
    · exact k.retakeSource.updateEvent
    · exact k
  have mark : ∀ {v w : State}, SameWeir v w → SameWeir
      (Machine.setOvf v { v.ovf with prevGateOpen := overflowOpen v.ovf })
      (Machine.setOvf w { w.ovf with prevGateOpen := overflowOpen w.ovf }) := fun {v w} k => by
    rw [k.ovf]
    exact k.setOvf _
  have k := h.formHead
  unfold Machine.overflowGate
  rw [h.straps]
  split
  · exact h
  · dsimp only
    rw [blind k, k.ovf]
    exact mark (event _ (k.setOvf _))

end Sys2Proof.Machine
end

section
/-! O35. A pulse, and a gate end with its readers in turn. -/

namespace Sys2Proof.Machine

open Sys2Proof

variable {s t : State}

/-! ### The local demand re-formed -/

/-- Outside LINE_FAULT, or before the loader finishes, no local demand is formed (R44, R56). -/
theorem reformLocal_of_other (h : ¬(s.line.mode = .lineFault ∧ loaded s = true)) : reformLocal s = s := by
  unfold reformLocal
  rw [if_neg (by simpa using h)]

theorem fallbackStop_mode (s : State) : (fallbackStop s).duty.mode = s.duty.mode := by
  unfold fallbackStop
  split
  · exact enterLockedOff_mode s
  · rfl

/-- What re-forming the local demand keeps: the screen, the pump's mode and its safety. -/
theorem reformLocal_keeps (s : State) : (reformLocal s).screen = s.screen
    ∧ (reformLocal s).duty.mode = s.duty.mode ∧ (PumpSafe s → PumpSafe (reformLocal s)) := by
  unfold reformLocal
  split
  · dsimp only
    generalize e : setStager (setDuty s _) _ = v
    have duty : v.duty.mode = s.duty.mode := by rw [← e]; rfl
    have screen : v.screen = s.screen := by rw [← e]; rfl
    have safe : PumpSafe s → PumpSafe v := fun p => by rw [← e]; exact p
    exact ⟨(congrArg (·.screen) (fallbackStop_onlyDuty v)).trans screen,
      (fallbackStop_mode v).trans duty, fun p => fallbackStop_safe (safe p)⟩
  · exact ⟨rfl, rfl, id⟩

/-! ### The own stage -/

/-- The own stage taken (R48 to R50), and in LINE_FAULT the local demand formed from it (R56). -/
theorem stageGate_stager (before : ChannelMode) (l : loaded s = true) :
    (s.line.mode ≠ .lineFault →
      (stageGate before s).stager = { s.stager with d := stageAfterGate s before })
    ∧ (s.line.mode = .lineFault → ∀ v, v = setStager s { s.stager with d := stageAfterGate s before } →
      (stageGate before s).stager = { s.stager with
        d := stageAfterGate s before, prevDEff := s.stager.dEff, dEff := localDEff v
        dPre := localDPre v, localCall := decide (ownAddress s + 1 ≤ localDEff v) }) := by
  refine ⟨fun m => ?_, fun m v e => ?_⟩
  · have other : reformLocal (setStager s { s.stager with d := stageAfterGate s before })
        = setStager s { s.stager with d := stageAfterGate s before } :=
      reformLocal_of_other fun h => m h.1
    exact congrArg (·.stager) other
  · obtain ⟨formed, -⟩ := reformLocal_spec (s := v) (e ▸ m) (e ▸ l)
    subst e
    exact formed

/-- The own stage after a gate end, by what channel A hands (the table of 3.3). -/
theorem stageAfterGate_spec (s : State) (before : ChannelMode) :
    (s.stager.usable = false → stageAfterGate s before = 0)
    ∧ (s.chanA.mode = .faulted ∨ s.chanA.mode = .starting ∨ s.chanA.mode = .absent →
        stageAfterGate s before = 0)
    ∧ (s.stager.usable = true → s.chanA.mode = .suspect → stageAfterGate s before = s.stager.d)
    ∧ (s.stager.usable = true → s.chanA.mode = .healthy → before = .starting ∨ before = .faulted →
        stageAfterGate s before = upStage s.cfg (tideClosed s) 0 s.chanA.e)
    ∧ (s.stager.usable = true → s.chanA.mode = .healthy → before = .healthy ∨ before = .suspect →
        stageAfterGate s before
          = evaluateStage s.cfg (tideClosed s) s.stager.d s.chanA.e s.chanA.p) := by
  refine ⟨fun unusable => by simp [stageAfterGate, unusable], fun m => ?_,
    fun usable m => by simp [stageAfterGate, usable, m], fun usable m b => ?_, fun usable m b => ?_⟩
  · rcases m with m | m | m <;> simp [stageAfterGate, m]
  · rcases b with b | b <;> simp [stageAfterGate, usable, m, b]
  · rcases b with b | b <;> simp [stageAfterGate, usable, m, b]

/-! ### The gate end -/

/-- The state in which the Screen Controller takes a gate end. -/
def staged (s : State) : State := stageGate s.chanA.mode (endGates s)

theorem staged_onlyPlant (s : State) : OnlyPlant (endGates s) (staged s) :=
  OnlyPlant.trans (t := setStager (endGates s) _) rfl (reformLocal_onlyPlant _)

/-- What the Screen Controller sees at a gate end is what it would see without the demand formed. -/
theorem staged_sight (s : State) : SameSight (endGates s) (staged s) := by
  have k := staged_onlyPlant s
  exact ⟨(reformLocal_keeps _).1, k.station.cfg, k.station.chanA, k.station.chanB, k.line,
    k.station.inputs⟩

theorem staged_mode (s : State) : (staged s).duty.mode = s.duty.mode := (reformLocal_keeps _).2.1

theorem staged_safe (p : PumpSafe s) : PumpSafe (staged s) := (reformLocal_keeps _).2.2 p

theorem gateStep_onlyOvf (s : State) : OnlyOvf (screenGate (staged s)) (gateStep s) :=
  overflowGate_onlyOvf _

/-- The gate end leaves the pump and the rake to the closing work safe, the rake's request aside. -/
theorem gateStep_keeps (s : State) : (PumpSafe s → PumpSafe (gateStep s))
    ∧ SameRake s.screen (gateStep s).screen ∧ rakeStop (gateStep s) = rakeStop s
    ∧ loaded (gateStep s) = loaded s := by
  have plant := (staged_onlyPlant s).station
  have judged := screenGate_judged (staged s)
  have station := judged.only.station
  have weir := gateStep_onlyOvf s
  have rake := judged.rake
  rw [(staged_sight s).screen, ← weir.screen] at rake
  refine ⟨fun p => weir.pumpSafe (judged.safe (staged_safe p)), rake, rakeStop_congr (fun i => ?_) ?_ ?_,
    weir.loaded.trans (station.loaded.trans plant.loaded)⟩
  · exact (weir.isActive i).trans ((station.isActive i).trans (plant.isActive i))
  · exact weir.line.trans (judged.only.line.trans (staged_onlyPlant s).line)
  · rw [weir.duty]
    exact judged.mode.trans (staged_mode s)

/-- What a gate end leaves beside the screen and the pump (R31, R43, R48 to R50, R56). -/
theorem gateStep_frame (s : State) :
    (gateStep s).gate = s.gate - 50
    ∧ (gateStep s).chanA = gateChannel s.cfg.calA s.cfg.q s.chanA
    ∧ (gateStep s).chanB = gateChannel s.cfg.calB s.cfg.q s.chanB
    ∧ (gateStep s).time = s.time ∧ (gateStep s).inputs = s.inputs ∧ (gateStep s).cfg = s.cfg
    ∧ (gateStep s).line = s.line ∧ (gateStep s).stager = (staged s).stager := by
  have plant := staged_onlyPlant s
  have only := (screenGate_judged (staged s)).only
  have weir := gateStep_onlyOvf s
  rw [weir.gate, weir.chanA, weir.chanB, weir.time, weir.inputs, weir.cfg, weir.line, weir.stager,
    only.gate, only.chanA, only.chanB, only.time, only.inputs, only.cfg, only.line, only.stager,
    plant.station.gate, plant.station.chanA, plant.station.chanB, plant.station.time,
    plant.station.inputs, plant.station.cfg, plant.line]
  exact ⟨rfl, rfl, rfl, rfl, rfl, rfl, rfl, rfl⟩

/-- The Overflow Monitor works on channel A's gate, whatever the blocks before it did (R105 to R113). -/
theorem gateStep_ovf (s : State) : (gateStep s).ovf
    = (overflowGate { s with chanA := gateChannel s.cfg.calA s.cfg.q s.chanA }).ovf := by
  have plant := (staged_onlyPlant s).station
  have only := (screenGate_judged (staged s)).only
  have same : SameWeir { s with chanA := gateChannel s.cfg.calA s.cfg.q s.chanA }
      (screenGate (staged s)) :=
    ⟨only.ovf.trans plant.ovf, only.time.trans plant.time, only.inputs.trans plant.inputs,
      only.straps.trans plant.straps, only.cfg.trans plant.cfg, only.chanA.trans plant.chanA⟩
  exact same.overflowGate.ovf

/-- The Screen Controller works on both channels' gates, whatever the blocks before it did. -/
theorem gateStep_screen (s : State) : (gateStep s).screen = (screenGate { s with
    chanA := gateChannel s.cfg.calA s.cfg.q s.chanA
    chanB := gateChannel s.cfg.calB s.cfg.q s.chanB }).screen := by
  have sight : SameSight { s with
      chanA := gateChannel s.cfg.calA s.cfg.q s.chanA
      chanB := gateChannel s.cfg.calB s.cfg.q s.chanB } (staged s) := by
    obtain ⟨screen, cfg, chanA, chanB, line, inputs⟩ := staged_sight s
    exact ⟨screen, cfg, chanA, chanB, line, inputs⟩
  exact (gateStep_onlyOvf s).screen.trans sight.screenGate.screen

theorem serveRequest_screen (l : loaded s = true) : (serveRequest s).screen = { s.screen with
    rake := if s.screen.rake = .idle ∧ rakeStop s = false
        ∧ (s.screen.condition = .high ∨ s.screen.condition = .blocked ∨ s.screen.intervalDue = true)
      then .wait else s.screen.rake } := by
  have asked : (s.screen.rake == .idle && rakeRequested s && !rakeStop s && loaded s) = true ↔
      s.screen.rake = .idle ∧ rakeStop s = false
        ∧ (s.screen.condition = .high ∨ s.screen.condition = .blocked
          ∨ s.screen.intervalDue = true) := by
    simp only [rakeRequested, l, Bool.and_eq_true, Bool.or_eq_true, beq_iff_eq, Bool.not_eq_true',
      and_true, or_assoc]
    tauto
  simp only [serveRequest, asked]
  split <;> rfl

theorem applyHold_screen (s : State) : (applyHold s).screen = s.screen :=
  (congrArg (·.screen) (applyHold_onlyDuty s)).trans rfl

theorem applyHold_mode (s : State) : (applyHold s).duty.mode = s.duty.mode := by
  unfold applyHold closeInHand
  split
  · split
    · exact enterLockedOff_mode s
    · exact openContactor_mode s
  · split <;> rfl

/-- Where the rake stop has nothing to do, the closing work's screen is the request served. -/
theorem settle_screen_of_rake (stop : applyRakeStop (applyHold s) = applyHold s)
    (l : loaded s = true) : (settle s).screen = { s.screen with
    rake := if s.screen.rake = .idle ∧ rakeStop s = false
        ∧ (s.screen.condition = .high ∨ s.screen.condition = .blocked ∨ s.screen.intervalDue = true)
      then .wait else s.screen.rake } := by
  have k := (applyHold_onlyDuty s).station
  rw [settle_screen, serve, stop, serveRequest_screen (k.loaded.trans l), applyHold_screen,
    rakeStop_congr k.isActive (congrArg (·.line) (applyHold_onlyDuty s)) (applyHold_mode s)]

/-- The closing work once a safe pump's rake has been served: what `Follows` says of the served state. -/
theorem settle_follows_served (p : PumpSafe s) (stop : applyRakeStop s = s)
    (r : RakeSafe (serveRequest s)) : Follows { s with screen := (settle s).screen } (settle s) := by
  have hold := applyHold_of_safe p
  have served : serve s = serveRequest s := by rw [serve, hold, stop]
  have screen : (settle s).screen = (serveRequest s).screen := by rw [settle_screen, served]
  have e : serveRequest s = { s with screen := (settle s).screen } := by
    rw [screen]
    exact serveRequest_onlyScreen s
  have safe : PumpSafe (serveRequest s) := by
    have k := (serveRequest_onlyScreen s).onlyClosing
    refine p.congr (serveRequest_onlyScreen s).duty ?_ (stopHold_congr k.station.isActive k.line)
      k.station.loaded
    unfold serveRequest
    split <;> rfl
  have same : settle (serveRequest s) = settle s := by
    unfold settle
    rw [serve_of_safe safe r, served]
  have follows := settle_follows safe r
  rw [same, e] at follows
  exact follows

/-- Settles O35. -/
theorem gateTaken : Obligations.GateTaken := by
  refine ⟨fun s p r l => ⟨?_, ?_⟩, fun s l due => ?_⟩
  · unfold exec execLevelPulseEdge
    exact taken_follows (f := pulseOn .a) l p r
  · unfold exec execLevelPulseEdge
    exact taken_follows (f := pulseOn .b) l p r
  · have next : exec .gateEnd s = .next (settle (gateStep s)) := by
      unfold exec execGateEnd
      exact taken_of_can gateStep s (by simp [l, due])
    obtain ⟨gate, chanA, chanB, time, inputs, cfg, line, stager⟩ := gateStep_frame s
    obtain ⟨safe, rake, stop, finished⟩ := gateStep_keeps s
    have l' : loaded (gateStep s) = true := finished.trans l
    obtain ⟨elsewhere, inFault⟩ := stageGate_stager (s := endGates s) s.chanA.mode l
    obtain ⟨unusable, lost, suspect, begun, healthy⟩ := stageAfterGate_spec (endGates s) s.chanA.mode
    have keeps : (staged s).stager.d = stageAfterGate (endGates s) s.chanA.mode
        ∧ (staged s).stager.dLine = s.stager.dLine ∧ (staged s).stager.usable = s.stager.usable := by
      by_cases m : s.line.mode = .lineFault
      · rw [staged, inFault m _ rfl]
        exact ⟨rfl, rfl, rfl⟩
      · rw [staged, elsewhere m]
        exact ⟨rfl, rfl, rfl⟩
    obtain ⟨d, dLine, usable⟩ := keeps
    refine ⟨_, next, ?_⟩
    rw [settle_gate, settle_chanA, settle_chanB, settle_time, settle_inputs, settle_cfg, settle_line,
      settle_stager, settle_ovf, gate, chanA, chanB, time, inputs, cfg, line, stager, d, dLine, usable]
    refine ⟨rfl, rfl, rfl, unusable, lost, suspect, begun, healthy, rfl, rfl, rfl, rfl, rfl, rfl,
      fun m => ?_, fun m => ?_, gateStep_ovf s, fun r g e => ?_, fun p r u e => ?_⟩
    · rw [staged, elsewhere m]
      exact ⟨rfl, rfl, rfl, rfl⟩
    · rw [staged, inFault m _ rfl]
      exact ⟨rfl, localDEff_eq _, rfl, rfl⟩
    · have k := (applyHold_onlyDuty (gateStep s)).station
      have still := (r.served (t := applyHold (gateStep s)) (applyHold_screen (gateStep s) ▸ rake)
        ((rakeStop_congr k.isActive (congrArg (·.line) (applyHold_onlyDuty _))
          (applyHold_mode _)).trans stop) (k.loaded.trans finished)).1
      rw [e, ← gateStep_screen, settle_screen_of_rake still l', stop]
    · obtain ⟨still, served⟩ := r.served rake stop finished
      subst e
      exact settle_follows_served (safe p) still served

end Sys2Proof.Machine
end

section
/-! O15. The moment the loader finishes: what every block's own part makes of the settings handed over. -/

namespace Sys2Proof.Machine

open Sys2Proof

variable {s t u : State}

/-! ### The checks -/

/-- Only the Demand Stager, the Overflow Monitor and the structural cause differ. -/
def OnlyChecks (s t : State) : Prop :=
  t = { s with stager := t.stager, ovf := t.ovf, causeCfg := t.causeCfg }

theorem OnlyChecks.trans (h : OnlyChecks s t) (k : OnlyChecks t u) : OnlyChecks s u :=
  Eq.trans k ((congrArg (fun x : State =>
    { x with stager := u.stager, ovf := u.ovf, causeCfg := u.causeCfg }) h).trans rfl)

theorem OnlyChecks.of_ite {p : Prop} [Decidable p] {a b : State} (h : OnlyChecks s a)
    (k : OnlyChecks s b) : OnlyChecks s (if p then a else b) := by
  split <;> assumption

theorem OnlyChecks.time (h : OnlyChecks s t) : t.time = s.time := (congrArg (·.time) h).trans rfl
theorem OnlyChecks.inputs (h : OnlyChecks s t) : t.inputs = s.inputs := (congrArg (·.inputs) h).trans rfl
theorem OnlyChecks.straps (h : OnlyChecks s t) : t.straps = s.straps := (congrArg (·.straps) h).trans rfl
theorem OnlyChecks.loader (h : OnlyChecks s t) : t.loader = s.loader := (congrArg (·.loader) h).trans rfl
theorem OnlyChecks.cfg (h : OnlyChecks s t) : t.cfg = s.cfg := (congrArg (·.cfg) h).trans rfl
theorem OnlyChecks.line (h : OnlyChecks s t) : t.line = s.line := (congrArg (·.line) h).trans rfl
theorem OnlyChecks.gate (h : OnlyChecks s t) : t.gate = s.gate := (congrArg (·.gate) h).trans rfl
theorem OnlyChecks.chanA (h : OnlyChecks s t) : t.chanA = s.chanA := (congrArg (·.chanA) h).trans rfl
theorem OnlyChecks.chanB (h : OnlyChecks s t) : t.chanB = s.chanB := (congrArg (·.chanB) h).trans rfl
theorem OnlyChecks.duty (h : OnlyChecks s t) : t.duty = s.duty := (congrArg (·.duty) h).trans rfl
theorem OnlyChecks.panel (h : OnlyChecks s t) : t.panel = s.panel := (congrArg (·.panel) h).trans rfl

theorem OnlyOvf.onlyChecks (h : OnlyOvf s t) : OnlyChecks s t := by
  unfold OnlyChecks
  rw [h]
  rfl

theorem finishStager_onlyChecks (s : State) : OnlyChecks s (finishStager s) := .of_ite rfl rfl

theorem finishOverflow_onlyChecks (s : State) : OnlyChecks s (finishOverflow s) := by
  have take : ∀ (b : Bool) (v : State), OnlyChecks v (if b then v else retakeSource v) := fun _ v =>
    .of_ite rfl (retakeSource_onlyOvf v).onlyChecks
  unfold finishOverflow
  refine .of_ite rfl (OnlyChecks.trans ?_ (take _ _))
  rfl

/-- A channel after the checks (R32, R38, R39). -/
theorem finishedMode_eq (reduced fitted : Bool) (c : Calibration) : finishedMode reduced fitted c =
    if fitted = true ∧ reduced = false ∧ c.z + 500 ≤ c.f then .starting else .absent := by
  simp [finishedMode, calibrationUsable, and_assoc]

theorem allStages_iff (n : Nat) (p : Nat → Bool) :
    allStages n p = true ↔ ∀ k, 1 ≤ k → k ≤ n → p k = true := by
  simp only [allStages, List.all_eq_true, List.mem_range]
  refine ⟨fun h k pos le => ?_, fun h i lt => h (i + 1) (by omega) (by omega)⟩
  have at_k := h (k - 1) (by omega)
  rwa [Nat.sub_add_cancel pos] at at_k

/-- The stage table is usable (R45). -/
theorem tableUsable_iff (c : Settings) : tableUsable c = true ↔
    1 ≤ c.stageCount ∧ c.stageCount ≤ 8 ∧ 0 < stopLevel c 1
      ∧ (∀ k, 1 ≤ k → k ≤ c.stageCount → stopLevel c k < startLevel c k)
      ∧ (∀ k, 1 ≤ k → k < c.stageCount → startLevel c k < startLevel c (k + 1)
          ∧ stopLevel c k < stopLevel c (k + 1))
      ∧ startLevel c c.stageCount ≤ c.calA.h := by
  have climb : (∀ k, 1 ≤ k → k ≤ c.stageCount - 1 →
        startLevel c k < startLevel c (k + 1) ∧ stopLevel c k < stopLevel c (k + 1))
      ↔ ∀ k, 1 ≤ k → k < c.stageCount →
        startLevel c k < startLevel c (k + 1) ∧ stopLevel c k < stopLevel c (k + 1) :=
    ⟨fun h k pos lt => h k pos (by omega), fun h k pos le => h k pos (by omega)⟩
  simp only [tableUsable, Bool.and_eq_true, decide_eq_true_eq, allStages_iff, climb, and_assoc]

theorem finishStager_of_absent (h : s.chanA.mode = .absent) : finishStager s = s := if_pos h

theorem finishStager_of_present (h : s.chanA.mode ≠ .absent) : finishStager s =
    noteCause (!tableUsable s.cfg) (setStager s { s.stager with usable := tableUsable s.cfg }) :=
  if_neg h

/-- Re-taking the head source leaves what the loader's finish has settled of the weir. -/
theorem retakeSource_enabled (s : State) :
    (retakeSource s).ovf.volumeEnabled = s.ovf.volumeEnabled
      ∧ (retakeSource s).ovf.crestUsable = s.ovf.crestUsable := by
  have answer : ∀ v : State, (answerSource v).ovf.volumeEnabled = v.ovf.volumeEnabled
      ∧ (answerSource v).ovf.crestUsable = v.ovf.crestUsable := fun v => by
    unfold answerSource
    split <;> split <;> exact ⟨rfl, rfl⟩
  unfold retakeSource
  dsimp only
  split
  · exact ⟨rfl, rfl⟩
  · exact answer _

/-- The Overflow Monitor at the loader's finish (R104): its figures and the cause they give. -/
theorem finishOverflow_spec (s : State) :
    (s.straps.weirEn = false → finishOverflow s = s)
    ∧ (s.straps.weirEn = true →
      (finishOverflow s).ovf.volumeEnabled = (!s.loader.reduced && spillUsable s.cfg)
      ∧ (finishOverflow s).ovf.crestUsable
          = (s.chanA.mode != .absent && decide (s.cfg.crest ≤ s.cfg.calA.h))
      ∧ (finishOverflow s).causeCfg = (s.causeCfg || (!s.loader.reduced && !spillUsable s.cfg)
          || (s.chanA.mode != .absent && !decide (s.cfg.crest ≤ s.cfg.calA.h))
          || (s.chanA.mode == .absent && !s.cfg.weirFloatFitted))) := by
  refine ⟨fun none => if_pos (by simp [none]), fun fitted => ?_⟩
  unfold finishOverflow
  rw [if_neg (by simp [fitted])]
  dsimp only
  generalize e : noteCause _ _ = v
  have taken : (if v.ovf.blind = true then v else retakeSource v).ovf.volumeEnabled
        = v.ovf.volumeEnabled
      ∧ (if v.ovf.blind = true then v else retakeSource v).ovf.crestUsable = v.ovf.crestUsable
      ∧ (if v.ovf.blind = true then v else retakeSource v).causeCfg = v.causeCfg := by
    obtain ⟨volume, crest⟩ := retakeSource_enabled v
    split
    · exact ⟨rfl, rfl, rfl⟩
    · exact ⟨volume, crest, (retakeSource_onlyOvf v).causeCfg⟩
  obtain ⟨volume, crest, cause⟩ := taken
  rw [volume, crest, cause, ← e]
  refine ⟨rfl, rfl, ?_⟩
  simp only [noteCause, setOvf_causeCfg, bne]
  cases s.chanA.mode == .absent <;> simp [Bool.or_assoc]

/-- The state once the settings are handed over, the map is taken and the channels have begun. -/
def handedOver (s : State) : State :=
  finishChannels (takeMap s { s with
    loader := { s.loader with phase := .done, checkTicks := none, busDriven := false }
    cfg := s.loader.ready })

/-- The state once the tables have been checked as well. -/
def checked (s : State) : State := finishOverflow (finishStager (handedOver s))

theorem checked_onlyChecks (s : State) : OnlyChecks (handedOver s) (checked s) :=
  (finishStager_onlyChecks _).trans (finishOverflow_onlyChecks _)

theorem finishStager_ovf (s : State) : (finishStager s).ovf = s.ovf := by
  unfold finishStager
  split <;> rfl

theorem finishOverflow_stager (s : State) : (finishOverflow s).stager = s.stager := by
  unfold finishOverflow
  split
  · rfl
  · dsimp only
    split
    · rfl
    · exact (retakeSource_onlyOvf _).stager

/-- Channel A after the checks: STARTING or ABSENT. -/
theorem handedOver_chanA (s : State) :
    (handedOver s).chanA.mode = .starting ∨ (handedOver s).chanA.mode = .absent := by
  rw [show (handedOver s).chanA.mode
    = finishedMode s.loader.reduced s.straps.lvaEn s.loader.ready.calA from rfl, finishedMode_eq]
  split
  · exact .inl rfl
  · exact .inr rfl

/-- What the checks leave as the hand-over made it. -/
theorem checked_keeps (s : State) :
    (checked s).time = s.time ∧ (checked s).inputs = s.inputs ∧ (checked s).straps = s.straps
    ∧ (checked s).line = s.line
    ∧ (checked s).loader = { s.loader with phase := .done, checkTicks := none, busDriven := false }
    ∧ (checked s).cfg = s.loader.ready ∧ (checked s).gate = 0 ∧ (checked s).duty = s.duty
    ∧ (checked s).chanA = (handedOver s).chanA ∧ (checked s).chanB = (handedOver s).chanB
    ∧ (checked s).panel = (handedOver s).panel := by
  have c := checked_onlyChecks s
  generalize checked s = v at c
  rw [c.time, c.inputs, c.straps, c.line, c.loader, c.cfg, c.gate, c.duty, c.chanA, c.chanB, c.panel]
  exact ⟨rfl, rfl, rfl, rfl, rfl, rfl, rfl, rfl, rfl, rfl, rfl⟩

theorem checked_isActive (s : State) (i : Input) : isActive (checked s) i = isActive s i := by
  obtain ⟨-, inputs, -⟩ := checked_keeps s
  unfold isActive inputState
  rw [inputs]

/-- What the check of the stage table leaves (R45). -/
theorem checked_stager (s : State) :
    ((handedOver s).chanA.mode = .starting →
      (checked s).stager.usable = tableUsable s.loader.ready)
    ∧ ((handedOver s).chanA.mode = .absent → (checked s).stager.usable = s.stager.usable) := by
  rw [checked, finishOverflow_stager]
  refine ⟨fun m => ?_, fun m => ?_⟩
  · rw [finishStager_of_present (by simp [m])]
    rfl
  · rw [finishStager_of_absent m]
    rfl

/-- What the check of the weir's figures leaves (R104). -/
theorem checked_ovf (s : State) :
    (s.straps.weirEn = true →
      (checked s).ovf.volumeEnabled = (!s.loader.reduced && spillUsable s.loader.ready)
      ∧ (checked s).ovf.crestUsable = decide ((handedOver s).chanA.mode = .starting
          ∧ s.loader.ready.crest ≤ s.loader.ready.calA.h))
    ∧ (s.straps.weirEn = false → (checked s).ovf = s.ovf) := by
  have k := finishStager_onlyChecks (handedOver s)
  obtain ⟨none, fitted⟩ := finishOverflow_spec (finishStager (handedOver s))
  rw [k.straps] at none fitted
  refine ⟨fun weir => ?_, fun weir => ?_⟩
  · obtain ⟨volume, crest, -⟩ := fitted weir
    rw [k.loader, k.cfg] at volume
    rw [k.chanA, k.cfg] at crest
    refine ⟨volume, crest.trans ?_⟩
    have present : ((handedOver s).chanA.mode != .absent)
        = decide ((handedOver s).chanA.mode = .starting) := by
      rcases handedOver_chanA s with m | m <;> rw [m] <;> rfl
    rw [present, Bool.decide_and]
    rfl
  · rw [checked, none weir, finishStager_ovf]
    rfl

/-- The structural causes of CONFIG (R173). -/
theorem checked_causeCfg (s : State) : (checked s).causeCfg = true ↔ s.causeCfg = true
    ∨ (s.straps.lvaEn = true ∧ s.loader.reduced = false
      ∧ s.loader.ready.calA.f < s.loader.ready.calA.z + 500)
    ∨ (s.straps.lvbEn = true ∧ s.loader.reduced = false
      ∧ s.loader.ready.calB.f < s.loader.ready.calB.z + 500)
    ∨ ((handedOver s).chanA.mode = .starting ∧ tableUsable s.loader.ready = false)
    ∨ (s.straps.weirEn = true ∧
      ((s.loader.reduced = false ∧ spillUsable s.loader.ready = false)
        ∨ ((handedOver s).chanA.mode = .starting
          ∧ s.loader.ready.calA.h < s.loader.ready.crest)
        ∨ ((handedOver s).chanA.mode = .absent ∧ s.loader.ready.weirFloatFitted = false))) := by
  have k := finishStager_onlyChecks (handedOver s)
  obtain ⟨none, fitted⟩ := finishOverflow_spec (finishStager (handedOver s))
  rw [k.straps, k.loader, k.cfg, k.chanA] at fitted
  rw [k.straps] at none
  have channels : (handedOver s).causeCfg = (s.causeCfg
      || (s.straps.lvaEn && !s.loader.reduced && !calibrationUsable s.loader.ready.calA
        || s.straps.lvbEn && !s.loader.reduced && !calibrationUsable s.loader.ready.calB)) := rfl
  have table : (finishStager (handedOver s)).causeCfg = ((handedOver s).causeCfg
      || ((handedOver s).chanA.mode != .absent && !tableUsable s.loader.ready)) := by
    rcases handedOver_chanA s with m | m
    · rw [finishStager_of_present (by simp [m]), m]
      rfl
    · rw [finishStager_of_absent m, m]
      simp
  have weir : (checked s).causeCfg = ((finishStager (handedOver s)).causeCfg || (s.straps.weirEn
      && (!s.loader.reduced && !spillUsable s.loader.ready
        || (handedOver s).chanA.mode != .absent
          && !decide (s.loader.ready.crest ≤ s.loader.ready.calA.h)
        || (handedOver s).chanA.mode == .absent && !s.loader.ready.weirFloatFitted))) := by
    cases w : s.straps.weirEn with
    | false => rw [checked, none w, Bool.false_and, Bool.or_false]
    | true =>
      obtain ⟨-, -, cause⟩ := fitted w
      rw [checked, cause, Bool.true_and, Bool.or_assoc, Bool.or_assoc, Bool.or_assoc]
      rfl
  rw [weir, table, channels]
  rcases handedOver_chanA s with m | m <;> rw [m] <;> simp [calibrationUsable, or_assoc, and_assoc]

/-! ### The pump and the screen at the loader's finish -/

/-- The minimum off timer at the loader's finish: expired where T_minoff has passed (R58, R63). -/
def timerTaken (s : State) : State := setDuty s { s.duty with
  minOff := if reached s.duty.minOff (secondsTicks s.cfg.tMinOff) then none else s.duty.minOff }

/-- The pump at the loader's finish before an active THERMAL is taken: closed in HAND, or IDLE. -/
def pumpReleased (s : State) : State :=
  let s := closeInHand (timerTaken s)
  if s.duty.pump = .lockedOff ∧ s.duty.minOff = none then enterIdle s else s

theorem pumpReleased_onlyDuty (s : State) : OnlyDuty s (pumpReleased s) := by
  have k : OnlyDuty s (closeInHand (timerTaken s)) :=
    (setDuty_onlyDuty s _).trans (closeInHand_onlyDuty _)
  exact .of_ite (k.trans (enterIdle_onlyDuty _)) k

theorem finishDuty_eq (s : State) : finishDuty s =
    if isActive s .thermal then thermalTrip (pumpReleased s) else pumpReleased s := by
  rw [← (pumpReleased_onlyDuty s).station.isActive]
  rfl

theorem timerTaken_minOff (s : State) : (timerTaken s).duty.minOff = none ↔ s.duty.minOff = none
    ∨ ∃ e, s.duty.minOff = some e ∧ s.cfg.tMinOff * 100 ≤ e := by
  have r : reached s.duty.minOff (secondsTicks s.cfg.tMinOff) = true
      ↔ ∃ e, s.duty.minOff = some e ∧ s.cfg.tMinOff * 100 ≤ e := reached_iff _ _
  unfold timerTaken
  rw [setDuty_duty]
  dsimp only
  split
  · rename_i h
    exact ⟨fun _ => .inr (r.1 h), fun _ => rfl⟩
  · rename_i h
    exact ⟨.inl, fun either => either.resolve_right fun e => h (r.2 e)⟩

/-- The Duty Controller at the loader's finish (R58, R63, R65), once the loader is DONE. -/
theorem finishDuty_spec (l : loaded s = true) :
    (isActive s .thermal = true → (finishDuty s).duty.pump = .faulted)
    ∧ (s.duty.pump = .hand → s.duty.contactor = false → stopHold s = false →
      (finishDuty s).duty.pump = .hand ∧ (finishDuty s).duty.contactor = true
        ∧ (finishDuty s).duty.inrush = some 0)
    ∧ (s.duty.pump = .lockedOff → isActive s .thermal = false →
      (finishDuty s).duty.pump = if s.duty.minOff = none
          ∨ (∃ e, s.duty.minOff = some e ∧ s.cfg.tMinOff * 100 ≤ e) then .idle else .lockedOff) := by
  refine ⟨fun hot => ?_, fun hand contactor hold => ?_, fun off cool => ?_⟩
  · rw [finishDuty_eq, if_pos hot]
    rfl
  · have cool : ¬isActive s .thermal = true := fun hot =>
      absurd ((stopHold_iff s).2 (.inr (.inr (.inl hot)))) (by simp [hold])
    have closes : closeInHand (timerTaken s) = handClosure (timerTaken s) := by
      have l : loaded (timerTaken s) = true := l
      have hold : stopHold (timerTaken s) = false := hold
      have hand : (timerTaken s).duty.pump = .hand := hand
      have contactor : (timerTaken s).duty.contactor = false := contactor
      exact if_pos (by simp [l, hold, hand, contactor])
    have stays : (handClosure (timerTaken s)).duty.pump = .hand := hand
    rw [finishDuty_eq, if_neg cool, pumpReleased, closes]
    rw [if_neg (by simp [stays])]
    exact ⟨hand, rfl, rfl⟩
  · have open_ : closeInHand (timerTaken s) = timerTaken s := by
      refine if_neg ?_
      simp [timerTaken, off]
    have pump : (timerTaken s).duty.pump = .lockedOff := off
    rw [finishDuty_eq, if_neg (by simp [cool]), pumpReleased, open_]
    simp only [pump, true_and, timerTaken_minOff]
    split
    · rfl
    · exact pump

/-- A change of condition to any but BLOCKED stops no pump (R80). -/
theorem setCondition_onlyScreen {c : ScreenCondition} (h : c ≠ .blocked) (s : State) :
    OnlyScreen s (setCondition c s) := by
  unfold setCondition
  split
  · rfl
  · rfl

theorem OnlyScreen.trans (h : OnlyScreen s t) (k : OnlyScreen t u) : OnlyScreen s u :=
  Eq.trans k ((congrArg (fun x => setScreen x u.screen) (show t = setScreen s t.screen from h)).trans rfl)

theorem OnlyScreen.of_ite {p : Prop} [Decidable p] {a b : State} (h : OnlyScreen s a)
    (k : OnlyScreen s b) : OnlyScreen s (if p then a else b) := by
  split <;> assumption

theorem findSwitch_onlyScreen (s : State) : OnlyScreen s (findSwitch s) :=
  .of_ite (OnlyScreen.trans (t := setScreen s _) rfl
    (.of_ite (setCondition_onlyScreen (c := .high) nofun _) rfl)) rfl

/-- The Screen Controller at the loader's finish reaches nothing else: the screen is judged HIGH at
most. -/
theorem finishScreen_onlyScreen (s : State) : OnlyScreen s (finishScreen s) := by
  have leave : ∀ v : State, OnlyScreen v (leaveSensing v) := fun v =>
    OnlyScreen.trans (t := setCondition .unknown v) (setCondition_onlyScreen (c := .unknown) nofun v) rfl
  have enter : ∀ (m : SensingMode) (v : State), OnlyScreen v (enterSensing m v) := fun m v =>
    OnlyScreen.trans (t := setScreen v _) rfl (.of_ite (findSwitch_onlyScreen _) rfl)
  exact (leave s).trans ((enter _ _).trans (.of_ite rfl rfl))

theorem expireInterval_screen (s : State) : (expireInterval s).screen.sensing = s.screen.sensing
    ∧ (expireInterval s).screen.condition = s.screen.condition := by
  unfold expireInterval
  split <;> exact ⟨rfl, rfl⟩

/-- The accepted SCREEN_SW found in SWITCH by a screen of UNKNOWN condition (R92). -/
theorem findSwitch_unknown (h : s.screen.condition = .unknown) :
    (findSwitch s).screen.sensing = s.screen.sensing
    ∧ (findSwitch s).screen.condition = if isActive s .screenSw = true then .high else .unknown := by
  unfold findSwitch
  split
  · dsimp only
    rw [if_pos (.inl h), setCondition_screen]
    simp [conditioned, h]
  · exact ⟨rfl, by simp [h]⟩

/-- The first sensing mode and condition (R88, R89, R92). -/
theorem finishScreen_spec (s : State) : (finishScreen s).screen.sensing = some (sensingOf s)
    ∧ (finishScreen s).screen.condition
      = if sensingOf s = .switch ∧ isActive s .screenSw = true then .high else .unknown := by
  have unknown : (leaveSensing s).screen.condition = .unknown := setCondition_condition .unknown s
  have active := (leaveSensing_onlyPlant s).station.isActive .screenSw
  unfold finishScreen
  obtain ⟨sensing, condition⟩ := expireInterval_screen (enterSensing (sensingOf s) (leaveSensing s))
  rw [sensing, condition, ← active]
  generalize leaveSensing s = v at unknown
  unfold enterSensing
  dsimp only
  split
  · rename_i m
    obtain ⟨found, judged⟩ := findSwitch_unknown
      (s := setScreen v { v.screen with sensing := some (sensingOf s) }) unknown
    rw [found, judged]
    refine ⟨rfl, ?_⟩
    simp only [m, true_and]
    rfl
  · rename_i m
    exact ⟨rfl, by simp [m, unknown]⟩

/-! ### The closing work of the loader's finish -/

theorem followSource_entry (on : Bool) (o : OutputState) : (followSource on o).entry = o.entry := by
  unfold followSource
  dsimp only
  split
  · split <;> rfl
  · rfl

/-- The panel's following keeps the output map (R128). -/
theorem settlePanel_entries (s : State) :
    (settlePanel s).panel.outputs.map (·.entry) = s.panel.outputs.map (·.entry) := by
  rw [outputs_settlePanel]
  split
  · rw [List.map_map]
    exact List.map_congr_left fun o _ => followSource_entry _ o
  · rfl

theorem takeCodes_entries (codes : List AlarmCode) (s : State) :
    (takeCodes codes s).panel.outputs.map (·.entry) = s.panel.outputs.map (·.entry) := by
  rw [takeCodes, settlePanel_entries, (OnlyAlarms.foldl settleCode_onlyAlarms codes s).outputs]

/-- The closing work keeps the output map (R128). -/
theorem settle_entries (s : State) :
    (settle s).panel.outputs.map (·.entry) = s.panel.outputs.map (·.entry) := by
  have served : (serve s).panel = s.panel := (congrArg (·.panel) (serve_onlyPlant s)).trans rfl
  rw [settle, handOn, takeChanges, takeCodes_entries, takeCodes_entries, served]

theorem recordRaw_enabled (latches : Bool) (minute : Nat) (raw : Bool) (r : AlarmRecord) :
    (recordRaw latches minute raw r).enabled = r.enabled := by
  have activated : ∀ x : AlarmRecord, (recordActivated minute x).enabled = x.enabled := fun x => by
    unfold recordActivated
    split <;> rfl
  have cleared : ∀ x : AlarmRecord, (recordCleared x).enabled = x.enabled := fun x => by
    unfold recordCleared
    split <;> rfl
  unfold recordRaw
  dsimp only
  split
  · rfl
  · split
    · split
      · exact activated _
      · rfl
    · split
      · exact activated _
      · exact cleared _

/-- The closing work enables and disables no record (R118). -/
theorem settle_enabled (n : s.alarms.records.length = 23) (c : AlarmCode) :
    (recordOf (settle s) c).enabled = (recordOf s c).enabled := by
  rw [recordOf_settle n]
  unfold recordAfter
  split
  · rfl
  · split
    · exact recordRaw_enabled ..
    · rfl

/-- The rake served leaves what the screen senses and its condition. -/
theorem serve_screen (s : State) : (serve s).screen.sensing = s.screen.sensing
    ∧ (serve s).screen.condition = s.screen.condition := by
  have stop : ∀ v : State, (applyRakeStop v).screen.sensing = v.screen.sensing
      ∧ (applyRakeStop v).screen.condition = v.screen.condition := fun v => by
    unfold applyRakeStop
    split
    · split <;> exact ⟨rfl, rfl⟩
    · exact ⟨rfl, rfl⟩
  have request : ∀ v : State, (serveRequest v).screen.sensing = v.screen.sensing
      ∧ (serveRequest v).screen.condition = v.screen.condition := fun v => by
    unfold serveRequest
    split <;> exact ⟨rfl, rfl⟩
  obtain ⟨sensing, condition⟩ := stop (applyHold s)
  obtain ⟨sensing', condition'⟩ := request (applyRakeStop (applyHold s))
  rw [applyHold_screen] at sensing condition
  exact ⟨sensing'.trans sensing, condition'.trans condition⟩

/-! ### The finish, whole -/

/-- The state once the pump and the screen have taken part. -/
def plantTaken (s : State) : State := finishScreen (finishDuty (checked s))

theorem plantTaken_onlyClosing (s : State) : OnlyClosing (checked s) (plantTaken s) :=
  (finishDuty_onlyDuty _).onlyClosing.trans (finishScreen_onlyScreen _).onlyClosing

theorem plantTaken_duty (s : State) : (plantTaken s).duty = (finishDuty (checked s)).duty :=
  (finishScreen_onlyScreen _).duty

theorem plantTaken_panel (s : State) : (plantTaken s).panel = (checked s).panel := by
  have k := (finishDuty_onlyDuty (checked s)).onlyPlant.trans
    (finishScreen_onlyScreen (finishDuty (checked s))).onlyPlant
  exact (congrArg (·.panel) k).trans rfl

/-- The last two parts of the finish: the reporter's role and the records' enables. -/
def housed (s : State) : State := finishAlarms (finishReporter s)

theorem finishStep_eq (s : State) : finishStep s = housed (plantTaken s) := rfl

/-- What the loader's finish leaves of the time, the inputs, the line and the loader (R167). -/
theorem finishStep_station (s : State) :
    (finishStep s).time = s.time ∧ (finishStep s).inputs = s.inputs
    ∧ (finishStep s).straps = s.straps ∧ (finishStep s).line = s.line
    ∧ (finishStep s).loader = { s.loader with phase := .done, checkTicks := none, busDriven := false }
    ∧ (finishStep s).cfg = s.loader.ready ∧ (finishStep s).gate = 0 := by
  have k := plantTaken_onlyClosing s
  obtain ⟨time, inputs, straps, line, loader, cfg, gate, -⟩ := checked_keeps s
  rw [finishStep_eq, ← time, ← inputs, ← straps, ← line, ← loader, ← cfg, ← gate]
  rw [← k.time, ← k.inputs, ← k.straps, ← k.line, ← k.loader, ← k.cfg, ← k.gate]
  generalize plantTaken s = v
  exact ⟨rfl, rfl, rfl, rfl, rfl, rfl, rfl⟩

/-- What it leaves of the blocks (R32, R45, R104, R128). -/
theorem finishStep_blocks (s : State) :
    (finishStep s).chanA = (handedOver s).chanA ∧ (finishStep s).chanB = (handedOver s).chanB
    ∧ (finishStep s).stager = (checked s).stager ∧ (finishStep s).ovf = (checked s).ovf
    ∧ (finishStep s).causeCfg = (checked s).causeCfg
    ∧ (finishStep s).duty = (finishDuty (checked s)).duty
    ∧ (finishStep s).screen = (plantTaken s).screen
    ∧ (finishStep s).panel = (handedOver s).panel := by
  have k := plantTaken_onlyClosing s
  obtain ⟨-, -, -, -, -, -, -, -, chanA, chanB, panel⟩ := checked_keeps s
  rw [finishStep_eq, ← chanA, ← chanB, ← panel, ← plantTaken_duty, ← plantTaken_panel]
  rw [← k.chanA, ← k.chanB, ← k.stager, ← k.ovf, ← k.causeCfg]
  generalize plantTaken s = v
  exact ⟨rfl, rfl, rfl, rfl, rfl, rfl, rfl, rfl⟩

/-- The first role, the routine enable and every record's enable (R118, R145). -/
theorem finishStep_house (s : State) :
    (finishStep s).reporter.mode
        = (if s.straps.telEn ∧ s.loader.reduced = false then .standby else .none)
    ∧ (finishStep s).reporter.routineEnable = s.loader.ready.routineDefault
    ∧ (finishStep s).alarms.records.length = 23
    ∧ ∀ c, (recordOf (finishStep s) c).enabled = (s.loader.reduced || enableForced c
        || s.loader.ready.enableMask.getD (codeNumber c - 1) true) := by
  have k := plantTaken_onlyClosing s
  obtain ⟨-, -, straps, -, loader, cfg, -⟩ := checked_keeps s
  rw [← k.straps] at straps
  rw [← k.loader] at loader
  rw [← k.cfg] at cfg
  rw [finishStep_eq, ← straps, ← cfg, show s.loader.reduced = (plantTaken s).loader.reduced by
    rw [loader]]
  generalize plantTaken s = v
  have mode : (housed v).reporter.mode
      = if v.straps.telEn && !v.loader.reduced then .standby else .none := rfl
  refine ⟨mode.trans (by simp), rfl, rfl, fun c => ?_⟩
  cases c <;> rfl

/-- The pump at the loader's finish, once the closing work is done (R58, R63, R65). -/
theorem settle_finishStep_pump (s : State) (contactor : s.duty.contactor = false) :
    (isActive s .thermal = true → (settle (finishStep s)).duty.pump = .faulted)
    ∧ (s.duty.pump = .hand → stopHold s = false →
      (settle (finishStep s)).duty.pump = .hand ∧ (settle (finishStep s)).duty.contactor = true
        ∧ (settle (finishStep s)).duty.inrush = some 0)
    ∧ (s.duty.pump = .lockedOff → isActive s .thermal = false →
      (settle (finishStep s)).duty.pump = if s.duty.minOff = none
          ∨ (∃ e, s.duty.minOff = some e ∧ s.loader.ready.tMinOff * 100 ≤ e) then .idle
        else .lockedOff) := by
  obtain ⟨-, -, -, line, loader, cfg, -, duty, -⟩ := checked_keeps s
  have finished : loaded (checked s) = true := by
    unfold loaded
    rw [loader]
    rfl
  have hold : stopHold (checked s) = stopHold s := stopHold_congr (checked_isActive s) line
  obtain ⟨hot, hand, off⟩ := finishDuty_spec finished
  obtain ⟨-, inputs, -, line, -⟩ := finishStep_station s
  obtain ⟨-, -, -, -, -, same, -⟩ := finishStep_blocks s
  rw [duty, cfg, checked_isActive] at off
  rw [checked_isActive] at hot
  rw [duty, hold] at hand
  rw [← same] at hot hand off
  have rests : ∀ {p : PumpState}, (finishStep s).duty.pump = p → p ≠ .starting → p ≠ .running →
      (settle (finishStep s)).duty.pump = p := fun {p} e starting running => by
    rw [settle_duty]
    rcases applyHold_pump_cases (finishStep s) with ⟨h, -⟩ | h
    · rcases h with h | h
      · exact absurd (e.symm.trans h) starting
      · exact absurd (e.symm.trans h) running
    · exact h.trans e
  refine ⟨fun h => rests (hot h) nofun nofun, fun h free => ?_, fun h cool => rests (off h cool) ?_ ?_⟩
  · obtain ⟨pump, closed, inrush⟩ := hand h contactor free
    have free : stopHold (finishStep s) = false :=
      (stopHold_congr (fun i => by unfold isActive inputState; rw [inputs]) line).trans free
    have holds : applyHold (finishStep s) = finishStep s := by
      simp [applyHold, closeInHand, free, closed]
    rw [settle_duty, holds]
    exact ⟨pump, closed, inrush⟩
  · split <;> simp
  · split <;> simp

/-- The first sensing mode and condition, once the closing work is done (R89, R92). -/
theorem settle_finishStep_screen (s : State) : (settle (finishStep s)).screen.sensing
      = some (if s.loader.ready.screenSwitchFitted then .switch else .none)
    ∧ (settle (finishStep s)).screen.condition
      = (if s.loader.ready.screenSwitchFitted ∧ isActive s .screenSw = true then .high
        else .unknown) := by
  have k := (finishDuty_onlyDuty (checked s)).station
  obtain ⟨-, -, -, -, -, cfg, -, -, chanA, -⟩ := checked_keeps s
  have mode : sensingOf (finishDuty (checked s))
      = if s.loader.ready.screenSwitchFitted then .switch else .none := by
    have offers : offersLevel (handedOver s).chanA = false := by
      rcases handedOver_chanA s with m | m <;> simp [offersLevel, m]
    unfold sensingOf
    rw [k.chanA, chanA, offers, k.cfg, cfg]
    rfl
  have active : isActive (finishDuty (checked s)) .screenSw = isActive s .screenSw :=
    (k.isActive _).trans (checked_isActive s _)
  obtain ⟨sensing, condition⟩ := finishScreen_spec (finishDuty (checked s))
  obtain ⟨sensing', condition'⟩ := serve_screen (finishStep s)
  obtain ⟨-, -, -, -, -, -, screen, -⟩ := finishStep_blocks s
  rw [settle_screen, sensing', condition', screen, plantTaken]
  rw [mode] at sensing condition
  rw [active] at condition
  refine ⟨sensing, condition.trans ?_⟩
  cases s.loader.ready.screenSwitchFitted <;> simp

/-- The closing work leaves the reporter's role and its routine enable. -/
theorem settle_role (s : State) : (settle s).reporter.mode = s.reporter.mode
    ∧ (settle s).reporter.routineEnable = s.reporter.routineEnable :=
  ⟨congrArg (·.mode) (settle_reporter s), congrArg (·.routineEnable) (settle_reporter s)⟩

/-- Settles O15. -/
theorem loaderFinishes : Obligations.LoaderFinishes := by
  intro s n p checking ticks long
  have contactor : s.duty.contactor = false := by
    cases closed : s.duty.contactor with
    | false => rfl
    | true =>
      obtain ⟨-, -, l⟩ := p.1 closed
      exact absurd l (by simp [loaded, checking])
  have next : exec .loaderFinish s = .next (settle (finishStep s)) := by
    unfold exec execLoaderFinish
    exact taken_of_can finishStep s (by simp [checking, ticks, reached, long])
  obtain ⟨time, inputs, straps, line, loader, cfg, gate⟩ := finishStep_station s
  obtain ⟨chanA, chanB, stager, ovf, cause, -, -, panel⟩ := finishStep_blocks s
  obtain ⟨role, routine, length, enabled⟩ := finishStep_house s
  obtain ⟨role', routine'⟩ := settle_role (finishStep s)
  obtain ⟨hot, hand, off⟩ := settle_finishStep_pump s contactor
  obtain ⟨sensing, condition⟩ := settle_finishStep_screen s
  obtain ⟨table, noTable⟩ := checked_stager s
  obtain ⟨weir, noWeir⟩ := checked_ovf s
  have map : (settle (finishStep s)).panel.outputs.map (·.entry) = s.loader.ready.outputs := by
    rw [settle_entries, panel]
    exact (List.map_map ..).trans (List.map_id _)
  refine ⟨_, next, ?_⟩
  rw [settle_loader, settle_cfg, settle_time, settle_inputs, settle_straps, settle_line, settle_gate,
    settle_chanA, settle_chanB, settle_stager, settle_ovf, settle_causeCfg, role', routine', role, routine,
    time, inputs, straps, line, loader, cfg, gate, chanA, chanB, stager, ovf, cause, map, sensing, condition]
  refine ⟨rfl, rfl, rfl, rfl, rfl, rfl, rfl, finishedMode_eq .., finishedMode_eq .., fun c => ?_, rfl,
    rfl, rfl, hot, hand, off, fun m => ?_, noTable, weir, noWeir, ?_, rfl, rfl⟩
  · rw [settle_enabled length, enabled]
  · rw [table m]
    exact tableUsable_iff _
  · rw [checked_causeCfg]
    refine or_congr_right (or_congr_right (or_congr_right (or_congr_left ?_)))
    exact and_congr_right fun m => by rw [table m]

end Sys2Proof.Machine
end

section
/-! SUPPORT. An accepted change of an input: what it makes of the inputs, and what the block that uses the
input can reach. -/

namespace Sys2Proof.Machine

open Sys2Proof

variable {s t u : State}

/-! ### The inputs after an accepted change (R27) -/

theorem inputIndex_lt (i : Input) : inputIndex i < 15 := by
  cases i <;> decide

theorem inputIndex_injective {i j : Input} (h : inputIndex i = inputIndex j) : i = j := by
  have place : ∀ x : Input, allInputs[inputIndex x]? = some x := fun x => by cases x <;> rfl
  have e := place i
  rw [h, place j] at e
  exact (Option.some.inj e).symm

/-- The accepted input's record anew, every other as it was. -/
theorem inputState_accept (n : s.inputs.length = 15) (i j : Input) : inputState (accept i s) j =
    if j = i then ⟨!isActive s i, 0, false⟩ else inputState s j := by
  unfold inputState accept
  rw [List.getD_eq_getElem?_getD, List.getD_eq_getElem?_getD]
  split
  · rename_i e
    rw [e, List.getElem?_set_self (n ▸ inputIndex_lt i)]
    rfl
  · rename_i e
    rw [List.getElem?_set_ne fun x => e (inputIndex_injective x.symm)]

/-- The accepted value of the input turns, and of no other. -/
theorem isActive_accept (n : s.inputs.length = 15) (i j : Input) :
    isActive (accept i s) j = (isActive s j != decide (i = j)) := by
  unfold isActive
  rw [inputState_accept n]
  split
  · rename_i e
    subst e
    simp [isActive]
  · rename_i e
    simp [show ¬i = j from fun x => e x.symm]

theorem isActive_accept_same (n : s.inputs.length = 15) (i : Input) :
    isActive (accept i s) i = !isActive s i := by
  rw [isActive_accept n]
  simp

theorem isActive_accept_other (n : s.inputs.length = 15) {i j : Input} (h : i ≠ j) :
    isActive (accept i s) j = isActive s j := by
  rw [isActive_accept n]
  simp [h]

/-- An input that forms neither hold leaves the stop hold. -/
theorem stopHold_accept (n : s.inputs.length = 15) {i : Input} (stop : i ≠ .allStop)
    (low : i ≠ .lowFloat) (thermal : i ≠ .thermal) : stopHold (accept i s) = stopHold s := by
  unfold stopHold
  rw [isActive_accept_other n stop, isActive_accept_other n low, isActive_accept_other n thermal]
  rfl

theorem PumpSafe.accept (p : PumpSafe s) (n : s.inputs.length = 15) {i : Input} (stop : i ≠ .allStop)
    (low : i ≠ .lowFloat) (thermal : i ≠ .thermal) : PumpSafe (accept i s) :=
  p.congr rfl rfl (stopHold_accept n stop low thermal) rfl

/-! ### What the answer can reach -/

/-- The time, the inputs, the straps, the loader, the settings, the line, the gate, the channels and the
counter of the free values are as they were. -/
def OnlyAnswer (s t : State) : Prop :=
  t = { s with
    stager := t.stager, duty := t.duty, screen := t.screen, ovf := t.ovf, alarms := t.alarms
    panel := t.panel, notices := t.notices, reporter := t.reporter }

theorem OnlyAnswer.trans (h : OnlyAnswer s t) (k : OnlyAnswer t u) : OnlyAnswer s u :=
  Eq.trans k ((congrArg (fun x : State => { x with
    stager := u.stager, duty := u.duty, screen := u.screen, ovf := u.ovf, alarms := u.alarms
    panel := u.panel, notices := u.notices, reporter := u.reporter }) h).trans rfl)

theorem OnlyPlant.answer (h : OnlyPlant s t) : OnlyAnswer s t := by
  unfold OnlyAnswer
  rw [h]

theorem OnlyOvf.answer (h : OnlyOvf s t) : OnlyAnswer s t := by
  unfold OnlyAnswer
  rw [h]
  rfl

/-- The demand and the Overflow Monitor are as they were as well. -/
def OnlyReply (s t : State) : Prop :=
  t = { s with
    duty := t.duty, screen := t.screen, alarms := t.alarms, panel := t.panel, notices := t.notices
    reporter := t.reporter }

theorem OnlyReply.refl (s : State) : OnlyReply s s := rfl

theorem OnlyReply.of_ite {p : Prop} [Decidable p] {a b : State} (h : OnlyReply s a)
    (k : OnlyReply s b) : OnlyReply s (if p then a else b) := by
  split <;> assumption

theorem OnlyClosing.reply (h : OnlyClosing s t) : OnlyReply s t := by
  unfold OnlyReply
  rw [h]
  rfl

theorem OnlyDuty.reply (h : OnlyDuty s t) : OnlyReply s t := h.onlyClosing.reply

theorem OnlyReply.answer (h : OnlyReply s t) : OnlyAnswer s t := by
  unfold OnlyAnswer
  rw [h]

theorem OnlyReply.stager (h : OnlyReply s t) : t.stager = s.stager :=
  (congrArg (·.stager) h).trans rfl
theorem OnlyReply.ovf (h : OnlyReply s t) : t.ovf = s.ovf := (congrArg (·.ovf) h).trans rfl

theorem OnlyAnswer.time (h : OnlyAnswer s t) : t.time = s.time := (congrArg (·.time) h).trans rfl
theorem OnlyAnswer.inputs (h : OnlyAnswer s t) : t.inputs = s.inputs :=
  (congrArg (·.inputs) h).trans rfl
theorem OnlyAnswer.straps (h : OnlyAnswer s t) : t.straps = s.straps :=
  (congrArg (·.straps) h).trans rfl
theorem OnlyAnswer.loader (h : OnlyAnswer s t) : t.loader = s.loader :=
  (congrArg (·.loader) h).trans rfl
theorem OnlyAnswer.cfg (h : OnlyAnswer s t) : t.cfg = s.cfg := (congrArg (·.cfg) h).trans rfl
theorem OnlyAnswer.line (h : OnlyAnswer s t) : t.line = s.line := (congrArg (·.line) h).trans rfl
theorem OnlyAnswer.gate (h : OnlyAnswer s t) : t.gate = s.gate := (congrArg (·.gate) h).trans rfl
theorem OnlyAnswer.chanA (h : OnlyAnswer s t) : t.chanA = s.chanA := (congrArg (·.chanA) h).trans rfl
theorem OnlyAnswer.chanB (h : OnlyAnswer s t) : t.chanB = s.chanB := (congrArg (·.chanB) h).trans rfl
theorem OnlyAnswer.free (h : OnlyAnswer s t) : t.free = s.free := (congrArg (·.free) h).trans rfl

theorem takeSwitch_judged (s : State) : Judged s (takeSwitch s) :=
  .of_ite (Judged.trans (t := setScreen s _)
    (setScreen_judged (by exact ⟨rfl, rfl, rfl, rfl, rfl, rfl⟩) (by rfl)) (setCondition_judged _ _))
    (findSwitch_judged s)

/-- The inputs that form the local demand anew (R56). -/
def formsDemand (i : Input) : Prop := i = .lowFloat ∨ i = .highFloat ∨ i = .allStop

theorem answerInput_demand {i : Input} (h : formsDemand i) (s : State) :
    answerInput i s = reformLocal s := by
  rcases h with rfl | rfl | rfl <;> rfl

theorem answerInput_weir (s : State) : OnlyOvf s (answerInput .weirFloat s) :=
  .of_ite (retakeSource_onlyOvf s) (.refl s)

/-- The block of any other input leaves the demand and the Overflow Monitor. -/
theorem answerInput_onlyReply {i : Input} (demand : ¬formsDemand i) (weir : i ≠ .weirFloat)
    (s : State) : OnlyReply s (answerInput i s) := by
  cases i with
  | runConfirm => exact .of_ite (confirmActivated_onlyDuty s).reply (confirmReleased_onlyDuty s).reply
  | thermal => exact .of_ite (enterFaulted_onlyDuty _ s).reply (.refl s)
  | moisture => exact .of_ite (moistureActivated_onlyDuty s).reply (.refl s)
  | lowFloat => exact absurd (.inl rfl) demand
  | highFloat => exact absurd (.inr (.inl rfl)) demand
  | allStop => exact absurd (.inr (.inr rfl)) demand
  | modeHand => exact (reformMode_onlyDuty s).reply
  | modeOff => exact (reformMode_onlyDuty s).reply
  | rakeLimit => exact .of_ite (.of_ite rfl (.refl s)) (.refl s)
  | screenSw => exact .of_ite (takeSwitch_judged s).only.reply (.refl s)
  | weirFloat => exact absurd rfl weir
  | supplyLow => exact .of_ite rfl (.refl s)
  | ackBtn =>
    exact .of_ite (.of_ite (.refl s) (.of_ite rfl (acknowledge_onlyClosing s).reply)) (.refl s)
  | tideClosed => exact .refl s
  | lampTest => exact .refl s

theorem answerInput_onlyAnswer (i : Input) (s : State) : OnlyAnswer s (answerInput i s) := by
  by_cases demand : formsDemand i
  · rw [answerInput_demand demand]
    exact (reformLocal_onlyPlant s).answer
  · by_cases weir : i = .weirFloat
    · subst weir
      exact (answerInput_weir s).answer
    · exact (answerInput_onlyReply demand weir s).answer

/-- The event whole: the change accepted, the block's answer, the closing work. -/
theorem accepted_onlyAnswer (i : Input) (s : State) :
    OnlyAnswer (accept i s) (settle (answerInput i (accept i s))) :=
  (answerInput_onlyAnswer i _).trans (settle_onlyClosing _).reply.answer

end Sys2Proof.Machine
end

section
/-! O9. The answers of the pump, the weir, the panel and the demand to an accepted input. -/

namespace Sys2Proof.Machine

open Sys2Proof

variable {s t : State}

/-! ### MODE_HAND and MODE_OFF (R59, R61, R63, R86) -/

theorem answerMode_mode (s : State) : (answerMode s).duty.mode = s.duty.mode := by
  have out : ∀ v : State, (enterOutOfService v).duty.mode = v.duty.mode := openContactor_mode
  have hand : ∀ v : State, (enterHand v).duty.mode = v.duty.mode := fun v => by
    unfold enterHand closeInHand
    split
    · rfl
    · split <;> rfl
  unfold answerMode
  split
  · split
    · rfl
    · exact out s
  · split
    · rfl
    · exact hand s
  · split
    · split
      · exact out s
      · exact enterLockedOff_mode s
    · rfl

theorem settle_mode (s : State) : (settle s).duty.mode = s.duty.mode := by
  rw [settle_duty, applyHold_mode]

/-- A closed contactor under no stop hold: the closing work leaves the pump (R62). -/
theorem settle_duty_of_closed (c : s.duty.contactor = true) (h : stopHold s = false) :
    (settle s).duty = s.duty := by
  rw [settle_duty]
  simp [applyHold, closeInHand, c, h]

/-- An entry to HAND (R61), the hold applied: a closed contactor stays closed, an open one closes unless
held. -/
theorem settle_enterHand (p : PumpSafe s) :
    (s.duty.contactor = true → (settle (enterHand s)).duty = { s.duty with
      pump := .hand, confirm := none, runLoss := none, minRun := none, contRun := 0
      confirmed := false, yielding := false, changeover := 0, changeoverBlocked := false })
    ∧ (s.duty.contactor = false → loaded s = true ∧ stopHold s = false →
      (settle (enterHand s)).duty = { s.duty with
        pump := .hand, contactor := true, inrush := some 0
        starts := min (s.duty.starts + 1) 65535 })
    ∧ (s.duty.contactor = false → loaded s = false ∨ stopHold s = true →
      (settle (enterHand s)).duty = { s.duty with pump := .hand }) := by
  refine ⟨fun closed => ?_, fun open_ free => ?_, fun open_ held => ?_⟩
  · obtain ⟨-, free, -⟩ := p.1 closed
    rw [enterHand, if_pos closed]
    exact settle_duty_of_closed (s := setDuty s _) closed free
  · obtain ⟨l, hold⟩ := free
    have l : loaded (setPump s .hand) = true := l
    have hold : stopHold (setPump s .hand) = false := hold
    have contactor : (setPump s .hand).duty.contactor = false := open_
    have pump : (setPump s .hand).duty.pump = .hand := rfl
    rw [enterHand, if_neg (by simp [open_]), closeInHand, if_pos (by simp [l, hold, contactor, pump])]
    exact settle_duty_of_closed (s := handClosure (setPump s .hand)) rfl hold
  · have held : stopHold (setPump s .hand) = true ∨ loaded (setPump s .hand) = false := held.symm
    have rests : PumpSafe (setPump s .hand) :=
      Unrun.safe (s := setPump s .hand) (p.unrun open_) nofun nofun (fun _ => held)
        (by rintro (h | h) <;> exact nomatch h)
    rw [enterHand, if_neg (by simp [open_]), closeInHand_of_safe rests, settle_duty_of_safe rests]
    rfl

/-- A pump whose mode is not HAND is not in HAND (R59). -/
theorem ModeSafe.not_hand (m : ModeSafe s) (other : s.duty.mode ≠ .hand) : s.duty.pump ≠ .hand := by
  obtain ⟨off, -, auto, -⟩ := m
  intro hand
  cases mode : s.duty.mode with
  | off => rcases off mode with e | e <;> simp [hand] at e
  | hand => exact other mode
  | auto => exact auto mode hand

/-- A pump whose mode is not AUTO is in HAND, OUT_OF_SERVICE or FAULTED (R59). -/
theorem ModeSafe.not_auto (m : ModeSafe s) (other : s.duty.mode ≠ .auto)
    (sound : s.duty.pump ≠ .faulted) : s.duty.pump = .hand ∨ s.duty.pump = .outOfService := by
  obtain ⟨off, hand, -⟩ := m
  cases mode : s.duty.mode with
  | off => exact .inr ((off mode).resolve_right sound)
  | hand => exact .inl ((hand mode).resolve_right sound)
  | auto => exact absurd mode other

/-- The contactor's opening, whether it was closed or not, of a pump under another mode (R62). -/
theorem openContactor_duty (s : State) : (openContactor s).duty = if s.duty.contactor then { s.duty with
      contactor := false, minOff := if s.cfg.tMinOff = 0 then none else some 0
      inrush := none, confirm := none, runLoss := none, minRun := none, contRun := 0
      confirmed := false, yielding := false, changeover := 0, changeoverBlocked := false }
    else s.duty := by
  split
  · rename_i c
    rw [openContactor_of_closed c]
    rfl
  · rename_i c
    rw [openContactor_of_open (by simpa using c)]

theorem enterOutOfService_safe (p : PumpSafe s) : PumpSafe (enterOutOfService s) :=
  Unrun.safe (s := setPump (openContactor s) .outOfService) (openContactor_unrun p rfl) nofun nofun nofun
    (by rintro (h | h) <;> exact nomatch h)

/-- The return to AUTO of a pump in HAND or OUT_OF_SERVICE (R59, R63, R86): out of service while
inhibited, else locked off or through to IDLE. -/
theorem settle_return (p : PumpSafe s) :
    (settle (enterOutOfService s)).duty = { (openContactor s).duty with pump := .outOfService }
    ∧ ((openContactor s).duty.minOff = none ∧ loaded s = true →
      (settle (enterLockedOff s)).duty = { (openContactor s).duty with
        pump := .idle
        fallbackDelay := if s.stager.localCall then
          if ownAddress s = 0 then .expired else .running 0 else s.duty.fallbackDelay })
    ∧ (¬((openContactor s).duty.minOff = none ∧ loaded s = true) →
      (settle (enterLockedOff s)).duty = { (openContactor s).duty with pump := .lockedOff }) := by
  have k := openContactor_onlyDuty s
  have call : (openContactor s).stager = s.stager := k.onlyClosing.stager
  have delay : (openContactor s).duty.fallbackDelay = s.duty.fallbackDelay := by
    rw [openContactor_duty]
    split <;> rfl
  refine ⟨?_, fun passes => ?_, fun stays => ?_⟩
  · rw [settle_duty_of_safe (enterOutOfService_safe p)]
    rfl
  · obtain ⟨-, no⟩ | ⟨e, -⟩ := enterLockedOff_cases s
    · exact absurd passes no
    · rw [settle_duty_of_safe (enterLockedOff_safe p rfl), e, enterIdle, setDuty_duty, call, delay,
        startedDelay, k.station.own]
  · obtain ⟨e, -⟩ | ⟨-, yes⟩ := enterLockedOff_cases s
    · rw [settle_duty_of_safe (enterLockedOff_safe p rfl), e]
      rfl
    · exact absurd yes stays

/-- What O9 has of the Duty Controller after a change of mode to `m`. -/
def ModeAnswered (s : State) (m : PumpMode) (d' : Duty) : Prop :=
  d'.mode = m
  ∧ (m = s.duty.mode → d' = s.duty)
  ∧ (m = .hand → s.duty.mode ≠ .hand →
    (s.duty.pump = .faulted → d' = { s.duty with mode := .hand })
    ∧ (s.duty.contactor = true → d' = { s.duty with
        mode := .hand, pump := .hand, confirm := none, runLoss := none, minRun := none
        contRun := 0, confirmed := false, yielding := false, changeover := 0
        changeoverBlocked := false })
    ∧ (s.duty.pump ≠ .faulted → s.duty.contactor = false →
      (loaded s = true ∧ stopHold s = false → d' = { s.duty with
        mode := .hand, pump := .hand, contactor := true, inrush := some 0
        starts := min (s.duty.starts + 1) 65535 })
      ∧ (loaded s = false ∨ stopHold s = true →
        d' = { s.duty with mode := .hand, pump := .hand })))
  ∧ (m = .auto → s.duty.mode ≠ .auto →
    (s.duty.pump = .faulted → d' = { s.duty with mode := .auto })
    ∧ ∀ d : Duty, s.duty.pump ≠ .faulted →
      d = (if s.duty.contactor then { s.duty with
          mode := .auto, contactor := false
          minOff := if s.cfg.tMinOff = 0 then none else some 0
          inrush := none, confirm := none, runLoss := none, minRun := none, contRun := 0
          confirmed := false, yielding := false, changeover := 0
          changeoverBlocked := false }
        else { s.duty with mode := .auto }) →
      (s.duty.inhibit = true → d' = { d with pump := .outOfService })
      ∧ (s.duty.inhibit = false → d.minOff = none ∧ loaded s = true →
        d' = { d with
          pump := .idle
          fallbackDelay := if s.stager.localCall then
            if ownAddress s = 0 then .expired else .running 0
            else s.duty.fallbackDelay })
      ∧ (s.duty.inhibit = false → ¬(d.minOff = none ∧ loaded s = true) →
        d' = { d with pump := .lockedOff }))

/-- The pump with its mode alone changed. -/
def withMode (m : PumpMode) (s : State) : State := setDuty s { s.duty with mode := m }

theorem withMode_safe (m : PumpMode) (p : PumpSafe s) : PumpSafe (withMode m s) := p

theorem answerMode_hand (faulted : s.duty.pump ≠ .hand) : answerMode (withMode .hand s) =
    if s.duty.pump = .faulted then withMode .hand s else enterHand (withMode .hand s) := by
  simp [answerMode, withMode, faulted]

theorem answerMode_auto (returns : s.duty.pump ≠ .faulted →
      s.duty.pump = .hand ∨ s.duty.pump = .outOfService) : answerMode (withMode .auto s) =
    if s.duty.pump = .faulted then withMode .auto s
    else if s.duty.inhibit then enterOutOfService (withMode .auto s)
    else enterLockedOff (withMode .auto s) := by
  by_cases f : s.duty.pump = .faulted
  · simp [answerMode, withMode, f]
  · rcases returns f with h | h <;> simp [answerMode, withMode, h]

/-- The pump's answer to a re-formed mode (R59, R61, R63, R86). -/
theorem reformMode_answered (p : PumpSafe s) (safe : ModeSafe s) (m : PumpMode)
    (e : m = modeOf (isActive s .modeOff) (isActive s .modeHand)) :
    ModeAnswered s m (settle (reformMode s)).duty := by
  have changed : m ≠ s.duty.mode → reformMode s = answerMode (withMode m s) := fun ne => by
    subst e
    exact if_neg ne
  refine ⟨?_, fun same => ?_, fun hand other => ?_, fun auto other => ?_⟩
  · rw [settle_mode]
    by_cases same : m = s.duty.mode
    · rw [reformMode, if_pos (e ▸ same), same]
    · rw [changed same, answerMode_mode]
      rfl
  · rw [reformMode, if_pos (e ▸ same), settle_duty_of_safe p]
  · obtain ⟨closed, free, held⟩ := settle_enterHand (withMode_safe .hand p)
    subst hand
    rw [changed other.symm, answerMode_hand (safe.not_hand other)]
    refine ⟨fun f => ?_, fun c => ?_, fun sound c => ?_⟩
    · rw [if_pos f, settle_duty_of_safe (withMode_safe .hand p)]
      rfl
    · have sound : s.duty.pump ≠ .faulted := by
        obtain ⟨runs, -⟩ := p.1 c
        rcases runs with h | h | h <;> simp [h]
      rw [if_neg sound]
      exact closed c
    · rw [if_neg sound]
      exact ⟨free c, held c⟩
  · obtain ⟨out, idle, locked⟩ := settle_return (withMode_safe .auto p)
    subst auto
    rw [changed other.symm, answerMode_auto (safe.not_auto other)]
    refine ⟨fun f => ?_, fun d sound opened => ?_⟩
    · rw [if_pos f, settle_duty_of_safe (withMode_safe .auto p)]
      rfl
    · rw [if_neg sound]
      have same : d = (openContactor (withMode .auto s)).duty := by
        rw [openContactor_duty]
        exact opened
      subst same
      refine ⟨fun inhibited => ?_, fun free passes => ?_, fun free stays => ?_⟩
      · rw [if_pos inhibited]
        exact out
      · rw [if_neg (by simp [free])]
        exact idle passes
      · rw [if_neg (by simp [free])]
        exact locked stays

/-! ### RUN_CONFIRM, MOISTURE (R66, R67, R79) -/

/-- RUN_CONFIRM accepted active (R66, R67), the hold applied: it confirms a start whose confirm timer
runs; else it stops the run-loss timer. -/
theorem settle_confirmActivated (p : PumpSafe s) :
    (s.duty.pump = .starting → s.duty.confirm ≠ none →
      (settle (confirmActivated s)).duty = { s.duty with
        confirmed := true, confirm := none
        pump := if s.duty.inrush = none then .running else .starting
        yielding := decide (s.duty.inrush = none ∧ 0 < s.cfg.tMaxRun
          ∧ s.cfg.tMaxRun * 6000 ≤ s.duty.contRun) })
    ∧ (¬(s.duty.pump = .starting ∧ s.duty.confirm ≠ none) →
      (settle (confirmActivated s)).duty = { s.duty with runLoss := none }) := by
  refine ⟨fun starting confirm => ?_, fun other => ?_⟩
  · obtain ⟨closed, hold, -⟩ := p.closed (.inl starting)
    have notYielding : s.duty.yielding = false := Bool.eq_false_iff.2 fun y => by
      obtain ⟨-, -, -, -, yields, -⟩ := p
      exact absurd (yields y) (by simp [starting])
    have confirms : confirmActivated s = if s.duty.inrush.isNone
        then enterRunning (setDuty s { s.duty with confirmed := true, confirm := none })
        else setDuty s { s.duty with confirmed := true, confirm := none } :=
      if_pos (by simp [starting, Option.isSome_iff_ne_none, confirm])
    rw [confirms]
    generalize e : setDuty s { s.duty with confirmed := true, confirm := none } = v
    have duty : v.duty = { s.duty with confirmed := true, confirm := none } := by rw [← e]; rfl
    have cfg : v.cfg = s.cfg := by rw [← e]; rfl
    have hold : stopHold v = false := by rw [← e]; exact hold
    have closed : v.duty.contactor = true := by rw [duty]; exact closed
    have running : (enterRunning v).duty.contactor = true := closed
    have still : stopHold (enterRunning v) = false := hold
    cases inrush : s.duty.inrush with
    | none =>
      rw [Option.isNone_none, if_pos rfl, settle_duty_of_closed running still, enterRunning,
        setDuty_duty, duty, cfg]
      simp [notYielding, minutesTicks, inrush]
      rfl
    | some n =>
      rw [Option.isNone_some, if_neg (by simp), settle_duty_of_closed closed hold, duty]
      simp [notYielding, inrush, starting]
  · have stops : confirmActivated s = setDuty s { s.duty with runLoss := none } :=
      if_neg (by simpa [Option.isSome_iff_ne_none] using other)
    have safe : PumpSafe (setDuty s { s.duty with runLoss := none }) := by
      obtain ⟨closed, run, hand, idle, yielding, blocked, inrush, minRun, confirm, -, rest⟩ := p
      exact ⟨closed, run, hand, idle, yielding, blocked, inrush, minRun, confirm,
        fun h => absurd rfl h, rest⟩
    rw [stops, settle_duty_of_safe safe]
    rfl

/-- RUN_CONFIRM released (R67), the hold applied: a confirmed run's loss timer starts. -/
theorem settle_confirmReleased (p : PumpSafe s) : (settle (confirmReleased s)).duty = { s.duty with
    runLoss := if s.duty.confirmed then some 0 else s.duty.runLoss } := by
  cases c : s.duty.confirmed with
  | false =>
    have stays : confirmReleased s = s := if_neg (by simp [c])
    rw [stays, settle_duty_of_safe p]
    rfl
  | true =>
    obtain ⟨closed, run, hand, idle, yielding, blocked, inrush, minRun, confirm, -, confirmed, screen⟩ := p
    have starts : confirmReleased s = setDuty s { s.duty with runLoss := some 0 } :=
      if_pos (by simpa [c] using confirmed c)
    have safe : PumpSafe (setDuty s { s.duty with runLoss := some 0 }) :=
      ⟨closed, run, hand, idle, yielding, blocked, inrush, minRun, confirm, fun _ => c, confirmed, screen⟩
    rw [starts, settle_duty_of_safe safe]
    rfl

/-- MOISTURE accepted active (R79), the hold applied: under policy 2 it stops an automatic run. -/
theorem settle_moistureActivated (p : PumpSafe s) :
    (s.cfg.moisturePolicy = 2 → s.duty.pump = .starting ∨ s.duty.pump = .running →
      (settle (moistureActivated s)).duty.contactor = false
      ∧ (settle (moistureActivated s)).duty.inrush = none
      ∧ (settle (moistureActivated s)).duty.minRun = none
      ∧ (settle (moistureActivated s)).duty.minOff = (if s.cfg.tMinOff = 0 then none else some 0)
      ∧ (settle (moistureActivated s)).duty.pump
        = (if s.cfg.tMinOff = 0 then .idle else .lockedOff))
    ∧ (s.cfg.moisturePolicy ≠ 2 ∨ s.duty.pump ≠ .starting ∧ s.duty.pump ≠ .running →
      (settle (moistureActivated s)).duty = s.duty) := by
  refine ⟨fun policy run => ?_, fun other => ?_⟩
  · obtain ⟨closed, -, l⟩ := p.closed run
    have stops : moistureActivated s = enterLockedOff s := by
      rw [moistureActivated, if_pos policy, stopAutomatic, if_pos (by simpa using run)]
    rw [stops, settle_duty_of_safe (enterLockedOff_safe p rfl), enterLockedOff_of_closed closed l]
    exact ⟨rfl, rfl, rfl, rfl, rfl⟩
  · have stays : moistureActivated s = s := by
      unfold moistureActivated
      split
      · rename_i policy
        exact if_neg (by simpa using other.resolve_left fun n => n policy)
      · rfl
    rw [stays, settle_duty_of_safe p]

/-! ### WEIR_FLOAT (R106, R108, R110) -/

/-- The head source re-taken: the overflow state answers where it has changed. -/
theorem retakeSource_spec (s : State) : ∀ now, now = headSource s →
    (now = s.ovf.sourceActive → (retakeSource s).ovf = s.ovf)
    ∧ (now = true → s.ovf.sourceActive = false →
      (s.ovf.state = .idle → (retakeSource s).ovf = { s.ovf with
        sourceActive := true, state := .pending, pending := some 0 })
      ∧ (s.ovf.state = .tail → (retakeSource s).ovf = { s.ovf with
        sourceActive := true, state := .active, tail := none }))
    ∧ (now = false → s.ovf.sourceActive = true →
      (s.ovf.state = .pending → (retakeSource s).ovf = { s.ovf with
        sourceActive := false, state := .idle, pending := none })
      ∧ (s.ovf.state = .active → (retakeSource s).ovf = { s.ovf with
        sourceActive := false, state := .tail, tail := some 0, tailStamp := s.time.seconds })) := by
  rintro now rfl
  have turned : headSource s ≠ s.ovf.sourceActive → retakeSource s
      = answerSource (setOvf s { s.ovf with sourceActive := headSource s }) := fun h => if_neg h
  refine ⟨fun same => ?_, fun on was => ?_, fun off was => ?_⟩
  · rw [retakeSource, if_pos same]
  · rw [turned (by simp [on, was]), on]
    exact ⟨fun state => by simp [answerSource, state], fun state => by simp [answerSource, state]⟩
  · rw [turned (by simp [off, was]), off]
    exact ⟨fun state => by simp [answerSource, state], fun state => by simp [answerSource, state]⟩

/-! ### LAMP_TEST (R132) -/

/-- A pin is in the energised state of its output (R128, R132). -/
theorem pinsOf_getLsbD (s : State) {outputs : List OutputState} {k : Nat} (h : k < outputs.length)
    (n : outputs.length = 8) : (pinsOf s outputs).getLsbD k = energised s outputs[k] := by
  have bits : ∀ bs : List Bool,
      bs.foldr (fun b n => (if b then 1 else 0) + 2 * n) 0 = cellsNat bs := fun bs => by
    induction bs with
    | nil => rfl
    | cons b bs ih => rw [List.foldr_cons, ih, cellsNat]
  rw [pinsOf, bits, BitVec.getLsbD_ofNat, cellsNat_testBit]
  simp [show k < 8 by omega, h]

/-- The closing work's last act: every pin follows its output. -/
theorem settle_pins (l : loaded s = true) (n : s.panel.outputs.length = 8) (k : Fin 8) :
    (settle s).panel.pins.getLsbD k.val = energised (settle s) (outputAt (settle s) k) := by
  have entries := congrArg List.length (settle_entries s)
  rw [List.length_map, List.length_map, n] at entries
  have last : ∃ v, settle s = settlePanel v := ⟨_, rfl⟩
  obtain ⟨v, e⟩ := last
  have lv : loaded v = true := by
    rw [← l, ← (settle_station s).loaded, e]
    exact ((settlePanel_onlyClosing v).station.loaded).symm
  have lt : k.val < (settle s).panel.outputs.length := by rw [entries]; exact k.isLt
  have pins : (settle s).panel.pins = pinsOf (settle s) (settle s).panel.outputs := by
    rw [e, pins_settlePanel, if_pos lv]
  rw [pins, pinsOf_getLsbD _ lt entries, outputAt, List.getD_eq_getElem _ _ lt]

/-! ### LOW_FLOAT, HIGH_FLOAT and ALL_STOP in LINE_FAULT (R56, R57, R86) -/

/-- The state in which the re-formed demand may stop the pump. -/
def demandFormed (s : State) : State :=
  setStager (setDuty s { s.duty with
      fallbackDelay := delayAtCall s (decide (ownAddress s + 1 ≤ localDEff s)) })
    { s.stager with
      prevDEff := s.stager.dEff, dEff := localDEff s, dPre := localDPre s
      localCall := decide (ownAddress s + 1 ≤ localDEff s) }

theorem reformLocal_eq (m : s.line.mode = .lineFault) (l : loaded s = true) :
    reformLocal s = fallbackStop (demandFormed s) := if_pos (by simp [m, l])

/-- The stop hold keeps the fallback delay, but where a running pump falls to it (R62, R86). -/
theorem applyHold_delay (s : State) : (applyHold s).duty.fallbackDelay = s.duty.fallbackDelay
    ∨ (stopHold s = true ∧ (s.duty.pump = .starting ∨ s.duty.pump = .running)) := by
  unfold applyHold
  split
  · rename_i hold
    split
    · rename_i run
      exact .inr ⟨hold, by simpa using run⟩
    · left
      rw [openContactor_duty]
      split <;> rfl
  · left
    unfold closeInHand
    split <;> rfl

/-- The fallback delay after the re-formed demand (R86): the stop and the hold that may follow start it
in no case. -/
theorem settle_demandFormed_delay (hold : stopHold s = true →
      s.duty.pump = .starting ∨ s.duty.pump = .running → localDEff s = 0) :
    (settle (fallbackStop (demandFormed s))).duty.fallbackDelay
      = delayAtCall s (decide (ownAddress s + 1 ≤ localDEff s)) := by
  rw [settle_duty]
  by_cases call : ownAddress s + 1 ≤ localDEff s
  · have stays : fallbackStop (demandFormed s) = demandFormed s :=
      if_neg (by simp [demandFormed, setStager, call])
    rw [stays]
    obtain delay | ⟨held, run⟩ := applyHold_delay (demandFormed s)
    · exact delay
    · have none : localDEff s = 0 := hold held run
      omega
  · have off : (demandFormed s).stager.localCall = false := decide_eq_false call
    obtain ⟨-, -, delay⟩ := (fallbackStop_keepsLead _).trans (applyHold_keepsLead _)
    exact delay off

/-- The pump that the local call no longer wants stops (R57, R86). -/
theorem settle_demandFormed_stop (p : PumpSafe t) (same : s.duty = t.duty) (l : loaded s = true)
    (m : s.line.mode = .lineFault) (call : ¬ownAddress s + 1 ≤ localDEff s)
    (running : s.duty.pump = .running) (passed : minRunExpired s = true) :
    (settle (fallbackStop (demandFormed s))).duty.contactor = false
    ∧ (settle (fallbackStop (demandFormed s))).duty.pump
      = if s.cfg.tMinOff = 0 then .idle else .lockedOff := by
  have stops : fallbackStop (demandFormed s) = enterLockedOff (demandFormed s) := by
    have passed : minRunExpired (demandFormed s) = true := passed
    have off : (demandFormed s).stager.localCall = false := decide_eq_false call
    have fault : (demandFormed s).line.mode = .lineFault := m
    have runs : (demandFormed s).duty.pump = .running := running
    exact if_pos (by simp [fault, runs, off, passed])
  obtain ⟨closed, -⟩ := p.closed (.inr (same ▸ running))
  have base : PumpSafe (setDuty t (demandFormed s).duty) := by
    have duty : (demandFormed s).duty = { t.duty with
        fallbackDelay := delayAtCall s (decide (ownAddress s + 1 ≤ localDEff s)) } := by
      rw [← same]
      rfl
    rw [duty]
    exact p
  have safe : PumpSafe (enterLockedOff (demandFormed s)) := enterLockedOff_safe base rfl
  have closed : (demandFormed s).duty.contactor = true := (congrArg (·.contactor) same).trans closed
  rw [stops, settle_duty_of_safe safe, enterLockedOff_of_closed closed l]
  exact ⟨rfl, rfl⟩

/-- The stop hold that a float or ALL_STOP raises over a running pump is of its own input, which leaves no
local demand (R56, R57, R62). -/
theorem localDEff_accept (p : PumpSafe s) (n : s.inputs.length = 15) {i : Input} (h : formsDemand i)
    (hold : stopHold (accept i s) = true) (run : s.duty.pump = .starting ∨ s.duty.pump = .running) :
    localDEff (accept i s) = 0 := by
  obtain ⟨-, free, -⟩ := p.closed run
  have cool : isActive (accept i s) .thermal = isActive s .thermal :=
    isActive_accept_other n (by rintro rfl; simp [formsDemand] at h)
  have cells : ∀ b, cellUsed (accept i s) b = cellUsed s b := fun _ => rfl
  have line : (accept i s).line = s.line := rfl
  unfold stopHold at free hold
  rw [cool, cells, cells, line] at hold
  rw [localDEff_eq]
  cases stop : isActive (accept i s) .allStop with
  | true => rfl
  | false =>
    cases low : isActive (accept i s) .lowFloat with
    | true => rfl
    | false =>
      simp only [Bool.or_eq_false_iff] at free
      simp [stop, low, free] at hold

/-- What a float or ALL_STOP accepted in LINE_FAULT makes of the demand and the pump (R56, R57, R86). -/
theorem settle_reformLocal_accept (n : s.inputs.length = 15) {i : Input} (h : formsDemand i)
    (l : loaded s = true) (m : s.line.mode = .lineFault) : ∀ t,
    t = settle (answerInput i (accept i s)) →
    t.stager.dPre = (if isActive t .highFloat then max s.stager.d s.cfg.highFloatStage
      else s.stager.d)
    ∧ t.stager.dEff = (if isActive t .allStop then 0 else if isActive t .lowFloat then 0
      else t.stager.dPre)
    ∧ t.stager.prevDEff = s.stager.dEff ∧ t.stager.d = s.stager.d
    ∧ t.stager.dLine = s.stager.dLine
    ∧ t.stager.localCall = decide (ownAddress s + 1 ≤ t.stager.dEff)
    ∧ (PumpSafe s → t.duty.fallbackDelay = (if t.stager.localCall = false then .stopped
        else if s.stager.localCall = false ∧ s.duty.pump = .idle then
          if ownAddress s = 0 then .expired else .running 0
        else s.duty.fallbackDelay)
      ∧ (t.stager.localCall = false → s.duty.pump = .running → minRunExpired s = true →
        t.duty.contactor = false
        ∧ t.duty.pump = (if s.cfg.tMinOff = 0 then .idle else .lockedOff))) := by
  rintro t e
  have am : (accept i s).line.mode = .lineFault := m
  have al : loaded (accept i s) = true := l
  have active : ∀ j, isActive t j = isActive (accept i s) j := fun j => by
    unfold isActive inputState
    rw [e, (accepted_onlyAnswer i s).inputs]
  obtain ⟨formed, -⟩ := reformLocal_spec am al
  have stager : t.stager = { s.stager with
      prevDEff := s.stager.dEff, dEff := localDEff (accept i s), dPre := localDPre (accept i s)
      localCall := decide (ownAddress s + 1 ≤ localDEff (accept i s)) } := by
    rw [e, settle_stager, answerInput_demand h, formed]
    rfl
  rw [answerInput_demand h, reformLocal_eq am al] at e
  have eff := localDEff_eq (accept i s)
  have call : t.stager.localCall = decide (ownAddress s + 1 ≤ localDEff (accept i s)) := by rw [stager]
  simp only [active]
  refine ⟨?_, ?_, ?_, ?_, ?_, ?_, fun p => ⟨?_, fun off running passed => ?_⟩⟩
  · rw [stager]
    rfl
  · rw [stager]
    exact eff
  · rw [stager]
  · rw [stager]
  · rw [stager]
  · rw [stager]
  · rw [call, e, settle_demandFormed_delay (localDEff_accept p n h)]
    have own : ownAddress (accept i s) = ownAddress s := rfl
    have start : startedDelay (accept i s) = startedDelay s := rfl
    rw [delayAtCall, own, start, startedDelay]
    cases decide (ownAddress s + 1 ≤ localDEff (accept i s)) with
    | false => rfl
    | true =>
      have was : (accept i s).stager = s.stager := rfl
      have pump : (accept i s).duty = s.duty := rfl
      simp [was, pump]
  · rw [call] at off
    rw [e]
    exact settle_demandFormed_stop (s := accept i s) p rfl al am (of_decide_eq_false off) running passed

/-! ### The event whole -/

/-- WEIR_FLOAT's answer (R106), the head source formed of its new value. -/
theorem answer_weirFloat (n : s.inputs.length = 15) :
    (s.straps.weirEn = false ∨ s.cfg.weirFloatFitted = false ∨ loaded s = false →
      (answerInput .weirFloat (accept .weirFloat s)).ovf = s.ovf)
    ∧ (s.straps.weirEn = true → s.cfg.weirFloatFitted = true → loaded s = true →
      answerInput .weirFloat (accept .weirFloat s) = retakeSource (accept .weirFloat s)
      ∧ headSource (accept .weirFloat s) = (s.ovf.levelActive || !isActive s .weirFloat)) := by
  refine ⟨fun off => ?_, fun weir fitted l => ⟨?_, ?_⟩⟩
  · have stays : answerInput .weirFloat (accept .weirFloat s) = accept .weirFloat s := by
      refine if_neg fun on => ?_
      have on : (s.straps.weirEn && s.cfg.weirFloatFitted && loaded s) = true := on
      rcases off with h | h | h <;> simp [h] at on
    rw [stays]
    rfl
  · refine if_pos ?_
    show (s.straps.weirEn && s.cfg.weirFloatFitted && loaded s) = true
    simp [weir, fitted, l]
  · rw [headSource, isActive_accept_same n]
    show (s.ovf.levelActive || (s.cfg.weirFloatFitted && !isActive s .weirFloat)) = _
    rw [fitted, Bool.true_and]

/-- The demand stays but where a float or ALL_STOP forms it anew in LINE_FAULT (R56). -/
theorem answerInput_stager {i : Input}
    (h : ¬(formsDemand i ∧ s.line.mode = .lineFault ∧ loaded s = true)) :
    (answerInput i s).stager = s.stager := by
  by_cases demand : formsDemand i
  · rw [answerInput_demand demand, reformLocal_of_other fun x => h ⟨demand, x⟩]
  · by_cases weir : i = .weirFloat
    · subst weir
      exact (congrArg (·.stager) (answerInput_weir s)).trans rfl
    · exact (answerInput_onlyReply demand weir s).stager

/-- No input but WEIR_FLOAT reaches the Overflow Monitor (R106). -/
theorem answerInput_ovf {i : Input} (weir : i ≠ .weirFloat) (s : State) :
    (answerInput i s).ovf = s.ovf := by
  by_cases demand : formsDemand i
  · rw [answerInput_demand demand]
    exact (reformLocal_onlyPlant s).station.ovf
  · exact (answerInput_onlyReply demand weir s).ovf

/-- An accepted press of the acknowledge button in JOINED is kept for the next frame end (R125). -/
theorem settle_ackBtn_accept (n : s.inputs.length = 15) (was : isActive s .ackBtn = false)
    (l : loaded s = true) (joined : s.line.mode = .joined) :
    (settle (answerInput .ackBtn (accept .ackBtn s))).alarms.ackPress = true := by
  have on : isActive (accept .ackBtn s) .ackBtn = true := by
    rw [isActive_accept_same n, was]
    rfl
  have pressed : answerInput .ackBtn (accept .ackBtn s) = pressAck (accept .ackBtn s) := if_pos on
  have l : loaded (accept .ackBtn s) = true := l
  have joined : (accept .ackBtn s).line.mode = .joined := joined
  rw [settle_ackPress, pressed, pressAck, if_neg (by simp [l]), if_pos joined]

/-- RUN_CONFIRM's answer, by its new value (R66, R67). -/
theorem answer_runConfirm (n : s.inputs.length = 15) : answerInput .runConfirm (accept .runConfirm s) =
    if isActive s .runConfirm then confirmReleased (accept .runConfirm s)
    else confirmActivated (accept .runConfirm s) := by
  rw [answerInput, isActive_accept_same n]
  cases isActive s .runConfirm <;> rfl

/-- MOISTURE's answer, by its new value (R79). -/
theorem answer_moisture (n : s.inputs.length = 15) : answerInput .moisture (accept .moisture s) =
    if isActive s .moisture then accept .moisture s else moistureActivated (accept .moisture s) := by
  rw [answerInput, isActive_accept_same n]
  cases isActive s .moisture <;> rfl

/-- An accepted SUPPLY_LOW begins the quiet time of the fallback anew (R86). -/
theorem settle_supplyLow_accept (p : PumpSafe s) (n : s.inputs.length = 15)
    (was : isActive s .supplyLow = false) :
    (settle (answerInput .supplyLow (accept .supplyLow s))).duty
      = { s.duty with supplyInactive := 0 } := by
  have on : isActive (accept .supplyLow s) .supplyLow = true := by
    rw [isActive_accept_same n, was]
    rfl
  have resets : answerInput .supplyLow (accept .supplyLow s)
      = setDuty (accept .supplyLow s) { s.duty with supplyInactive := 0 } := if_pos on
  have safe : PumpSafe (setDuty (accept .supplyLow s) { s.duty with supplyInactive := 0 }) :=
    p.accept n nofun nofun nofun
  rw [resets, settle_duty_of_safe safe, setDuty_duty]

/-- An accepted LAMP_TEST energises every output, and its release shows each value again (R132). -/
theorem settle_lampTest_accept (n : s.inputs.length = 15) (l : loaded s = true)
    (outputs : s.panel.outputs.length = 8) (k : Fin 8) :
    ∀ t, t = settle (answerInput .lampTest (accept .lampTest s)) → t.panel.pins.getLsbD k.val
      = (!isActive s .lampTest || (shownValue t (outputAt t k) != (outputAt t k).entry.invert)) := by
  rintro t e
  have pin := settle_pins (s := accept .lampTest s) l outputs k
  have stays : answerInput .lampTest (accept .lampTest s) = accept .lampTest s := rfl
  rw [stays] at e
  have station := settle_station (accept .lampTest s)
  rw [← e] at pin station
  have loads : loaded t = true := station.loaded.trans l
  rw [energised, loads, station.isActive, isActive_accept_same n, Bool.true_and] at pin
  exact pin

/-- Settles O9. -/
theorem inputAccepted : Obligations.InputAccepted := by
  rintro i s ⟨n, -⟩ due
  have only := accepted_onlyAnswer i s
  have active : ∀ j, inputState (settle (answerInput i (accept i s))) j = inputState (accept i s) j :=
    fun j => by rw [inputState, inputState, only.inputs]
  have self : inputState (accept i s) i = ⟨!isActive s i, 0, false⟩ := by
    rw [inputState_accept n, if_pos rfl]
  refine ⟨settle (answerInput i (accept i s)), ?_, ?_, ?_, ?_, fun j other => ?_, only.time, only.straps,
    only.loader, only.cfg, only.line, only.gate, only.chanA, only.chanB, only.free, ?_,
    fun p _ => ⟨?_, ?_, ?_, ?_⟩, ?_, fun weir => ?_, ?_, ?_, fun low high stop => ?_, fun other => ?_⟩
  · unfold exec execInputAcceptedChange
    exact taken_of_can (fun s => answerInput i (accept i s)) s due
  · rw [isActive, active, self]
  · rw [active, self]
  · rw [active, self]
  · rw [active, inputState_accept n, if_neg other]
  · rintro rfl was l joined
    exact settle_ackBtn_accept n was l joined
  · rintro mode safe m formed
    have reforms : answerInput i (accept i s) = reformMode (accept i s) := by
      rcases mode with rfl | rfl <;> rfl
    have hold : stopHold (accept i s) = stopHold s := by
      rcases mode with rfl | rfl <;> exact stopHold_accept n nofun nofun nofun
    have safeNow : PumpSafe (accept i s) := p.congr rfl rfl hold rfl
    have value : m = modeOf (isActive (accept i s) .modeOff) (isActive (accept i s) .modeHand) := by
      rw [isActive_accept n, isActive_accept n]
      exact formed
    have answered := reformMode_answered safeNow (s := accept i s) safe m value
    rw [ModeAnswered, hold] at answered
    rw [reforms]
    exact answered
  · rintro rfl
    have safe := p.accept n (i := .runConfirm) nofun nofun nofun
    obtain ⟨confirms, stops⟩ := settle_confirmActivated safe
    rw [answer_runConfirm n]
    refine ⟨fun h starting confirm => ?_, fun h other => ?_, fun h => ?_⟩
    · rw [if_neg (by simp [h])]
      exact confirms starting confirm
    · rw [if_neg (by simp [h])]
      exact stops other
    · rw [if_pos h]
      exact settle_confirmReleased safe
  · rintro rfl
    have safe := p.accept n (i := .moisture) nofun nofun nofun
    obtain ⟨stops, stays⟩ := settle_moistureActivated safe
    rw [answer_moisture n]
    refine ⟨fun h policy run => ?_, fun other => ?_⟩
    · rw [if_neg (by simp [h])]
      exact stops policy run
    · split
      · exact settle_duty_of_safe safe
      · exact stays (other.resolve_left ‹_›)
  · rintro rfl was
    exact settle_supplyLow_accept p n was
  · rintro rfl
    obtain ⟨stays, takes⟩ := answer_weirFloat n
    rw [settle_ovf]
    refine ⟨stays, fun weir fitted l now e => ?_⟩
    obtain ⟨retakes, source⟩ := takes weir fitted l
    rw [retakes]
    exact retakeSource_spec (accept .weirFloat s) now (e.trans source.symm)
  · rw [settle_ovf, answerInput_ovf weir]
    rfl
  · rintro rfl l outputs k
    exact settle_lampTest_accept n l outputs k _ rfl
  · rintro demand l fault
    exact settle_reformLocal_accept n demand l fault _ rfl
  · have demand : ¬formsDemand i := by
      rintro (h | h | h)
      exacts [low h, high h, stop h]
    rw [settle_stager, answerInput_stager fun h => demand h.1]
    rfl
  · have off : ¬((accept i s).line.mode = .lineFault ∧ loaded (accept i s) = true) := by
      rintro ⟨fault, l⟩
      rcases other with h | h
      · exact absurd (h.symm.trans l) nofun
      · exact h fault
    rw [settle_stager, answerInput_stager fun h => off h.2]
    rfl

end Sys2Proof.Machine
end

section
/-! O36 and O37. The own stage's steps, and the start levels under the tide condition. -/

namespace Sys2Proof.Machine

open Sys2Proof

/-! ### The largest stage that satisfies a predicate -/

theorem largestStage_le (p : Nat → Bool) (n : Nat) : largestStage p n ≤ n := by
  induction n with
  | zero => exact Nat.le_refl 0
  | succ n ih =>
    unfold largestStage
    split
    · exact Nat.le_refl _
    · exact Nat.le_succ_of_le ih

theorem largestStage_eq_zero {p : Nat → Bool} {n : Nat} (none : ∀ k, 0 < k → k ≤ n → p k = false) :
    largestStage p n = 0 := by
  induction n with
  | zero => rfl
  | succ n ih =>
    rw [largestStage, none (n + 1) (Nat.succ_pos n) (Nat.le_refl _)]
    exact ih fun k pos le => none k pos (Nat.le_succ_of_le le)

/-- A stage that satisfies the predicate, with no larger one that does. -/
theorem largestStage_eq {p : Nat → Bool} {n k : Nat} (pos : 0 < k) (le : k ≤ n) (holds : p k = true)
    (larger : ∀ j, k < j → j ≤ n → p j = false) : largestStage p n = k := by
  induction n with
  | zero => omega
  | succ n ih =>
    rcases Nat.lt_or_eq_of_le le with lt | rfl
    · rw [largestStage, larger (n + 1) lt (Nat.le_refl _)]
      exact ih (Nat.le_of_lt_succ lt) fun j above le => larger j above (Nat.le_succ_of_le le)
    · rw [largestStage, holds, if_pos rfl]

/-- What is found satisfies the predicate, unless nothing is. -/
theorem largestStage_spec (p : Nat → Bool) (n : Nat) :
    largestStage p n = 0 ∨ p (largestStage p n) = true := by
  induction n with
  | zero => exact .inl rfl
  | succ n ih =>
    unfold largestStage
    split
    · rename_i holds
      exact .inr holds
    · exact ih

/-! ### The two steps (R48) -/

variable {c : Settings} {closed : Bool} {d e p : Nat}

theorem upStage_eq {k : Nat} (above : d < k) (le : k ≤ c.stageCount)
    (reached : adjustedStart c closed k ≤ p)
    (larger : ∀ j, k < j → j ≤ c.stageCount → p < adjustedStart c closed j) :
    upStage c closed d p = k :=
  largestStage_eq (Nat.zero_lt_of_lt above) le (by simp [above, reached]) fun j lt le => by
    simp [Nat.not_le.2 (larger j lt le)]

theorem upStage_eq_zero (none : ∀ k, d < k → k ≤ c.stageCount → p < adjustedStart c closed k) :
    upStage c closed d p = 0 :=
  largestStage_eq_zero fun k _ le => by
    by_cases above : d < k
    · simp [Nat.not_le.2 (none k above le)]
    · simp [above]

/-- An up step leads above the stage it starts from. -/
theorem upStage_above (c : Settings) (closed : Bool) (d p : Nat) :
    upStage c closed d p = 0 ∨ d < upStage c closed d p := by
  unfold upStage
  refine (largestStage_spec (fun k => decide (d < k) && decide (adjustedStart c closed k ≤ p)) _).imp
    id fun h => ?_
  simp only [Bool.and_eq_true, decide_eq_true_eq] at h
  exact h.1

theorem evaluateStage_up (up : upStage c closed d p ≠ 0) :
    evaluateStage c closed d e p = upStage c closed d p := if_pos up

theorem evaluateStage_down (up : upStage c closed d p = 0) (pos : 0 < d) (low : e ≤ stopLevel c d) :
    evaluateStage c closed d e p = downStage c d e := by
  simp [evaluateStage, up, pos, low]

theorem evaluateStage_kept (up : upStage c closed d p = 0) (high : d = 0 ∨ stopLevel c d < e) :
    evaluateStage c closed d e p = d := by
  have no : ¬(0 < d ∧ e ≤ stopLevel c d) := by omega
  simp only [evaluateStage, up, ne_eq, not_true, if_false, if_neg no]

/-- Settles O36: the up step, the down step, and neither. -/
theorem stageSteps : Obligations.StageSteps := by
  intro c closed d e p
  refine ⟨fun k above le reached larger => ?_, fun none => ⟨fun pos low => ⟨?_, fun all => ?_⟩,
    evaluateStage_kept (upStage_eq_zero none)⟩⟩
  · have up := upStage_eq above le reached larger
    rw [evaluateStage_up (by omega), up]
  · intro j posJ below level larger
    rw [evaluateStage_down (upStage_eq_zero none) pos low]
    exact largestStage_eq posJ (by omega) (decide_eq_true level) fun i lt le =>
      decide_eq_false (Nat.not_lt.2 (larger i lt (by omega)))
  · rw [evaluateStage_down (upStage_eq_zero none) pos low]
    exact largestStage_eq_zero fun j posJ le => decide_eq_false (Nat.not_lt.2 (all j posJ (by omega)))

/-! ### The start levels under the tide condition (R47) -/

theorem adjustedStart_open (c : Settings) (k : Nat) : adjustedStart c false k = startLevel c k := rfl

theorem adjustedStart_closed (c : Settings) (k : Nat) :
    adjustedStart c true k = max (startLevel c k - c.tideOffset) (stopLevel c k + 1) := rfl

/-- Settles O37. -/
theorem tideStartLevels : Obligations.TideStartLevels := by
  refine fun c => ⟨adjustedStart_open c, fun k => ?_, fun usable k pos le => ?_, fun d e p high => ?_⟩
  · rw [adjustedStart_closed]
    omega
  · obtain ⟨-, -, -, higher, climb, -⟩ := (tableUsable_iff c).1 usable
    have start := higher k pos le
    rw [adjustedStart_closed, adjustedStart_closed]
    refine ⟨by omega, by omega, fun lt => ?_⟩
    have next := climb k pos lt
    omega
  · rcases upStage_above c false d p with up | up
    · rw [evaluateStage_kept up (.inr high)]
    · rw [evaluateStage_up (by omega)]
      exact up.le

end Sys2Proof.Machine
end

section
/-! SUPPORT. Soundness of the pump: what every event keeps of the Duty Controller before the closing work
re-takes the holds. -/

namespace Sys2Proof.Machine

open Sys2Proof

variable {s t u : State}

/-! ### A run -/

/-- What `PumpSafe` and `ChangeoverSafe` say of a run, the stop hold and the screen aside. -/
def RunSound (s : State) : Prop :=
  (s.duty.contactor = true →
      (s.duty.pump = .starting ∨ s.duty.pump = .running ∨ s.duty.pump = .hand) ∧ loaded s = true)
  ∧ (s.duty.pump = .starting ∨ s.duty.pump = .running → s.duty.contactor = true)
  ∧ (s.duty.pump = .idle ∨ s.duty.pump = .startWait → loaded s = true)
  ∧ (s.duty.yielding = true → s.duty.pump = .running)
  ∧ (s.duty.changeoverBlocked = true → s.duty.yielding = true)
  ∧ (s.duty.inrush ≠ none → s.duty.contactor = true)
  ∧ (s.duty.minRun ≠ none → s.duty.pump = .starting ∨ s.duty.pump = .running)
  ∧ (s.duty.confirm ≠ none → s.duty.pump = .starting ∧ s.duty.confirmed = false)
  ∧ (s.duty.runLoss ≠ none → s.duty.confirmed = true)
  ∧ (s.duty.confirmed = true → s.duty.pump = .starting ∨ s.duty.pump = .running)
  ∧ ChangeoverSafe s

/-- Nothing of a run is left, and the changeover timer stands at 0. -/
def Still (d : Duty) : Prop := Unrun d ∧ d.changeover = 0

theorem PumpSafe.runSound (p : PumpSafe s) (c : ChangeoverSafe s) : RunSound s := by
  obtain ⟨closed, run, -, idle, yielding, blocked, inrush, minRun, confirm, runLoss, confirmed, -⟩ := p
  exact ⟨fun h => ⟨(closed h).1, (closed h).2.2⟩, run, idle, yielding, blocked, inrush, minRun, confirm,
    runLoss, confirmed, c⟩

/-- A pump whose contactor is open has nothing of a run left. -/
theorem RunSound.still (h : RunSound s) (open_ : s.duty.contactor = false) : Still s.duty := by
  obtain ⟨-, run, -, yields, blocked, inrush, minRun, confirm, runLoss, confirmed, -, zero, -⟩ := h
  have rests : ¬(s.duty.pump = .starting ∨ s.duty.pump = .running) := fun r =>
    absurd (run r) (by simp [open_])
  have yielding : s.duty.yielding = false := Bool.eq_false_iff.2 fun y => rests (.inr (yields y))
  have unconfirmed : s.duty.confirmed = false := Bool.eq_false_iff.2 fun c => rests (confirmed c)
  refine ⟨⟨open_, ?_, ?_, ?_, ?_, unconfirmed, yielding, ?_⟩, zero yielding⟩
  · exact not_not.1 fun n => absurd (inrush n) (by simp [open_])
  · exact not_not.1 fun n => rests (.inl (confirm n).1)
  · exact not_not.1 fun n => absurd (runLoss n) (by simp [unconfirmed])
  · exact not_not.1 fun n => rests (minRun n)
  · exact Bool.eq_false_iff.2 fun b => absurd (blocked b) (by simp [yielding])

/-- A pump in no running state with nothing of a run left. -/
theorem Still.runSound (h : Still s.duty) (starting : s.duty.pump ≠ .starting)
    (running : s.duty.pump ≠ .running)
    (idle : s.duty.pump = .idle ∨ s.duty.pump = .startWait → loaded s = true) : RunSound s := by
  obtain ⟨⟨contactor, inrush, confirm, runLoss, minRun, confirmed, yielding, blocked⟩, zero⟩ := h
  exact ⟨by simp [contactor], by simp [starting, running], idle, by simp [yielding], by simp [blocked],
    by simp [inrush], by simp [minRun], by simp [confirm], by simp [runLoss], by simp [confirmed],
    by simp [zero], fun _ => zero, by simp [blocked]⟩

/-- The contactor's opening leaves nothing of a run (R62). -/
theorem RunSound.opened (h : RunSound s) : Still (openContactor s).duty := by
  cases c : s.duty.contactor with
  | true =>
    rw [openContactor_of_closed c]
    exact ⟨⟨rfl, rfl, rfl, rfl, rfl, rfl, rfl, rfl⟩, rfl⟩
  | false =>
    rw [openContactor_of_open c]
    exact h.still c

theorem openContactor_loaded (s : State) : loaded (openContactor s) = loaded s :=
  (openContactor_onlyDuty s).station.loaded

theorem RunSound.enterLockedOff (h : RunSound s) : RunSound (enterLockedOff s) := by
  obtain ⟨e, -⟩ | ⟨e, -, l⟩ := enterLockedOff_cases s <;> rw [e]
  · exact Still.runSound (s := setPump (openContactor s) .lockedOff) h.opened nofun nofun
      (by rintro (e | e) <;> exact nomatch e)
  · exact Still.runSound (s := enterIdle (openContactor s)) h.opened nofun nofun fun _ =>
      (openContactor_loaded s).trans l

theorem RunSound.enterOutOfService (h : RunSound s) : RunSound (enterOutOfService s) :=
  Still.runSound (s := setPump (openContactor s) .outOfService) h.opened nofun nofun
    (by rintro (e | e) <;> exact nomatch e)

theorem RunSound.enterFaulted (c : AlarmCode) (h : RunSound s) : RunSound (enterFaulted c s) := by
  obtain ⟨⟨contactor, inrush, confirm, runLoss, minRun, confirmed, -, -⟩, -⟩ := h.opened
  exact Still.runSound ⟨⟨contactor, inrush, confirm, runLoss, minRun, confirmed, rfl, rfl⟩, rfl⟩ nofun
    nofun (by rintro (e | e) <;> exact nomatch e)

/-- A pump that passes to IDLE from a state with an open contactor. -/
theorem RunSound.enterIdle (h : RunSound s) (open_ : s.duty.contactor = false) (l : loaded s = true) :
    RunSound (enterIdle s) :=
  Still.runSound (s := Machine.enterIdle s) (h.still open_) nofun nofun fun _ => l

/-- In HAND the contactor closes where nothing of a run is left (R61). -/
theorem RunSound.closeInHand (h : RunSound s) : RunSound (closeInHand s) := by
  unfold Machine.closeInHand
  split
  · rename_i g
    simp only [Bool.and_eq_true, beq_iff_eq, Bool.not_eq_true'] at g
    obtain ⟨⟨⟨hand, open_⟩, l⟩, -⟩ := g
    obtain ⟨⟨-, -, confirm, runLoss, minRun, confirmed, yielding, blocked⟩, zero⟩ := h.still open_
    exact ⟨fun _ => ⟨.inr (.inr hand), l⟩, fun _ => rfl, by simp [handClosure, hand],
      by simp [handClosure, yielding], by simp [handClosure, blocked], fun _ => rfl,
      by simp [handClosure, minRun], by simp [handClosure, confirm], by simp [handClosure, runLoss],
      by simp [handClosure, confirmed], by simp [handClosure, zero], fun _ => zero,
      by simp [handClosure, blocked]⟩
  · exact h

theorem RunSound.enterHand (h : RunSound s) : RunSound (enterHand s) := by
  unfold Machine.enterHand
  split
  · rename_i closed
    obtain ⟨runs, -, -, -, -, inrush, -⟩ := h
    exact ⟨fun _ => ⟨.inr (.inr rfl), (runs closed).2⟩, fun _ => closed,
      (by rintro (e | e) <;> exact nomatch e), nofun, nofun, inrush, fun n => absurd rfl n,
      fun n => absurd rfl n, fun n => absurd rfl n, nofun, Nat.zero_le _, fun _ => rfl, nofun⟩
  · rename_i open_
    exact RunSound.closeInHand (Still.runSound (s := setPump s .hand)
      (h.still (by simpa using open_)) nofun nofun (by rintro (e | e) <;> exact nomatch e))

/-! ### What the pump's operations leave -/

/-- The pump, its timers and its mode may change; the lead and the window do not, and no run and no wait
for a start begins. -/
structure Quiet (s t : State) : Prop where
  only : OnlyDuty s t
  lead : KeepsLead s t
  window : t.duty.window = s.duty.window
  runs : t.duty.pump = .starting ∨ t.duty.pump = .running →
    s.duty.pump = .starting ∨ s.duty.pump = .running
  waits : t.duty.pump = .startWait → s.duty.pump = .startWait

theorem Quiet.refl (s : State) : Quiet s s := ⟨rfl, .refl s, rfl, id, id⟩

theorem Quiet.trans (h : Quiet s t) (k : Quiet t u) : Quiet s u :=
  ⟨h.only.trans k.only, h.lead.trans k.lead, k.window.trans h.window, h.runs ∘ k.runs,
    h.waits ∘ k.waits⟩

theorem Quiet.of_ite {p : Prop} [Decidable p] {a b : State} (h : Quiet s a) (k : Quiet s b) :
    Quiet s (if p then a else b) := by
  split <;> assumption

/-- A change of the pump's timers and flags alone. -/
theorem setDuty_quiet (s : State) {d : Duty} (pump : d.pump = s.duty.pump)
    (lead : d.holdsLead = s.duty.holdsLead) (window : d.window = s.duty.window)
    (delay : d.fallbackDelay = s.duty.fallbackDelay) : Quiet s (setDuty s d) :=
  ⟨rfl, ⟨rfl, lead, fun _ => delay⟩, window, by simp [pump], by simp [pump]⟩

theorem openContactor_quiet (s : State) : Quiet s (openContactor s) :=
  .of_ite (setDuty_quiet s rfl rfl rfl rfl) (.refl s)

/-- A pump state that is neither a run nor a wait for a start. -/
theorem setPump_quiet (s : State) {p : PumpState}
    (rests : p ≠ .starting ∧ p ≠ .running ∧ p ≠ .startWait) : Quiet s (setPump s p) := by
  obtain ⟨starting, running, wait⟩ := rests
  exact ⟨rfl, setPump_keepsLead s p, rfl, fun r => r.elim (absurd · starting) (absurd · running),
    (absurd · wait)⟩

theorem enterIdle_quiet (s : State) : Quiet s (enterIdle s) :=
  ⟨rfl, enterIdle_keepsLead s, rfl, by simp [enterIdle], by simp [enterIdle]⟩

theorem enterLockedOff_quiet (s : State) : Quiet s (enterLockedOff s) :=
  (openContactor_quiet s).trans (.of_ite (enterIdle_quiet _) (setPump_quiet _ (by decide)))

theorem enterOutOfService_quiet (s : State) : Quiet s (enterOutOfService s) :=
  (openContactor_quiet s).trans (setPump_quiet _ (by decide))

theorem closeInHand_quiet (s : State) : Quiet s (closeInHand s) :=
  .of_ite (setDuty_quiet s rfl rfl rfl rfl) (.refl s)

theorem enterHand_quiet (s : State) : Quiet s (enterHand s) :=
  .of_ite (Quiet.trans (t := setPump s .hand) (setPump_quiet s (by decide))
      (setDuty_quiet (setPump s .hand) rfl rfl rfl rfl))
    ((setPump_quiet s (by decide)).trans (closeInHand_quiet _))

theorem enterFaulted_quiet (c : AlarmCode) (s : State) : Quiet s (enterFaulted c s) :=
  (openContactor_quiet s).trans <| (setPump_quiet _ (p := .faulted) (by decide)).trans
    (setDuty_quiet (setPump (openContactor s) .faulted) rfl rfl rfl rfl)

/-! ### The mode -/

/-- What `ModeSafe` says of the pump, the frame and the command aside. -/
def ModeFits (s : State) : Prop :=
  (s.duty.mode = .off → s.duty.pump = .outOfService ∨ s.duty.pump = .faulted)
  ∧ (s.duty.mode = .hand → s.duty.pump = .hand ∨ s.duty.pump = .faulted)
  ∧ (s.duty.mode = .auto → s.duty.pump ≠ .hand)
  ∧ (s.duty.mode = .auto → s.duty.inhibit = true →
      s.duty.pump = .outOfService ∨ s.duty.pump = .faulted)
  ∧ (s.duty.mode = .auto → s.duty.pump = .outOfService → s.duty.inhibit = true)
  ∧ (s.duty.pump = .faulted ↔ s.duty.causes ≠ [])
  ∧ (∀ c ∈ s.duty.causes, c = .thermalTrip ∨ c = .startFail ∨ c = .runLost)
  ∧ (captured s = false → s.duty.inhibit = false ∧ s.duty.causes = [])

theorem ModeSafe.fits (h : ModeSafe s) : ModeFits s := by
  obtain ⟨off, hand, auto, inhibit, out, faulted, causes, before⟩ := h
  exact ⟨off, hand, auto, inhibit, out, faulted, causes, fun c => (before c).2.2⟩

/-- A state of the pump that only AUTO has, not inhibited (R59). -/
def Automatic (p : PumpState) : Prop := p ≠ .outOfService ∧ p ≠ .faulted ∧ p ≠ .hand

theorem ModeFits.automatic (h : ModeFits s) (a : Automatic s.duty.pump) :
    s.duty.mode = .auto ∧ s.duty.inhibit = false ∧ s.duty.causes = [] := by
  obtain ⟨off, hand, -, inhibit, -, faulted, -⟩ := h
  obtain ⟨notOut, notFaulted, notHand⟩ := a
  have mode : s.duty.mode = .auto := by
    cases m : s.duty.mode with
    | auto => rfl
    | off => exact ((off m).elim notOut notFaulted).elim
    | hand => exact ((hand m).elim notHand notFaulted).elim
  refine ⟨mode, Bool.eq_false_iff.2 fun i => (inhibit mode i).elim notOut notFaulted, ?_⟩
  exact not_not.1 fun n => notFaulted (faulted.2 n)

theorem ModeFits.of_automatic (a : Automatic t.duty.pump) (mode : t.duty.mode = .auto)
    (inhibit : t.duty.inhibit = false) (causes : t.duty.causes = []) : ModeFits t := by
  obtain ⟨notOut, notFaulted, notHand⟩ := a
  exact ⟨by simp [mode], by simp [mode], fun _ => notHand, by simp [inhibit],
    fun _ out => absurd out notOut, by simp [notFaulted, causes], by simp [causes],
    fun _ => ⟨inhibit, causes⟩⟩

/-- The mode, the inhibit flag and the causes are as they were, and so is the pump's state, or both are
such as only AUTO has. -/
structure SameMode (s t : State) : Prop where
  mode : t.duty.mode = s.duty.mode
  inhibit : t.duty.inhibit = s.duty.inhibit
  causes : t.duty.causes = s.duty.causes
  pump : t.duty.pump = s.duty.pump ∨ Automatic s.duty.pump ∧ Automatic t.duty.pump

theorem SameMode.refl (s : State) : SameMode s s := ⟨rfl, rfl, rfl, .inl rfl⟩

theorem SameMode.trans (h : SameMode s t) (k : SameMode t u) : SameMode s u := by
  refine ⟨k.mode.trans h.mode, k.inhibit.trans h.inhibit, k.causes.trans h.causes, ?_⟩
  rcases h.pump with e | ⟨a, b⟩ <;> rcases k.pump with e' | ⟨a', b'⟩
  · exact .inl (e'.trans e)
  · exact .inr ⟨e ▸ a', b'⟩
  · exact .inr ⟨a, e' ▸ b⟩
  · exact .inr ⟨a, b'⟩

theorem SameMode.of_ite {p : Prop} [Decidable p] {a b : State} (h : SameMode s a) (k : SameMode s b) :
    SameMode s (if p then a else b) := by
  split <;> assumption

theorem ModeFits.same (h : ModeFits s) (k : SameMode s t) (c : captured t = captured s) :
    ModeFits t := by
  obtain ⟨mode, inhibit, causes, e | ⟨a, b⟩⟩ := k
  · unfold ModeFits at h ⊢
    rwa [mode, inhibit, causes, e, c]
  · obtain ⟨auto, free, none⟩ := h.automatic a
    exact .of_automatic b (mode.trans auto) (inhibit.trans free) (causes.trans none)

theorem openContactor_sameMode (s : State) : SameMode s (openContactor s) := by
  unfold openContactor
  split <;> exact ⟨rfl, rfl, rfl, .inl rfl⟩

theorem setPump_sameMode {p : PumpState} (a : Automatic s.duty.pump) (b : Automatic p) :
    SameMode s (setPump s p) := ⟨rfl, rfl, rfl, .inr ⟨a, b⟩⟩

theorem enterIdle_sameMode (a : Automatic s.duty.pump) : SameMode s (enterIdle s) :=
  ⟨rfl, rfl, rfl, .inr ⟨a, by unfold Automatic enterIdle; simp⟩⟩

theorem enterLockedOff_automatic (s : State) : Automatic (enterLockedOff s).duty.pump := by
  unfold Automatic
  rcases enterLockedOff_pump s with e | e <;> simp [e]

theorem enterLockedOff_mode_inhibit_causes (s : State) :
    (enterLockedOff s).duty.mode = s.duty.mode ∧ (enterLockedOff s).duty.inhibit = s.duty.inhibit
      ∧ (enterLockedOff s).duty.causes = s.duty.causes := by
  obtain ⟨mode, inhibit, causes, -⟩ := openContactor_sameMode s
  obtain ⟨e, -⟩ | ⟨e, -⟩ := enterLockedOff_cases s <;> rw [e] <;> exact ⟨mode, inhibit, causes⟩

theorem enterLockedOff_sameMode (a : Automatic s.duty.pump) : SameMode s (enterLockedOff s) := by
  obtain ⟨mode, inhibit, causes⟩ := enterLockedOff_mode_inhibit_causes s
  exact ⟨mode, inhibit, causes, .inr ⟨a, enterLockedOff_automatic s⟩⟩

theorem closeInHand_sameMode (s : State) : SameMode s (closeInHand s) :=
  .of_ite ⟨rfl, rfl, rfl, .inl rfl⟩ (.refl s)

theorem automatic_of_run (run : s.duty.pump = .starting ∨ s.duty.pump = .running) :
    Automatic s.duty.pump := by
  unfold Automatic
  rcases run with e | e <;> simp [e]

/-! ### What ties the pump to the screen, the line and the demand -/

/-- No automatic run under a BLOCKED screen or in ISOLATED (R80, R85); the lead and the wait for a start
belong to JOINED, the local call and its delay to LINE_FAULT. -/
def Ties (s : State) : Prop :=
  (s.screen.condition = .blocked ∨ s.line.mode = .isolated →
      s.duty.pump ≠ .starting ∧ s.duty.pump ≠ .running)
  ∧ (s.duty.holdsLead = true ∨ s.duty.pump = .startWait → s.line.mode = .joined)
  ∧ (s.stager.localCall = true ∨ s.duty.fallbackDelay ≠ .stopped → s.line.mode = .lineFault)

/-- The lead and the wait for a start stay a JOINED station's. -/
theorem Quiet.joined (k : Quiet s t)
    (h : s.duty.holdsLead = true ∨ s.duty.pump = .startWait → s.line.mode = .joined) :
    t.duty.holdsLead = true ∨ t.duty.pump = .startWait → t.line.mode = .joined := by
  obtain ⟨only, ⟨-, lead, -⟩, -, -, waits⟩ := k
  rw [only.onlyPlant.line, lead]
  exact fun j => h (j.imp_right waits)

/-- The local call and its delay stay LINE_FAULT's. -/
theorem Quiet.fault (k : Quiet s t)
    (h : s.stager.localCall = true ∨ s.duty.fallbackDelay ≠ .stopped → s.line.mode = .lineFault) :
    t.stager.localCall = true ∨ t.duty.fallbackDelay ≠ .stopped → t.line.mode = .lineFault := by
  obtain ⟨only, ⟨stager, -, delay⟩, -⟩ := k
  rw [only.onlyPlant.line, stager]
  intro f
  by_cases c : s.stager.localCall = true
  · exact h (.inl c)
  · exact h (f.imp_right fun ne => delay (Bool.eq_false_iff.2 c) ▸ ne)

theorem Ties.quiet (h : Ties s) (k : Quiet s t) : Ties t := by
  obtain ⟨runs, joined, fault⟩ := h
  refine ⟨fun b => not_or.1 fun r => ?_, k.joined joined, k.fault fault⟩
  rw [(congrArg (·.screen) k.only).trans rfl, k.only.onlyPlant.line] at b
  exact (k.runs r).elim (runs b).1 (runs b).2

/-- A pump at rest is tied to nothing of the screen or of ISOLATED. -/
theorem Ties.rested (k : Quiet s t) (rests : t.duty.pump ≠ .starting ∧ t.duty.pump ≠ .running)
    (joined : s.duty.holdsLead = true ∨ s.duty.pump = .startWait → s.line.mode = .joined)
    (fault : s.stager.localCall = true ∨ s.duty.fallbackDelay ≠ .stopped →
      s.line.mode = .lineFault) : Ties t :=
  ⟨fun _ => rests, k.joined joined, k.fault fault⟩

/-! ### The Duty Controller whole -/

/-- What every event keeps of the Duty Controller before the closing work. -/
def DutySound (s : State) : Prop := RunSound s ∧ ModeFits s ∧ WindowSafe s ∧ Ties s

theorem DutySound.run (h : DutySound s) : RunSound s := h.1
theorem DutySound.mode (h : DutySound s) : ModeFits s := h.2.1
theorem DutySound.window (h : DutySound s) : WindowSafe s := h.2.2.1
theorem DutySound.ties (h : DutySound s) : Ties s := h.2.2.2

theorem OnlyDuty.captured (h : OnlyDuty s t) : captured t = captured s := by
  unfold Machine.captured
  rw [h.station.loader]

theorem WindowSafe.same (h : WindowSafe s) (window : t.duty.window = s.duty.window)
    (cfg : t.cfg = s.cfg) (loader : t.loader = s.loader) : WindowSafe t := by
  unfold WindowSafe loaded at h ⊢
  rwa [window, cfg, loader]

theorem DutySound.quiet (h : DutySound s) (k : Quiet s t) (run : RunSound t) (mode : ModeFits t) :
    DutySound t :=
  ⟨run, mode, h.window.same k.window k.only.station.cfg k.only.station.loader, h.ties.quiet k⟩

/-- The pump is eased: a run may stop, in whatever mode. -/
structure Eases (s t : State) : Prop where
  quiet : Quiet s t
  mode : SameMode s t
  run : RunSound s → RunSound t

theorem Eases.refl (s : State) : Eases s s := ⟨.refl s, .refl s, id⟩

theorem Eases.trans (h : Eases s t) (k : Eases t u) : Eases s u :=
  ⟨h.quiet.trans k.quiet, h.mode.trans k.mode, fun r => k.run (h.run r)⟩

theorem DutySound.eased (h : DutySound s) (k : Eases s t) : DutySound t :=
  h.quiet k.quiet (k.run h.run) (h.mode.same k.mode k.quiet.only.captured)

theorem enterLockedOff_eases (a : Automatic s.duty.pump) : Eases s (enterLockedOff s) :=
  ⟨enterLockedOff_quiet s, enterLockedOff_sameMode a, RunSound.enterLockedOff⟩

theorem closeInHand_eases (s : State) : Eases s (closeInHand s) :=
  ⟨closeInHand_quiet s, closeInHand_sameMode s, RunSound.closeInHand⟩

theorem enterIdle_eases (a : Automatic s.duty.pump) (open_ : RunSound s → s.duty.contactor = false)
    (l : RunSound s → loaded s = true) : Eases s (enterIdle s) :=
  ⟨enterIdle_quiet s, enterIdle_sameMode a, fun r => r.enterIdle (open_ r) (l r)⟩

theorem stopAutomatic_eases (s : State) : Eases s (stopAutomatic s) := by
  obtain ⟨run, e⟩ | ⟨-, e⟩ := stopAutomatic_cases s <;> rw [e]
  · exact enterLockedOff_eases (automatic_of_run run)
  · exact .refl s

/-- A stop leaves no automatic run. -/
theorem stopAutomatic_rests (s : State) :
    (stopAutomatic s).duty.pump ≠ .starting ∧ (stopAutomatic s).duty.pump ≠ .running := by
  obtain ⟨-, e⟩ | ⟨rests, e⟩ := stopAutomatic_cases s <;> rw [e]
  · rcases enterLockedOff_pump s with e | e <;> simp [e]
  · exact not_or.1 rests

theorem fallbackStop_eases (s : State) : Eases s (fallbackStop s) := by
  unfold fallbackStop
  split
  · rename_i g
    simp only [Bool.and_eq_true, beq_iff_eq] at g
    obtain ⟨⟨⟨-, running⟩, -⟩, -⟩ := g
    exact enterLockedOff_eases (automatic_of_run (.inr running))
  · exact .refl s

/-- The contactor's opening in a state that is no automatic run, as in HAND (R62). -/
theorem openContactor_eases (rests : ¬(s.duty.pump = .starting ∨ s.duty.pump = .running)) :
    Eases s (openContactor s) := by
  refine ⟨openContactor_quiet s, openContactor_sameMode s, fun r => ?_⟩
  obtain ⟨starting, running⟩ := not_or.1 rests
  have idle := r.2.2.1
  rw [← openContactor_pump, ← openContactor_loaded] at idle
  rw [← openContactor_pump] at starting running
  exact r.opened.runSound starting running idle

theorem applyHold_eases (s : State) : Eases s (applyHold s) := by
  unfold applyHold
  split
  · split
    · rename_i run
      exact enterLockedOff_eases (automatic_of_run (by simpa using run))
    · rename_i rests
      exact openContactor_eases (by simpa using rests)
  · exact closeInHand_eases s

end Sys2Proof.Machine
end

section
/-! SUPPORT. What every event keeps before its closing work, and that the closing work makes it safe. -/

namespace Sys2Proof.Machine

open Sys2Proof

variable {s t u : State}

/-! ### The line and the rake -/

/-- What `LineSafe` says of the line's own record. -/
def LineFits (l : Line) : Prop :=
  (l.driver = .cut ↔ l.mode = .isolated)
  ∧ (l.due = true ∨ l.syncDriving = true ∨ l.alone = true ∨ l.drive ≠ none → l.mode = .joined)
  ∧ (l.drive ≠ none → l.receiver = .inside)
  ∧ (l.noticeWon = true → l.drive ≠ none)
  ∧ (stuckNow l = true → l.mode = .lineFault ∨ l.mode = .isolated)
  ∧ l.peers.length = 8

/-- What `RakeSafe` says of the rake, the rake stop and the requests aside; `l`: the loader has
finished. -/
def RakeFits (l : Bool) (g : Screen) : Prop :=
  (g.motor = true ↔ g.rake = .run)
  ∧ (g.rakeRun.isSome = true ↔ g.rake = .run)
  ∧ (g.rakeInrush.isSome = true → g.rake = .run)
  ∧ (g.pause.isSome = true ↔ g.rake = .pause)
  ∧ (l = false → g.rake = .idle)
  ∧ (g.jams ≤ 2 ∧ (g.jams = 2 ↔ g.rake = .locked))

theorem RakeFits.same {l : Bool} {g h : Screen} (r : RakeFits l g) (k : SameRake g h) :
    RakeFits l h := by
  obtain ⟨motor, rake, run, inrush, pause, jams⟩ := k
  unfold RakeFits at r ⊢
  rwa [motor, rake, run, inrush, pause, jams]

theorem SameRake.refl (g : Screen) : SameRake g g := ⟨rfl, rfl, rfl, rfl, rfl, rfl⟩

/-- Before the straps are captured no frame runs and no command is at hand. -/
def Fresh (s : State) : Prop :=
  captured s = false → s.line.receiver = .searching ∧ s.notices.command = none

theorem Fresh.of_captured (c : captured s = true) : Fresh s := fun f =>
  absurd (c.symm.trans f) nofun

/-! ### The whole -/

/-- What every event keeps before its closing work. -/
structure Sound (s : State) : Prop where
  duty : DutySound s
  line : LineFits s.line
  rake : RakeFits (loaded s) s.screen
  inputs : InputSafe s
  settings : SettingsSafe s
  stage : StageSafe s
  overflow : OverflowSafe s
  fresh : Fresh s

/-- All that O59 says of a state. -/
def PlantSafe (s : State) : Prop :=
  InputSafe s ∧ PumpSafe s ∧ ModeSafe s ∧ WindowSafe s ∧ RakeSafe s ∧ LineSafe s
    ∧ SettingsSafe s ∧ StageSafe s ∧ OverflowSafe s ∧ ChangeoverSafe s

theorem Good.plantSafe (h : Good s) : PlantSafe s := by
  obtain ⟨inputs, pump, mode, window, rake, line, settings, stage, ovf, -, -, -, -, changeover⟩ := h
  exact ⟨inputs, pump, mode, window, rake, line, settings, stage, ovf, changeover⟩

theorem PlantSafe.sound (h : PlantSafe s) : Sound s := by
  obtain ⟨inputs, pump, mode, window, rake, line, settings, stage, ovf, changeover⟩ := h
  obtain ⟨-, -, -, -, -, -, -, -, -, -, -, blocked⟩ := id pump
  obtain ⟨-, -, -, -, -, -, -, before⟩ := id mode
  obtain ⟨motor, run, inrush, pause, -, idle, -, jams⟩ := rake
  obtain ⟨cut, joined, fault, isolated, drive, won, stuck, peers⟩ := line
  refine ⟨⟨pump.runSound changeover, mode.fits, window, ?_, ?_, fault⟩, ⟨cut, ?_, drive, won, stuck, peers⟩,
    ⟨motor, run, inrush, pause, idle, jams⟩, inputs, settings, stage, ovf, fun c => ?_⟩
  · rintro (b | i)
    · exact blocked b
    · exact isolated i
  · exact fun j => joined (.inr (.inr (.inr (.inr j))))
  · exact fun j => joined (j.imp_right (Or.imp_right (Or.imp_right .inl)))
  · exact ⟨(before c).1, (before c).2.1⟩

/-! ### What an operation leaves -/

theorem RunSound.congr (h : RunSound s) (duty : t.duty = s.duty) (loader : t.loader = s.loader) :
    RunSound t := by
  unfold RunSound ChangeoverSafe Machine.loaded at h ⊢
  rwa [duty, loader]

theorem ModeFits.congr (h : ModeFits s) (duty : t.duty = s.duty) (loader : t.loader = s.loader) :
    ModeFits t :=
  h.same ⟨by rw [duty], by rw [duty], by rw [duty], .inl (by rw [duty])⟩
    (by unfold Machine.captured; rw [loader])

theorem DutySound.retied (h : DutySound s) (duty : t.duty = s.duty) (loader : t.loader = s.loader)
    (cfg : t.cfg = s.cfg) (ties : Ties t) : DutySound t := by
  obtain ⟨run, mode, window, -⟩ := h
  exact ⟨run.congr duty loader, mode.congr duty loader, window.same (by rw [duty]) cfg loader, ties⟩

theorem Ties.congr (h : Ties s) (duty : t.duty = s.duty)
    (condition : t.screen.condition = s.screen.condition) (mode : t.line.mode = s.line.mode)
    (call : t.stager.localCall = s.stager.localCall) : Ties t := by
  unfold Ties at h ⊢
  rwa [duty, condition, mode, call]

theorem OnlyStation.captured (h : OnlyStation s t) : captured t = captured s := by
  unfold Machine.captured
  rw [h.loader]

/-- An event of the station leaves the inputs, the settings and the weir; the rest is to be shown. -/
theorem Sound.onlyStation (h : Sound s) (k : OnlyStation s t) (duty : DutySound t)
    (line : LineFits t.line) (rake : RakeFits (loaded t) t.screen) (stage : StageSafe t)
    (fresh : Fresh t) : Sound t := by
  refine ⟨duty, line, rake, ?_, ?_, stage, ?_, fresh⟩
  · have e := h.inputs
    unfold InputSafe at e ⊢
    rwa [k.inputs, k.captured]
  · have e := h.settings
    unfold SettingsSafe at e ⊢
    rwa [k.cfg, k.loader, k.loaded]
  · have e := h.overflow
    unfold OverflowSafe at e ⊢
    rwa [k.ovf, k.straps, k.loaded]

/-- The stages are safe where the own stage is as it was and every demand is 8 or less. -/
theorem StageSafe.station (h : StageSafe s) (k : OnlyStation s t) (d : t.stager.d = s.stager.d)
    (usable : t.stager.usable = s.stager.usable)
    (demands : t.stager.dLine ≤ 8 ∧ t.stager.dPre ≤ 8 ∧ t.stager.dEff ≤ 8) : StageSafe t := by
  unfold StageSafe at h ⊢
  rw [d, usable, k.cfg, k.loaded, k.chanA, k.chanB]
  obtain ⟨own, zero, before, -, -, -, channels⟩ := h
  exact ⟨own, zero, before, demands.1, demands.2.1, demands.2.2, channels⟩

theorem StageSafe.demands (h : StageSafe s) :
    s.stager.dLine ≤ 8 ∧ s.stager.dPre ≤ 8 ∧ s.stager.dEff ≤ 8 := by
  obtain ⟨-, -, -, line, pre, eff, -⟩ := h
  exact ⟨line, pre, eff⟩

theorem StageSafe.same (h : StageSafe s) (k : OnlyStation s t) (stager : t.stager = s.stager) :
    StageSafe t :=
  h.station k (by rw [stager]) (by rw [stager]) (by rw [stager]; exact h.demands)

/-- An event that leaves the line and the stager. -/
theorem Sound.onlyClosing (h : Sound s) (k : OnlyClosing s t) (duty : DutySound t)
    (rake : RakeFits (loaded t) t.screen) : Sound t := by
  refine h.onlyStation k.station duty ?_ rake (h.stage.same k.station k.stager) ?_
  · rw [k.line]
    exact h.line
  · have e := h.fresh
    unfold Fresh at e ⊢
    rwa [k.station.captured, k.line, k.received]

/-- An event of the Duty Controller alone. -/
theorem Sound.onlyDuty (h : Sound s) (k : OnlyDuty s t) (duty : DutySound t) : Sound t := by
  have screen : t.screen = s.screen := (congrArg (·.screen) k).trans rfl
  refine h.onlyClosing k.onlyClosing duty ?_
  rw [screen, k.station.loaded]
  exact h.rake

theorem Sound.eased (h : Sound s) (k : Eases s t) : Sound t := h.onlyDuty k.quiet.only (h.duty.eased k)

theorem Sound.quiet (h : Sound s) (k : Quiet s t) (run : RunSound t) (mode : ModeFits t) : Sound t :=
  h.onlyDuty k.only (h.duty.quiet k run mode)

/-- An event of the house, once the straps are captured. -/
theorem Sound.onlyHouse (h : Sound s) (k : OnlyHouse s t)
    (command : captured s = false → t.notices.command = s.notices.command) : Sound t := by
  have station := k.station
  have duty := h.duty.retied k.duty station.loader station.cfg (h.duty.ties.congr k.duty
    (by rw [k.screen]) (by rw [k.line]) (by rw [k.stager]))
  refine h.onlyStation station duty ?_ ?_ (h.stage.same station k.stager) fun c => ?_
  · rw [k.line]
    exact h.line
  · rw [k.screen, station.loaded]
    exact h.rake
  · rw [station.captured] at c
    rw [k.line, command c]
    exact h.fresh c

theorem Sound.onlyNotices (h : Sound s) (k : OnlyNotices s t) : Sound t :=
  h.onlyHouse k.onlyHouse fun _ => k.onlyAlarms.onlyClosing.received

/-- An event that judges the screen or rests the pump, the rake left as it was. -/
theorem Sound.onlyAlarms (h : Sound s) (k : OnlyAlarms s t) : Sound t := by
  have closing := k.onlyClosing
  have duty := h.duty.retied k.duty closing.loader closing.cfg (h.duty.ties.congr k.duty
    (by rw [k.screen]) (by rw [closing.line]) (by rw [closing.stager]))
  refine h.onlyClosing closing duty ?_
  rw [k.screen, closing.loaded]
  exact h.rake

end Sys2Proof.Machine
end

section
/-! SUPPORT. The closing work makes safe what an event has kept. -/

namespace Sys2Proof.Machine

open Sys2Proof

variable {s t u : State}

/-! ### The rake -/

/-- Under the rake stop the rake is in RK_IDLE or RK_LOCKED (R102). -/
def RakeStopped (s : State) : Prop :=
  rakeStop s = true → s.screen.rake = .idle ∨ s.screen.rake = .locked

theorem applyRakeStop_fits {l : Bool} (r : RakeFits l s.screen) :
    RakeFits l (applyRakeStop s).screen := by
  unfold applyRakeStop
  split
  · have same := r
    obtain ⟨motor, run, inrush, pause, before, jams⟩ := r
    cases rake : s.screen.rake <;> simp only [rake] at motor run inrush pause before jams ⊢
    case run => exact ⟨by simp [motorOff], by simp [motorOff], by simp [motorOff],
      by simpa [motorOff] using pause, fun _ => rfl, by simpa [motorOff] using jams⟩
    case wait => exact ⟨by simpa using motor, by simpa using run, by simpa using inrush,
      by simpa using pause, fun _ => rfl, by simpa using jams⟩
    case pause => exact ⟨by simpa using motor, by simpa using run, by simpa using inrush, by simp,
      fun _ => rfl, by simpa using jams⟩
    all_goals exact same
  · exact r

theorem applyRakeStop_stopped (s : State) : RakeStopped (applyRakeStop s) := by
  have k := applyRakeStop_onlyScreen s
  have stop : rakeStop (applyRakeStop s) = rakeStop s :=
    rakeStop_congr k.onlyClosing.station.isActive k.onlyClosing.line (by rw [k.duty])
  intro h
  rw [stop] at h
  unfold applyRakeStop
  rw [if_pos h]
  cases rake : s.screen.rake <;> simp [rake]

/-- A standing request served leaves none that could be (R97). -/
theorem serveRequest_safe (r : RakeFits (loaded s) s.screen) (stopped : RakeStopped s) :
    RakeSafe (serveRequest s) := by
  obtain ⟨motor, run, inrush, pause, before, jams⟩ := r
  unfold serveRequest
  split
  · rename_i g
    simp only [Bool.and_eq_true, beq_iff_eq, Bool.not_eq_true'] at g
    obtain ⟨⟨⟨idle, -⟩, free⟩, finished⟩ := g
    rw [idle] at motor run inrush pause jams
    have free' : rakeStop (setScreen s { s.screen with rake := .wait }) = false := free
    have finished' : loaded (setScreen s { s.screen with rake := .wait }) = true := finished
    exact ⟨by simpa using motor, by simpa using run, by simpa using inrush, by simpa using pause,
      by simp [free'], by simp [finished'], by simp, by simpa using jams⟩
  · rename_i g
    refine ⟨motor, run, inrush, pause, stopped, before, fun idle requested finished => ?_, jams⟩
    by_contra free
    exact g (by simp [idle, requested, finished, Bool.eq_false_iff.2 free])

theorem serve_rakeSafe (r : RakeFits (loaded s) s.screen) : RakeSafe (serve s) := by
  have k := applyRakeStop_onlyScreen (applyHold s)
  refine serveRequest_safe ?_ (applyRakeStop_stopped _)
  rw [k.onlyClosing.loaded, (applyHold_onlyDuty s).station.loaded]
  exact applyRakeStop_fits (by rw [applyHold_screen]; exact r)

theorem settle_rakeSafe (r : RakeFits (loaded s) s.screen) : RakeSafe (settle s) := by
  have k := handOn_onlyClosing (serve s)
  exact (serve_rakeSafe r).congr (handOn_screen _)
    (rakeStop_congr k.station.isActive k.line (congrArg (·.mode) (handOn_duty _))) k.loaded

/-! ### The pump -/

theorem applyHold_contactor (h : stopHold s = true) : (applyHold s).duty.contactor = false := by
  unfold applyHold
  rw [if_pos h]
  split
  · exact enterLockedOff_contactor s
  · exact openContactor_contactor s

/-- Unheld, a pump in HAND has its contactor closed (R61). -/
theorem applyHold_hand (h : stopHold s = false) (l : loaded s = true)
    (hand : (applyHold s).duty.pump = .hand) : (applyHold s).duty.contactor = true := by
  unfold applyHold at hand ⊢
  rw [if_neg (by simp [h])] at hand ⊢
  unfold closeInHand at hand ⊢
  split
  · rfl
  · rename_i g
    rw [if_neg g] at hand
    cases c : s.duty.contactor with
    | true => rfl
    | false => exact absurd (by simp [hand, c, l, h]) g

theorem settle_stopHold (s : State) : stopHold (settle s) = stopHold s :=
  stopHold_congr (settle_station s).isActive (settle_onlyClosing s).line

theorem settle_condition (s : State) : (settle s).screen.condition = s.screen.condition := by
  rw [settle_screen]
  exact (serve_screen s).2

theorem DutySound.settled (h : DutySound s) : DutySound (settle s) := by
  have held := h.eased (applyHold_eases s)
  have k := (applyHold_onlyDuty s).station
  exact held.retied (settle_duty s) (by rw [settle_loader, k.loader]) (by rw [settle_cfg, k.cfg])
    (held.ties.congr (settle_duty s) (by rw [settle_condition, applyHold_screen])
      (by rw [settle_line, (applyHold_onlyDuty s).onlyPlant.line])
      (by rw [settle_stager, (applyHold_onlyDuty s).onlyClosing.stager]))

theorem RunSound.pumpSafe (h : RunSound s) (held : stopHold s = true → s.duty.contactor = false)
    (hand : s.duty.pump = .hand → stopHold s = false → loaded s = true → s.duty.contactor = true)
    (blocked : s.screen.condition = .blocked →
      s.duty.pump ≠ .starting ∧ s.duty.pump ≠ .running) : PumpSafe s := by
  obtain ⟨closed, run, idle, yielding, changeover, inrush, minRun, confirm, runLoss, confirmed, -⟩ := h
  refine ⟨fun c => ⟨(closed c).1, ?_, (closed c).2⟩, run, hand, idle, yielding, changeover, inrush,
    minRun, confirm, runLoss, confirmed, blocked⟩
  exact Bool.eq_false_iff.2 fun e => absurd c (by simp [held e])

theorem ModeFits.modeSafe (h : ModeFits s) (f : Fresh s) : ModeSafe s := by
  obtain ⟨off, hand, auto, inhibit, out, faulted, causes, before⟩ := h
  exact ⟨off, hand, auto, inhibit, out, faulted, causes, fun c =>
    ⟨(f c).1, (f c).2, (before c).1, (before c).2⟩⟩

theorem LineFits.lineSafe (h : LineFits s.line) (ties : Ties s) : LineSafe s := by
  obtain ⟨cut, joined, drive, won, stuck, peers⟩ := h
  obtain ⟨runs, lead, fault⟩ := ties
  refine ⟨cut, ?_, fault, fun i => runs (.inr i), drive, won, stuck, peers⟩
  rintro (d | y | a | n | l)
  · exact joined (.inl d)
  · exact joined (.inr (.inl y))
  · exact joined (.inr (.inr (.inl a)))
  · exact joined (.inr (.inr (.inr n)))
  · exact lead l

/-! ### The whole -/

/-- The closing work keeps what an event keeps. -/
theorem Sound.settled (h : Sound s) : Sound (settle s) := by
  obtain ⟨motor, run, inrush, pause, -, before, -, jams⟩ := settle_rakeSafe h.rake
  exact h.onlyClosing (settle_onlyClosing s) h.duty.settled ⟨motor, run, inrush, pause, before, jams⟩

theorem Sound.plantSafe (h : Sound s) : PlantSafe (settle s) := by
  have after := h.settled
  have pump : PumpSafe (settle s) := by
    refine after.duty.run.pumpSafe ?_ ?_ fun b => after.duty.ties.1 (.inl b)
    · rw [settle_stopHold, settle_duty]
      exact applyHold_contactor
    · rw [settle_stopHold, settle_duty, (settle_station s).loaded]
      exact fun hand held l => applyHold_hand held l hand
  obtain ⟨-, -, -, -, -, -, -, -, -, -, changeover⟩ := after.duty.run
  exact ⟨after.inputs, pump, after.duty.mode.modeSafe after.fresh, after.duty.window,
    settle_rakeSafe h.rake, after.line.lineSafe after.duty.ties, after.settings, after.stage,
    after.overflow, changeover⟩

end Sys2Proof.Machine
end

section
/-! SUPPORT. What the events of the pump keep. -/

namespace Sys2Proof.Machine

open Sys2Proof

variable {s t u : State}

/-! ### Modes, faults and the inhibit flag -/

theorem ModeFits.enterFaulted {c : AlarmCode} (h : ModeFits s)
    (cause : c = .thermalTrip ∨ c = .startFail ∨ c = .runLost) (seen : captured s = true) :
    ModeFits (enterFaulted c s) := by
  obtain ⟨-, -, -, -, -, -, causes, -⟩ := h
  obtain ⟨pump, -, member⟩ := enterFaulted_spec c s
  have seen' : captured (Machine.enterFaulted c s) = true :=
    (enterFaulted_onlyDuty c s).captured.trans seen
  refine ⟨fun _ => .inr pump, fun _ => .inr pump, by simp [pump], fun _ _ => .inr pump, by simp [pump],
    ?_, fun d m => ?_, by simp [seen']⟩
  · exact iff_of_true pump (List.ne_nil_of_mem ((member c).2 (.inr rfl)))
  · rcases (member d).1 m with m | rfl
    · exact causes d m
    · exact cause

theorem Sound.enterFaulted {c : AlarmCode} (h : Sound s)
    (cause : c = .thermalTrip ∨ c = .startFail ∨ c = .runLost) (seen : captured s = true) :
    Sound (enterFaulted c s) :=
  h.quiet (enterFaulted_quiet c s) (h.duty.run.enterFaulted c) (h.duty.mode.enterFaulted cause seen)

/-- What a pump not in FAULTED knows of its causes. -/
theorem ModeFits.no_causes (h : ModeFits s) (f : s.duty.pump ≠ .faulted) : s.duty.causes = [] := by
  obtain ⟨-, -, -, -, -, faulted, -⟩ := h
  exact not_not.1 fun n => f (faulted.2 n)

theorem ModeFits.of_out (pump : s.duty.pump = .outOfService) (mode : s.duty.mode ≠ .hand)
    (inhibit : s.duty.mode = .auto → s.duty.inhibit = true) (causes : s.duty.causes = [])
    (before : captured s = false → s.duty.inhibit = false) : ModeFits s :=
  ⟨fun _ => .inl pump, fun m => absurd m mode, by simp [pump], fun _ _ => .inl pump,
    fun m _ => inhibit m, by simp [pump, causes], by simp [causes], fun c => ⟨before c, causes⟩⟩

theorem ModeFits.of_hand (pump : s.duty.pump = .hand) (mode : s.duty.mode = .hand)
    (causes : s.duty.causes = []) (before : captured s = false → s.duty.inhibit = false) :
    ModeFits s :=
  ⟨by simp [mode], fun _ => .inl pump, by simp [mode], by simp [mode], by simp [mode],
    by simp [pump, causes], by simp [causes], fun c => ⟨before c, causes⟩⟩

theorem enterOutOfService_mode_inhibit_causes (s : State) :
    (enterOutOfService s).duty.mode = s.duty.mode
      ∧ (enterOutOfService s).duty.inhibit = s.duty.inhibit
      ∧ (enterOutOfService s).duty.causes = s.duty.causes := by
  obtain ⟨mode, inhibit, causes, -⟩ := openContactor_sameMode s
  exact ⟨mode, inhibit, causes⟩

theorem enterHand_mode_inhibit_causes (s : State) :
    (enterHand s).duty.mode = s.duty.mode ∧ (enterHand s).duty.inhibit = s.duty.inhibit
      ∧ (enterHand s).duty.causes = s.duty.causes := by
  unfold enterHand
  split
  · exact ⟨rfl, rfl, rfl⟩
  · obtain ⟨mode, inhibit, causes, -⟩ := closeInHand_sameMode (setPump s .hand)
    exact ⟨mode, inhibit, causes⟩

/-- A pump that passes to the state its mode and its inhibit flag ask for (R59, R84). -/
def takeUp (s : State) : State :=
  match s.duty.mode with
  | .off => enterOutOfService s
  | .hand => enterHand s
  | .auto => if s.duty.inhibit then enterOutOfService s else enterLockedOff s

theorem takeUp_quiet (s : State) : Quiet s (takeUp s) := by
  unfold takeUp
  split
  · exact enterOutOfService_quiet s
  · exact enterHand_quiet s
  · exact .of_ite (enterOutOfService_quiet s) (enterLockedOff_quiet s)

theorem RunSound.takeUp (h : RunSound s) : RunSound (takeUp s) := by
  unfold Machine.takeUp
  split
  · exact h.enterOutOfService
  · exact h.enterHand
  · split
    · exact h.enterOutOfService
    · exact h.enterLockedOff

/-- The state taken up fits the mode, whatever the pump was in. -/
theorem takeUp_fits (causes : s.duty.causes = [])
    (before : captured s = false → s.duty.inhibit = false) : ModeFits (takeUp s) := by
  have same := (takeUp_quiet s).only.captured
  obtain ⟨outMode, outInhibit, outCauses⟩ := enterOutOfService_mode_inhibit_causes s
  unfold takeUp at same ⊢
  cases mode : s.duty.mode with
  | off =>
    simp only [mode] at same ⊢
    exact .of_out rfl (by simp [outMode, mode]) (by simp [outMode, mode]) (outCauses.trans causes)
      (by rw [same, outInhibit]; exact before)
  | hand =>
    obtain ⟨handMode, handInhibit, handCauses⟩ := enterHand_mode_inhibit_causes s
    simp only [mode] at same ⊢
    exact .of_hand (enterHand_pump s) (handMode.trans mode) (handCauses.trans causes)
      (by rw [same, handInhibit]; exact before)
  | auto =>
    simp only [mode] at same ⊢
    split
    · rename_i i
      rw [if_pos i] at same
      exact .of_out rfl (by simp [outMode, mode]) (fun _ => outInhibit.trans i)
        (outCauses.trans causes) (by rw [same, outInhibit]; exact before)
    · rename_i i
      obtain ⟨autoMode, autoInhibit, autoCauses⟩ := enterLockedOff_mode_inhibit_causes s
      exact .of_automatic (enterLockedOff_automatic s) (autoMode.trans mode)
        (autoInhibit.trans (by simpa using i)) (autoCauses.trans causes)

/-- The answer to a changed mode: the pump stays where it fits, else takes up the mode's state (R59). -/
theorem answerMode_cases (s : State) :
    (answerMode s = takeUp s ∧ s.duty.pump ≠ .faulted)
      ∨ (answerMode s = s ∧ (s.duty.pump = .faulted
        ∨ s.duty.mode = .off ∧ s.duty.pump = .outOfService ∨ s.duty.mode = .hand ∧ s.duty.pump = .hand
        ∨ s.duty.mode = .auto ∧ Automatic s.duty.pump)) := by
  unfold answerMode takeUp Automatic
  cases mode : s.duty.mode <;> cases pump : s.duty.pump <;> simp

theorem answerMode_quiet (s : State) : Quiet s (answerMode s) := by
  obtain ⟨e, -⟩ | ⟨e, -⟩ := answerMode_cases s <;> rw [e]
  · exact takeUp_quiet s
  · exact .refl s

theorem withMode_fits {m : PumpMode} (h : ModeFits s)
    (stays : s.duty.pump = .faulted ∨ m = .off ∧ s.duty.pump = .outOfService
      ∨ m = .hand ∧ s.duty.pump = .hand ∨ m = .auto ∧ Automatic s.duty.pump) :
    ModeFits (withMode m s) := by
  have causes := h.no_causes
  have auto := h.automatic
  obtain ⟨-, -, -, -, -, faulted, known, before⟩ := h
  rcases stays with pump | ⟨rfl, pump⟩ | ⟨rfl, pump⟩ | ⟨rfl, a⟩
  · exact ⟨fun _ => .inr pump, fun _ => .inr pump, by simp [withMode, pump], fun _ _ => .inr pump,
      by simp [withMode, pump], faulted, known, before⟩
  · exact .of_out pump nofun nofun (causes (by simp [pump])) fun c => (before c).1
  · exact .of_hand pump rfl (causes (by simp [pump])) fun c => (before c).1
  · exact .of_automatic a rfl (auto a).2.1 (auto a).2.2

theorem Sound.reformMode (h : Sound s) : Sound (reformMode s) := by
  unfold Machine.reformMode
  dsimp only
  split
  · exact h
  · generalize modeOf _ _ = m
    show Sound (answerMode (withMode m s))
    have quiet : Quiet s (withMode m s) := setDuty_quiet s rfl rfl rfl rfl
    have run : RunSound (withMode m s) := h.duty.run
    refine h.quiet (quiet.trans (answerMode_quiet _)) ?_ ?_
    all_goals obtain ⟨e, pump⟩ | ⟨e, stays⟩ := answerMode_cases (withMode m s) <;> rw [e]
    · exact run.takeUp
    · exact run
    · obtain ⟨-, -, -, -, -, -, -, before⟩ := h.duty.mode
      exact takeUp_fits (h.duty.mode.no_causes pump) fun c => (before c).1
    · exact withMode_fits h.duty.mode stays

/-- The exit from FAULTED (R64). -/
theorem Sound.leaveFaulted (h : Sound s) : Sound (leaveFaulted s) := by
  generalize e : setDuty s { s.duty with causes := [] } = v
  have left : Machine.leaveFaulted s = takeUp v := by rw [← e]; rfl
  have quiet : Quiet s v := e ▸ setDuty_quiet s rfl rfl rfl rfl
  have run : RunSound v := e ▸ h.duty.run
  obtain ⟨-, -, -, -, -, -, -, before⟩ := h.duty.mode
  rw [left]
  exact h.quiet (quiet.trans (takeUp_quiet v)) run.takeUp
    (takeUp_fits (by rw [← e]; rfl) (by rw [← e]; exact fun c => (before c).1))

/-- The inhibit flag set (R84). -/
theorem Sound.setInhibit (h : Sound s) (seen : captured s = true) : Sound (setInhibit s) := by
  generalize e : setDuty s { s.duty with inhibit := true } = v
  have quiet : Quiet s v := e ▸ setDuty_quiet s rfl rfl rfl rfl
  have run : RunSound v := e ▸ h.duty.run
  have seen' : captured v = true := quiet.only.captured.trans seen
  have pump : v.duty.pump = s.duty.pump := by rw [← e]; rfl
  have mode : v.duty.mode = s.duty.mode := by rw [← e]; rfl
  have inhibit : v.duty.inhibit = true := by rw [← e]; rfl
  have causes : v.duty.causes = s.duty.causes := by rw [← e]; rfl
  have none := h.duty.mode.no_causes
  obtain ⟨off, hand, auto, -, -, faulted, known, -⟩ := h.duty.mode
  have set : Machine.setInhibit s = if v.duty.mode == .auto && (v.duty.pump == .idle
      || v.duty.pump == .startWait || v.duty.pump == .lockedOff || v.duty.pump == .starting
      || v.duty.pump == .running) then enterOutOfService v else v := by rw [← e]; rfl
  rw [set]
  split
  · rename_i g
    simp only [Bool.and_eq_true, Bool.or_eq_true, beq_iff_eq] at g
    obtain ⟨isAuto, place⟩ := g
    obtain ⟨outMode, outInhibit, outCauses⟩ := enterOutOfService_mode_inhibit_causes v
    refine h.quiet (quiet.trans (enterOutOfService_quiet v)) run.enterOutOfService
      (.of_out rfl (by simp [outMode, isAuto]) (fun _ => outInhibit.trans inhibit) ?_ ?_)
    · rw [outCauses, causes]
      refine none fun f => ?_
      rw [pump, f] at place
      simp at place
    · rw [(enterOutOfService_quiet v).only.captured, seen']
      exact nofun
  · rename_i g
    simp only [Bool.and_eq_true, Bool.or_eq_true, beq_iff_eq, not_and_or, not_or, mode, pump] at g
    refine h.quiet quiet run ?_
    refine ⟨by rw [mode, pump]; exact off, by rw [mode, pump]; exact hand, by rw [mode, pump]; exact auto,
      fun m _ => ?_, fun _ _ => inhibit, by rw [pump, causes]; exact faulted,
      by rw [causes]; exact known, by simp [seen']⟩
    rw [mode] at m
    rw [pump]
    have notHand := auto m
    cases p : s.duty.pump <;> simp_all

/-- The inhibit flag cleared (R84). -/
theorem Sound.clearInhibit (h : Sound s) (seen : captured s = true) : Sound (clearInhibit s) := by
  generalize e : setDuty s { s.duty with inhibit := false } = v
  have quiet : Quiet s v := e ▸ setDuty_quiet s rfl rfl rfl rfl
  have run : RunSound v := e ▸ h.duty.run
  have seen' : captured v = true := quiet.only.captured.trans seen
  have pump : v.duty.pump = s.duty.pump := by rw [← e]; rfl
  have mode : v.duty.mode = s.duty.mode := by rw [← e]; rfl
  have inhibit : v.duty.inhibit = false := by rw [← e]; rfl
  have causes : v.duty.causes = s.duty.causes := by rw [← e]; rfl
  have none := h.duty.mode.no_causes
  obtain ⟨off, hand, auto, -, -, faulted, known, -⟩ := h.duty.mode
  have set : Machine.clearInhibit s = if v.duty.mode == .auto && v.duty.pump == .outOfService then
      enterLockedOff v else v := by rw [← e]; rfl
  rw [set]
  split
  · rename_i g
    simp only [Bool.and_eq_true, beq_iff_eq] at g
    obtain ⟨isAuto, out⟩ := g
    obtain ⟨autoMode, autoInhibit, autoCauses⟩ := enterLockedOff_mode_inhibit_causes v
    refine h.quiet (quiet.trans (enterLockedOff_quiet v)) run.enterLockedOff
      (.of_automatic (enterLockedOff_automatic v) (autoMode.trans isAuto) (autoInhibit.trans inhibit) ?_)
    rw [autoCauses, causes]
    exact none (by simp [← pump, out])
  · rename_i g
    simp only [Bool.and_eq_true, beq_iff_eq, not_and] at g
    refine h.quiet quiet run ?_
    exact ⟨by rw [mode, pump]; exact off, by rw [mode, pump]; exact hand,
      by rw [mode, pump]; exact auto, by simp [inhibit], fun m o => absurd o (g m),
      by rw [pump, causes]; exact faulted, by rw [causes]; exact known, by simp [seen']⟩

end Sys2Proof.Machine
end

section
/-! SUPPORT. What the pump's timers, its starts and its confirmations keep. -/

namespace Sys2Proof.Machine

open Sys2Proof

variable {s t u : State}

/-! ### A change of the duty record -/

/-- The Duty Controller's record changed in place, the pump's state and its mode left. -/
theorem Sound.setDuty {d : Duty} (h : Sound s) (pump : d.pump = s.duty.pump)
    (mode : d.mode = s.duty.mode ∧ d.inhibit = s.duty.inhibit ∧ d.causes = s.duty.causes)
    (kept : d.holdsLead = s.duty.holdsLead ∧ d.window = s.duty.window
      ∧ d.fallbackDelay = s.duty.fallbackDelay)
    (run : RunSound (setDuty s d)) : Sound (setDuty s d) := by
  obtain ⟨sameMode, inhibit, causes⟩ := mode
  obtain ⟨lead, window, delay⟩ := kept
  exact h.quiet (setDuty_quiet s pump lead window delay) run
    (h.duty.mode.same ⟨sameMode, inhibit, causes, .inl pump⟩ rfl)

/-! ### Timers -/

/-- A pump neither running nor in HAND has an open contactor (R58). -/
theorem RunSound.open_of_rest (h : RunSound s)
    (rests : s.duty.pump ≠ .starting ∧ s.duty.pump ≠ .running ∧ s.duty.pump ≠ .hand) :
    s.duty.contactor = false := by
  obtain ⟨starting, running, hand⟩ := rests
  refine Bool.eq_false_iff.2 fun c => ?_
  rcases (h.1 c).1 with e | e | e
  · exact starting e
  · exact running e
  · exact hand e

/-- A pump in LOCKED_OFF passes to IDLE (R63). -/
theorem Sound.enterIdle (h : Sound s) (pump : s.duty.pump = .lockedOff) (l : loaded s = true) :
    Sound (enterIdle s) :=
  h.eased (enterIdle_eases (by unfold Automatic; simp [pump]) (fun r => r.open_of_rest (by simp [pump]))
    fun _ => l)

theorem Sound.minOffStep (h : Sound s) : Sound (minOffStep s) := by
  have timer : Sound (Machine.setDuty s { s.duty with minOff := none }) :=
    h.setDuty rfl ⟨rfl, rfl, rfl⟩ ⟨rfl, rfl, rfl⟩ h.duty.run
  unfold Machine.minOffStep
  dsimp only
  split
  · rename_i g
    exact timer.enterIdle g.1 g.2
  · exact timer

/-- A start that is confirmed passes to RUNNING (R66); the continuous run time may set yielding (R76). -/
theorem Sound.enterRunning (h : Sound s) (pump : s.duty.pump = .starting)
    (confirmed : s.duty.confirmed = true) : Sound (enterRunning s) := by
  obtain ⟨closed, run, -, yielding, blocked, inrush, -, confirm, runLoss, -, bound, zero, limit⟩ :=
    h.duty.run
  have contactor := run (.inl pump)
  have still : s.duty.yielding = false := Bool.eq_false_iff.2 fun y => by simp [yielding y] at pump
  have quiet : Quiet s (Machine.enterRunning s) := ⟨rfl, ⟨rfl, rfl, fun _ => rfl⟩, rfl,
    fun _ => .inl pump, nofun⟩
  have automatic : Automatic PumpState.running := ⟨nofun, nofun, nofun⟩
  refine h.quiet quiet ?_ (h.duty.mode.same
    ⟨rfl, rfl, rfl, .inr ⟨automatic_of_run (.inl pump), automatic⟩⟩ rfl)
  refine ⟨fun _ => ⟨.inr (.inl rfl), (closed contactor).2⟩, fun _ => contactor,
    (by rintro (e | e) <;> exact nomatch e), fun _ => rfl, fun b => ?_, inrush, fun _ => .inr rfl,
    fun n => ?_, runLoss, fun _ => .inr rfl, bound, fun _ => zero still, limit⟩
  · exact absurd (blocked b) (by simp [still])
  · exact absurd (confirm n).2 (by simp [confirmed])

theorem Sound.inrushStep (h : Sound s) : Sound (inrushStep s) := by
  have timer : Sound (Machine.setDuty s { s.duty with inrush := none }) := by
    refine h.setDuty rfl ⟨rfl, rfl, rfl⟩ ⟨rfl, rfl, rfl⟩ ?_
    obtain ⟨closed, run, idle, yielding, blocked, -, rest⟩ := h.duty.run
    exact ⟨closed, run, idle, yielding, blocked, fun n => absurd rfl n, rest⟩
  unfold Machine.inrushStep
  dsimp only
  split
  · rename_i g
    exact timer.enterRunning g.1 g.2
  · exact timer

/-- RUN_CONFIRM accepted active: a start is confirmed, or a run loss averted (R66, R67). -/
theorem Sound.confirmActivated (h : Sound s) : Sound (confirmActivated s) := by
  obtain ⟨closed, run, idle, yielding, blocked, inrush, minRun, confirm, -, confirmed, changeover⟩ :=
    h.duty.run
  unfold Machine.confirmActivated
  dsimp only
  split
  · rename_i g
    rw [Bool.and_eq_true, beq_iff_eq] at g
    have taken : Sound (Machine.setDuty s { s.duty with confirmed := true, confirm := none }) :=
      h.setDuty rfl ⟨rfl, rfl, rfl⟩ ⟨rfl, rfl, rfl⟩ ⟨closed, run, idle, yielding, blocked, inrush,
        minRun, fun n => absurd rfl n, fun _ => rfl, fun _ => .inl g.1, changeover⟩
    split
    · exact taken.enterRunning g.1 rfl
    · exact taken
  · exact h.setDuty rfl ⟨rfl, rfl, rfl⟩ ⟨rfl, rfl, rfl⟩ ⟨closed, run, idle, yielding, blocked,
      inrush, minRun, confirm, fun n => absurd rfl n, confirmed, changeover⟩

theorem Sound.confirmReleased (h : Sound s) : Sound (confirmReleased s) := by
  obtain ⟨closed, run, idle, yielding, blocked, inrush, minRun, confirm, -, confirmed, changeover⟩ :=
    h.duty.run
  unfold Machine.confirmReleased
  split
  · rename_i g
    rw [Bool.and_eq_true] at g
    exact h.setDuty rfl ⟨rfl, rfl, rfl⟩ ⟨rfl, rfl, rfl⟩ ⟨closed, run, idle, yielding, blocked, inrush,
      minRun, confirm, fun _ => g.1, confirmed, changeover⟩
  · exact h

theorem Sound.moistureActivated (h : Sound s) : Sound (moistureActivated s) := by
  unfold Machine.moistureActivated
  split
  · exact h.eased (stopAutomatic_eases s)
  · exact h

/-- The continuous run time has reached its maximum: RUNNING yields (R76). -/
theorem Sound.yields (h : Sound s) (pump : s.duty.pump = .running) :
    Sound (Machine.setDuty s { s.duty with yielding := true }) := by
  obtain ⟨closed, run, idle, -, blocked, inrush, minRun, confirm, runLoss, confirmed, bound, -, limit⟩ :=
    h.duty.run
  exact h.setDuty rfl ⟨rfl, rfl, rfl⟩ ⟨rfl, rfl, rfl⟩ ⟨closed, run, idle, fun _ => pump, fun _ => rfl,
    inrush, minRun, confirm, runLoss, confirmed, bound, nofun, limit⟩

/-- The changeover timer's expiry (R77). -/
theorem Sound.blocksChangeover (h : Sound s) (yields : s.duty.yielding = true)
    (reached : changeoverLimit ≤ s.duty.changeover) :
    Sound (Machine.setDuty s { s.duty with changeoverBlocked := true }) := by
  obtain ⟨closed, run, idle, yielding, -, inrush, minRun, confirm, runLoss, confirmed, bound, zero, -⟩ :=
    h.duty.run
  exact h.setDuty rfl ⟨rfl, rfl, rfl⟩ ⟨rfl, rfl, rfl⟩ ⟨closed, run, idle, yielding, fun _ => yields,
    inrush, minRun, confirm, runLoss, confirmed, bound, zero, fun _ => Nat.le_antisymm bound reached⟩

theorem Sound.endMinRun (h : Sound s) :
    Sound (fallbackStop (Machine.setDuty s { s.duty with minRun := none })) := by
  obtain ⟨closed, run, idle, yielding, blocked, inrush, -, rest⟩ := h.duty.run
  have timer : Sound (Machine.setDuty s { s.duty with minRun := none }) :=
    h.setDuty rfl ⟨rfl, rfl, rfl⟩ ⟨rfl, rfl, rfl⟩ ⟨closed, run, idle, yielding, blocked, inrush,
      fun n => absurd rfl n, rest⟩
  exact timer.eased (fallbackStop_eases _)

/-! ### The lead, the window, the fallback delay -/

/-- The lead and the fallback delay changed as the line's state allows. -/
theorem Sound.retie {d : Duty} (h : Sound s) (pump : d.pump = s.duty.pump)
    (mode : d.mode = s.duty.mode ∧ d.inhibit = s.duty.inhibit ∧ d.causes = s.duty.causes)
    (run : RunSound (Machine.setDuty s d)) (window : WindowSafe (Machine.setDuty s d))
    (lead : d.holdsLead = true → s.duty.holdsLead = true ∨ s.line.mode = .joined)
    (delay : d.fallbackDelay ≠ .stopped →
      s.duty.fallbackDelay ≠ .stopped ∨ s.line.mode = .lineFault) : Sound (Machine.setDuty s d) := by
  obtain ⟨sameMode, inhibit, causes⟩ := mode
  obtain ⟨runs, joined, fault⟩ := h.duty.ties
  refine h.onlyDuty rfl ⟨run, h.duty.mode.same ⟨sameMode, inhibit, causes, .inl pump⟩ rfl, window,
    ?_, ?_, ?_⟩
  · simpa [pump] using runs
  · rintro (l | p)
    · exact (lead l).elim (fun l => joined (.inl l)) id
    · exact joined (.inr (pump ▸ p))
  · rintro (c | n)
    · exact fault (.inl c)
    · exact (delay n).elim (fun n => fault (.inr n)) id

theorem Sound.dropStamp (h : Sound s) : Sound (dropStamp s) := by
  obtain ⟨bound, before⟩ := h.duty.window
  refine h.retie rfl ⟨rfl, rfl, rfl⟩ h.duty.run ⟨?_, fun l => ?_⟩ .inl .inl
  · exact Nat.le_trans (by simp) bound
  · show s.duty.window.drop 1 = []
    rw [before l]
    rfl

theorem Sound.expireDelay (h : Sound s) (runs : s.duty.fallbackDelay ≠ .stopped) :
    Sound (Machine.setDuty s { s.duty with fallbackDelay := .expired }) :=
  h.retie rfl ⟨rfl, rfl, rfl⟩ h.duty.run h.duty.window .inl fun _ => .inl runs

theorem Sound.takeLead (h : Sound s) (joined : s.line.mode = .joined) :
    Sound (Machine.setDuty s { s.duty with holdsLead := true }) :=
  h.retie rfl ⟨rfl, rfl, rfl⟩ h.duty.run h.duty.window (fun _ => .inr joined) .inl

theorem Sound.passOver (h : Sound s) (joined : s.line.mode = .joined) : Sound (passOver s) := by
  unfold Machine.passOver
  split
  · exact h
  · exact h.retie rfl ⟨rfl, rfl, rfl⟩ h.duty.run h.duty.window (fun _ => .inr joined) .inl

/-! ### The start -/

/-- A start from IDLE or START_WAIT (R66, R78). -/
theorem Sound.startPump (h : Sound s) (waits : s.duty.pump = .idle ∨ s.duty.pump = .startWait)
    (mode : s.line.mode ≠ .isolated) (screen : s.screen.condition ≠ .blocked)
    (room : windowFull s = false) : Sound (startPump s) := by
  have rests : s.duty.pump ≠ .starting ∧ s.duty.pump ≠ .running ∧ s.duty.pump ≠ .hand := by
    rcases waits with e | e <;> simp [e]
  obtain ⟨⟨-, -, -, -, -, -, yielding, blocked⟩, zero⟩ := h.duty.run.still (h.duty.run.open_of_rest rests)
  obtain ⟨-, -, idle, -⟩ := h.duty.run
  have l := idle waits
  have automatic : Automatic s.duty.pump := by
    unfold Automatic
    rcases waits with e | e <;> simp [e]
  obtain ⟨-, joined, fault⟩ := h.duty.ties
  obtain ⟨bound, -⟩ := h.duty.window
  refine h.onlyDuty rfl ⟨?_, ?_, ⟨?_, fun n => absurd (l.symm.trans n) nofun⟩, ?_, ?_, fault⟩
  · refine ⟨fun _ => ⟨.inl rfl, l⟩, fun _ => rfl, (by rintro (e | e) <;> exact nomatch e),
      fun y => absurd y (by simp [Machine.startPump, yielding]),
      fun b => absurd b (by simp [Machine.startPump, blocked]), fun _ => rfl, fun _ => .inl rfl,
      fun n => ⟨rfl, ?_⟩, fun n => absurd rfl n, fun _ => .inl rfl, ?_, fun _ => zero,
      fun b => absurd b (by simp [Machine.startPump, blocked])⟩
    · simp only [Machine.startPump, setDuty_duty] at n ⊢
      cases c : isActive s .runConfirm <;> simp [c] at n ⊢
    · simp [Machine.startPump, zero]
  · exact h.duty.mode.same ⟨rfl, rfl, rfl, .inr ⟨automatic, nofun, nofun, nofun⟩⟩ rfl
  · show (stamped s).length ≤ s.cfg.startsPerHour
    unfold stamped
    split
    · exact bound
    · simp only [windowFull, Bool.and_eq_false_iff, decide_eq_false_iff_not] at room
      simp only [List.length_append, List.length_singleton]
      omega
  · rintro (b | i)
    · exact absurd b screen
    · exact absurd i mode
  · rintro (lead | e)
    · exact joined (.inl lead)
    · exact nomatch e

/-- A pump that is available, or ready in LINE_FAULT, has its contactor open and its room for a start. -/
theorem Sound.fallbackStart (h : Sound s) (ready : fallbackReady s = true) : Sound (Machine.startPump s) := by
  unfold fallbackReady at ready
  simp only [Bool.and_eq_true, beq_iff_eq, Bool.not_eq_true', bne_iff_ne] at ready
  obtain ⟨⟨⟨⟨⟨⟨⟨⟨⟨⟨mode, pump⟩, -⟩, -⟩, -⟩, -⟩, screen⟩, room⟩, -⟩, -⟩, -⟩ := ready
  exact h.startPump (.inl pump) (by simp [mode]) screen room

theorem available_cases (h : available s = true) :
    (s.duty.pump = .idle ∨ s.duty.pump = .startWait) ∧ s.line.mode = .joined
      ∧ s.screen.condition ≠ .blocked ∧ windowFull s = false := by
  unfold available at h
  simp only [Bool.and_eq_true, Bool.or_eq_true, beq_iff_eq, Bool.not_eq_true', bne_iff_ne] at h
  obtain ⟨⟨⟨⟨⟨pump, mode⟩, screen⟩, room⟩, -⟩, -⟩ := h
  exact ⟨pump, mode, screen, room⟩

end Sys2Proof.Machine
end

section
/-! SUPPORT. What the events of the screen and the rake keep. -/

namespace Sys2Proof.Machine

open Sys2Proof

variable {s t u : State}

/-! ### The screen judged -/

/-- What judging the screen keeps: the rake, and with it what the Duty Controller keeps. -/
structure Seen (s t : State) : Prop where
  only : OnlyClosing s t
  rake : SameRake s.screen t.screen
  duty : DutySound s → DutySound t

theorem Seen.refl (s : State) : Seen s s := ⟨rfl, .refl _, id⟩

theorem Seen.trans (h : Seen s t) (k : Seen t u) : Seen s u :=
  ⟨h.only.trans k.only, h.rake.trans k.rake, k.duty ∘ h.duty⟩

theorem Seen.of_ite {p : Prop} [Decidable p] {a b : State} (h : Seen s a) (k : Seen s b) :
    Seen s (if p then a else b) := by
  split <;> assumption

theorem Sound.seen (h : Sound s) (k : Seen s t) : Sound t := by
  refine h.onlyClosing k.only (k.duty h.duty) ?_
  rw [k.only.loaded]
  exact h.rake.same k.rake

/-- A change of the screen's record beside its rake, to a condition that is no other or not BLOCKED. -/
theorem setScreen_seen {g : Screen} (rake : SameRake s.screen g)
    (condition : g.condition = s.screen.condition ∨ g.condition ≠ .blocked) :
    Seen s (setScreen s g) := by
  refine ⟨rfl, rake, fun ⟨run, mode, window, runs, lead, fault⟩ => ⟨run, mode, window, ?_, lead, fault⟩⟩
  rintro (b | i)
  · rcases condition with e | n
    · exact runs (.inl (e.symm.trans b))
    · exact absurd b n
  · exact runs (.inr i)

/-- A change of what the screen senses, its condition and its rake left. -/
theorem sensed_seen {g : Screen}
    (rake : SameRake s.screen g := by exact ⟨rfl, rfl, rfl, rfl, rfl, rfl⟩)
    (condition : g.condition = s.screen.condition := by exact rfl) : Seen s (setScreen s g) :=
  setScreen_seen rake (.inl condition)

/-- A run stopped as the screen's record is changed, whatever its condition becomes (R80). -/
theorem stopAutomatic_seen {g : Screen} (rake : SameRake s.screen g) :
    Seen s (stopAutomatic (setScreen s g)) := by
  have k := stopAutomatic_eases (setScreen s g)
  refine ⟨(setScreen_onlyClosing s g).trans k.quiet.only.onlyClosing, ?_,
    fun ⟨run, mode, window, _, lead, fault⟩ => ⟨k.run run, ?_, ?_, ?_⟩⟩
  · rw [stopAutomatic_screen]
    exact rake
  · exact ModeFits.same (s := setScreen s g) mode k.mode k.quiet.only.captured
  · exact WindowSafe.same (s := setScreen s g) window k.quiet.window k.quiet.only.station.cfg
      k.quiet.only.station.loader
  · exact .rested k.quiet (stopAutomatic_rests _) lead fault

theorem setCondition_seen (c : ScreenCondition) (s : State) : Seen s (setCondition c s) := by
  unfold setCondition
  dsimp only
  split
  · exact .refl s
  · split
    · exact stopAutomatic_seen ⟨rfl, rfl, rfl, rfl, rfl, rfl⟩
    · rename_i other
      exact setScreen_seen ⟨rfl, rfl, rfl, rfl, rfl, rfl⟩ (.inr other)

theorem findSwitch_seen (s : State) : Seen s (findSwitch s) :=
  .of_ite (Seen.trans (t := setScreen s _) sensed_seen
    (.of_ite (setCondition_seen _ _) (.refl _))) sensed_seen

theorem takeSwitch_seen (s : State) : Seen s (takeSwitch s) :=
  .of_ite (Seen.trans (t := setScreen s _) sensed_seen
    (setCondition_seen _ _)) (findSwitch_seen s)

theorem leaveSensing_seen (s : State) : Seen s (leaveSensing s) :=
  (setCondition_seen _ s).trans sensed_seen

theorem enterSensing_seen (m : SensingMode) (s : State) : Seen s (enterSensing m s) :=
  Seen.trans (t := setScreen s { s.screen with sensing := some m })
    sensed_seen (.of_ite (findSwitch_seen _) (.refl _))

theorem takeChanges_screen (take : AlarmCode → Bool) (s : State) :
    (takeChanges take s).screen = s.screen :=
  (takeCodes_screen _ _).trans (takeCodes_screen _ _)

theorem takeChanges_seen (take : AlarmCode → Bool) (s : State) : Seen s (takeChanges take s) := by
  have k := takeChanges_onlyClosing take s
  have screen := takeChanges_screen take s
  refine ⟨k, by rw [screen]; exact .refl _, fun d => ?_⟩
  exact d.retied (takeChanges_duty take s) k.loader k.cfg (d.ties.congr (takeChanges_duty take s)
    (by rw [screen]) (by rw [k.line]) (by rw [k.stager]))

theorem handOn_seen (s : State) : Seen s (handOn s) := takeChanges_seen _ s

theorem chooseSensing_seen (s : State) : Seen s (chooseSensing s) :=
  .of_ite (.refl s) ((leaveSensing_seen s).trans ((handOn_seen _).trans (enterSensing_seen _ _)))

theorem diffGate_seen (s : State) : Seen s (diffGate s) :=
  Seen.trans (t := setScreen s _) sensed_seen (setCondition_seen _ _)

theorem expireInterval_seen (s : State) : Seen s (expireInterval s) :=
  .of_ite sensed_seen (.refl s)

theorem retakeFlush_seen (s : State) : Seen s (retakeFlush s) :=
  Seen.trans (t := setScreen s _) sensed_seen (expireInterval_seen _)

theorem screenGate_seen (s : State) : Seen s (screenGate s) := by
  have choose : ∀ (b : Bool) (v : State), Seen v (if b then chooseSensing v else v) := fun _ v =>
    .of_ite (chooseSensing_seen v) (.refl v)
  have diff : ∀ v : State, Seen v (if v.screen.sensing = some .diff then diffGate v else v) :=
    fun v => .of_ite (diffGate_seen v) (.refl v)
  exact (choose _ s).trans ((diff _).trans (retakeFlush_seen _))

theorem judgeLocked_seen (s : State) : Seen s (judgeLocked s) := by
  unfold judgeLocked
  split
  · exact .of_ite (setCondition_seen _ s) (.refl s)
  · exact .of_ite (setCondition_seen _ s) (.refl s)
  · exact .refl s
  · exact .refl s

/-- The post-rake timer's expiry (R92). -/
theorem postRakeStep_seen (s : State) : Seen s (postRakeStep s) :=
  Seen.trans (t := setScreen s _) sensed_seen
    (.of_ite (setCondition_seen _ _) (.refl _))

/-- The switch-clear timer's expiry (R92). -/
theorem switchClear_seen (s : State) :
    Seen s (setCondition .clear (setScreen s { s.screen with switchClear := none })) :=
  Seen.trans (t := setScreen s _) sensed_seen (setCondition_seen _ _)

/-! ### The rake -/

/-- The rake moves; the screen's condition does not. -/
theorem Sound.setScreen {g : Screen} (h : Sound s) (condition : g.condition = s.screen.condition)
    (rake : RakeFits (loaded s) g) : Sound (setScreen s g) := by
  obtain ⟨run, mode, window, runs, lead, fault⟩ := h.duty
  refine h.onlyClosing (setScreen_onlyClosing s g) ⟨run, mode, window, ?_, lead, fault⟩ rake
  show g.condition = .blocked ∨ _ → _
  rwa [condition]

/-- A rake that is not at rest is that of a loader that has finished (R88). -/
theorem RakeFits.loaded_of {l : Bool} {g : Screen} (r : RakeFits l g) (moves : g.rake ≠ .idle) :
    l = true := by
  obtain ⟨-, -, -, -, before, -⟩ := r
  exact Bool.of_not_eq_false fun e => moves (before e)

theorem Sound.startRake (h : Sound s) (wait : s.screen.rake = .wait) : Sound (startRake s) := by
  have l := h.rake.loaded_of (by simp [wait])
  refine h.setScreen rfl ?_
  obtain ⟨-, -, -, pause, -, bound, jams⟩ := h.rake
  simp only [wait] at pause jams
  exact ⟨iff_of_true rfl rfl, iff_of_true rfl rfl, fun _ => rfl, by simpa using pause,
    by simp [l], bound, by simpa using jams⟩

/-- A completed cycle rests the rake with no jam counted (R99). -/
theorem Sound.limitActivated (h : Sound s) : Sound (limitActivated s) := by
  unfold Machine.limitActivated
  split
  · rename_i run
    obtain ⟨-, -, -, pause, -⟩ := h.rake
    simp only [run] at pause
    exact h.setScreen rfl ⟨by simp [motorOff], by simp [motorOff], by simp [motorOff],
      by simpa [motorOff] using pause, fun _ => rfl, by simp⟩
  · exact h

/-- A jam rests the rake, or locks it and lets the screen be judged (R100, R101). -/
theorem Sound.jamRake (h : Sound s) (run : s.screen.rake = .run) : Sound (jamRake s) := by
  have l := h.rake.loaded_of (by simp [run])
  have pulse : Sound { s with alarms := { s.alarms with rakeJam := some 0 } } :=
    h.onlyHouse rfl fun _ => rfl
  obtain ⟨-, -, -, pause, -, bound, jams⟩ := h.rake
  simp only [run] at pause jams
  unfold Machine.jamRake
  dsimp only
  split
  · rename_i first
    refine pulse.setScreen rfl ⟨by simp [motorOff], by simp [motorOff], by simp [motorOff], by simp,
      fun n => absurd (l.symm.trans n) nofun, ?_⟩
    simp only [motorOff] at first ⊢
    exact ⟨by omega, by simp; omega⟩
  · refine Sound.seen ?_ (judgeLocked_seen _)
    refine pulse.setScreen rfl ?_
    exact ⟨by simp [motorOff], by simp [motorOff], by simp [motorOff],
      by simpa [motorOff] using pause, fun n => absurd (l.symm.trans n) nofun, by simp⟩

/-- The pause over, the rake waits for its start again (R100). -/
theorem Sound.endPause (h : Sound s) (paused : s.screen.rake = .pause) :
    Sound (Machine.setScreen s { s.screen with rake := .wait, pause := none }) := by
  have l := h.rake.loaded_of (by simp [paused])
  obtain ⟨motor, run, inrush, -, -, bound, jams⟩ := h.rake
  simp only [paused] at motor run inrush jams
  exact h.setScreen rfl ⟨by simpa using motor, by simpa using run, by simpa using inrush, by simp,
    fun n => absurd (l.symm.trans n) nofun, bound, by simpa using jams⟩

theorem Sound.endRakeInrush (h : Sound s) :
    Sound (Machine.setScreen s { s.screen with rakeInrush := none }) := by
  obtain ⟨motor, run, -, rest⟩ := h.rake
  exact h.setScreen rfl ⟨motor, run, nofun, rest⟩

/-- The rake stop applied ahead of the closing work (R102). -/
theorem Sound.applyRakeStop (h : Sound s) : Sound (applyRakeStop s) := by
  have k := applyRakeStop_onlyScreen s
  have condition : (Machine.applyRakeStop s).screen.condition = s.screen.condition := by
    unfold Machine.applyRakeStop
    split
    · split <;> rfl
    · rfl
  rw [k]
  exact h.setScreen condition (applyRakeStop_fits h.rake)

/-- The rake's claim won (R98). -/
theorem Sound.rakeFrame (h : Sound s) (won : Bool) (c : CommonCells) : Sound (rakeFrame won c s) := by
  unfold Machine.rakeFrame
  split
  · rename_i g
    simp only [Bool.and_eq_true, beq_iff_eq] at g
    exact h.startRake g.1.1.1.1.1.1.1
  · exact h

end Sys2Proof.Machine
end

section
/-! SUPPORT. What the events of the levels, the stages and the weir keep. -/

namespace Sys2Proof.Machine

open Sys2Proof

variable {s t u : State}

/-! ### Settings -/

/-- The bounds of the stages and of the gates' calibrations that settings in use keep. -/
theorem UsableSettings.stages {c : Settings} (h : UsableSettings c) :
    c.stageCount ≤ 8 ∧ c.highFloatStage ≤ 8 := by
  obtain ⟨-, rfl | r⟩ := h
  · exact ⟨Nat.zero_le 8, Nat.le_refl 8⟩
  · unfold InRange within at r
    omega

theorem Sound.stages (h : Sound s) : s.cfg.stageCount ≤ 8 ∧ s.cfg.highFloatStage ≤ 8 :=
  h.settings.1.stages

/-! ### A channel -/

section Channel

variable {c : Calibration} {q level : Nat} {ch : LevelChannel}

theorem classify_le {count : Nat} (g : classify c count = some level) : level ≤ c.h := by
  unfold classify at g
  split at g
  · cases g
  · split at g
    · cases g
    · split at g
      · cases g
        exact Nat.zero_le _
      · split at g
        · cases g
          exact Nat.le_refl _
        · cases g
          exact convert_le (by omega) (by omega)

/-- A channel that begins offers the level of its first good gate (R39, R41). -/
theorem initialise_safe (le : level ≤ c.h) (count : ch.count ≤ 65535) :
    ChannelSafe c (initialise level ch) :=
  ⟨fun _ => ⟨le, le, by simp [initialise], by simp [initialise]⟩, nofun, fun _ => rfl,
    (by rintro (e | e) <;> exact nomatch e), nofun, List.length_replicate, count⟩

/-- A good gate moves the level within the span, and the prediction is clamped to it (R35 to R37). -/
theorem updateLevel_safe (h : ChannelSafe c ch) (le : level ≤ c.h)
    (offers : ch.mode = .healthy ∨ ch.mode = .suspect) :
    ChannelSafe c { updateLevel c q level ch with badRun := 0, mode := .healthy } := by
  obtain ⟨spans, -, -, -, -, ring, count⟩ := h
  obtain ⟨e, -⟩ := spans offers
  have filtered := (filterLevel_spec c.k ch.e level).2.2
  refine ⟨fun _ => ⟨?_, ?_, ?_, ?_⟩, nofun, fun _ => rfl, (by rintro (e | e) <;> exact nomatch e), nofun,
    ?_, count⟩
  · show filterLevel c.k ch.e level ≤ c.h
    omega
  · have clamped := predict_eq c q (filterLevel c.k ch.e level)
      (rateOf (filterLevel c.k ch.e level) (ch.ring.headD 0))
    show predict c q _ _ ≤ c.h
    omega
  · show -2047 ≤ rateOf _ _
    unfold rateOf clampInt
    omega
  · show rateOf _ _ ≤ 2047
    unfold rateOf clampInt
    omega
  · show (ch.ring.drop 1 ++ [_]).length = 8
    simp [ring]

theorem goodGate_safe (h : ChannelSafe c ch) (le : level ≤ c.h) :
    ChannelSafe c (goodGate c q level ch) := by
  obtain ⟨-, -, -, -, -, -, count⟩ := id h
  unfold goodGate
  split
  · exact initialise_safe le count
  · exact updateLevel_safe h le (.inl ‹_›)
  · exact updateLevel_safe h le (.inr ‹_›)
  · rename_i faulted
    split
    · obtain ⟨spans, suspect, healthy, begins, -, ring, -⟩ := h
      exact ⟨spans, suspect, healthy, begins, fun _ => by dsimp only; omega, ring, count⟩
    · exact initialise_safe le count
  · exact h

/-- The third bad gate faults a channel (R39, R40). -/
theorem faulted_safe (h : ChannelSafe c ch) :
    ChannelSafe c { ch with badRun := 3, goodRun := 0, mode := .faulted } := by
  obtain ⟨-, -, -, -, -, ring, count⟩ := h
  exact ⟨(by rintro (e | e) <;> exact nomatch e), nofun, nofun, (by rintro (e | e) <;> exact nomatch e),
    fun _ => Nat.zero_le _, ring, count⟩

theorem badGate_safe (h : ChannelSafe c ch) : ChannelSafe c (badGate ch) := by
  have third := faulted_safe h
  obtain ⟨spans, suspect, healthy, begins, faulted, ring, count⟩ := h
  unfold badGate
  split
  · rename_i mode
    split
    · exact ⟨spans, by simp [mode], by simp [mode], fun _ => by dsimp only; omega, by simp [mode], ring,
        count⟩
    · exact third
  · rename_i mode
    have run := healthy mode
    exact ⟨fun _ => spans (.inl mode), fun _ => by dsimp only; omega, nofun,
      (by rintro (e | e) <;> exact nomatch e), nofun, ring, count⟩
  · rename_i mode
    split
    · exact ⟨spans, fun _ => by dsimp only; omega, by simp [mode], by simp [mode], by simp [mode], ring,
        count⟩
    · exact third
  · exact ⟨spans, suspect, healthy, begins, fun _ => Nat.zero_le _, ring, count⟩
  · exact ⟨spans, suspect, healthy, begins, faulted, ring, count⟩

theorem ChannelSafe.handed {after : LevelChannel} {good : Bool} (h : ChannelSafe c after) :
    ChannelSafe c (handed ch after good) := by
  obtain ⟨spans, suspect, healthy, begins, faulted, ring, -⟩ := h
  exact ⟨spans, suspect, healthy, begins, faulted, ring, Nat.zero_le _⟩

theorem gateChannel_safe (h : ChannelSafe c ch) : ChannelSafe c (gateChannel c q ch) := by
  by_cases absent : ch.mode = .absent
  · rw [gateChannel_of_absent absent]
    exact h.handed
  · cases g : classify c ch.count with
    | none =>
      rw [gateChannel_of_bad g]
      exact (badGate_safe h).handed
    | some level =>
      rw [gateChannel_of_good absent g]
      exact (goodGate_safe h (classify_le g)).handed

theorem pulse_safe (h : ChannelSafe c ch) : ChannelSafe c (pulse ch) := by
  obtain ⟨spans, suspect, healthy, begins, faulted, ring, -⟩ := h
  exact ⟨spans, suspect, healthy, begins, faulted, ring, satSucc_le _ _⟩

/-- A channel without a level in either state is safe in the other, under any calibration. -/
theorem ChannelSafe.begin_anew {k : Calibration} {m : ChannelMode} {count : Nat} (h : ChannelSafe c ch)
    (before : ch.mode = .starting ∨ ch.mode = .absent) (after : m = .starting ∨ m = .absent)
    (le : count ≤ 65535) : ChannelSafe k { ch with mode := m, count := count } := by
  obtain ⟨-, -, -, begins, -, ring, -⟩ := h
  have runs := begins before
  rcases after with rfl | rfl <;>
    exact ⟨(by rintro (e | e) <;> exact nomatch e), nofun, nofun, fun _ => runs, nofun, ring, le⟩

end Channel

/-! ### The stages -/

theorem Sound.withStage (h : Sound s) (k : OnlyStation s t) (stage : StageSafe t)
    (duty : t.duty = s.duty) (line : t.line = s.line) (screen : t.screen = s.screen)
    (call : t.stager.localCall = s.stager.localCall) (notices : t.notices = s.notices) : Sound t := by
  have pump := h.duty.retied duty k.loader k.cfg (h.duty.ties.congr duty (by rw [screen])
    (by rw [line]) call)
  refine h.onlyStation k pump (line ▸ h.line) ?_ stage ?_
  · rw [screen, k.loaded]
    exact h.rake
  · have e := h.fresh
    unfold Fresh at e ⊢
    rwa [k.captured, line, notices]

theorem evaluateStage_le {c : Settings} {closed : Bool} {d e p : Nat} (h : d ≤ c.stageCount) :
    evaluateStage c closed d e p ≤ c.stageCount := by
  unfold evaluateStage
  dsimp only
  split
  · exact largestStage_le _ _
  · split
    · have down := largestStage_le (fun j => decide (stopLevel c j < e)) (d - 1)
      unfold downStage
      omega
    · exact h

theorem stageAfterGate_le (before : ChannelMode) (h : s.stager.d ≤ s.cfg.stageCount) :
    stageAfterGate s before ≤ s.cfg.stageCount := by
  unfold stageAfterGate
  split
  · exact Nat.zero_le _
  · split
    · split
      · exact largestStage_le _ _
      · exact evaluateStage_le h
    · exact h
    all_goals exact Nat.zero_le _

/-- The local demand lies within the eight stages (R56). -/
theorem Sound.localDemand (h : Sound s) : localDPre s ≤ 8 ∧ localDEff s ≤ 8 := by
  obtain ⟨count, high⟩ := h.stages
  have own := h.stage.1
  have pre : localDPre s ≤ 8 := by
    unfold localDPre
    split <;> omega
  refine ⟨pre, ?_⟩
  unfold localDEff
  split <;> omega

/-- In LINE_FAULT the local demand is formed, and a run may stop (R56, R57, R86). -/
theorem Sound.reformLocal (h : Sound s) : Sound (reformLocal s) := by
  obtain ⟨pre, eff⟩ := h.localDemand
  unfold Machine.reformLocal
  split
  · rename_i g
    rw [Bool.and_eq_true, beq_iff_eq] at g
    obtain ⟨run, mode, window, runs, lead, -⟩ := h.duty
    refine Sound.eased ?_ (fallbackStop_eases _)
    refine h.onlyStation rfl ⟨run, mode, window, runs, lead, fun _ => g.1⟩ h.line h.rake ?_ h.fresh
    exact h.stage.station rfl rfl rfl ⟨h.stage.demands.1, pre, eff⟩
  · exact h

theorem Sound.stageGate (before : ChannelMode) (h : Sound s) (l : loaded s = true) :
    Sound (stageGate before s) := by
  obtain ⟨own, -, -, demands⟩ := h.stage
  refine Sound.reformLocal (h.withStage rfl ⟨stageAfterGate_le before own, fun unusable => ?_,
    fun n => absurd (l.symm.trans n) nofun, demands⟩ rfl rfl rfl rfl rfl)
  exact (stageAfterGate_spec s before).1 unusable

theorem demandRead_le (c : Cells) (n : Nat) : demandRead c n ≤ n := by
  induction n with
  | zero => exact Nat.le_refl 0
  | succ n ih =>
    unfold demandRead
    split
    · exact Nat.le_refl _
    · exact Nat.le_succ_of_le ih

/-- The demand formed at a good frame end (R52, R53). -/
theorem Sound.formDemand (c : Cells) (h : Sound s) : Sound (formDemand c s) := by
  obtain ⟨-, high⟩ := h.stages
  obtain ⟨line, pre, -⟩ := h.stage.demands
  have read := demandRead_le c 8
  unfold Machine.formDemand
  split
  · exact h
  · split
    · exact h.withStage rfl (h.stage.station rfl rfl rfl ⟨line, pre, Nat.zero_le _⟩) rfl rfl rfl rfl rfl
    · refine h.withStage rfl (h.stage.station rfl rfl rfl ⟨read, ?_, ?_⟩) rfl rfl rfl rfl rfl
      all_goals dsimp only [setStager]
      · split <;> omega
      · split
        · omega
        · split
          · omega
          · split <;> omega

/-! ### The weir -/

/-- What `OverflowSafe` says of a weir bay's monitor. -/
def WeirFits (o : Overflow) : Prop :=
  (o.sourceActive = true ↔ o.state = .pending ∨ o.state = .active)
  ∧ (o.pending.isSome = true ↔ o.state = .pending)
  ∧ (o.tail.isSome = true ↔ o.state = .tail)
  ∧ o.accumulator < 2 ^ 32

theorem OverflowSafe.fits (h : OverflowSafe s) : WeirFits s.ovf := by
  obtain ⟨source, pending, tail, accumulator, -⟩ := h
  exact ⟨source, pending, tail, accumulator⟩

theorem WeirFits.safe (h : WeirFits s.ovf) (weir : s.straps.weirEn = true) (l : loaded s = true) :
    OverflowSafe s := by
  obtain ⟨source, pending, tail, accumulator⟩ := h
  exact ⟨source, pending, tail, accumulator, by simp [weir, l]⟩

theorem Sound.onlyOvf (h : Sound s) (k : OnlyOvf s t) (safe : OverflowSafe t) : Sound t := by
  have e : Sound (setOvf s t.ovf) :=
    ⟨h.duty, h.line, h.rake, h.inputs, h.settings, h.stage, k ▸ safe, h.fresh⟩
  rw [k]
  exact e

/-- The answer to a changed head source (R108, R110). -/
theorem answerSource_fits (pending : s.ovf.pending.isSome = true ↔ s.ovf.state = .pending)
    (tail : s.ovf.tail.isSome = true ↔ s.ovf.state = .tail) (bound : s.ovf.accumulator < 2 ^ 32) :
    WeirFits (answerSource s).ovf := by
  unfold answerSource WeirFits
  cases active : s.ovf.sourceActive <;> cases state : s.ovf.state <;>
    simp_all [setOvf]

theorem retakeSource_fits (h : WeirFits s.ovf) : WeirFits (retakeSource s).ovf := by
  unfold retakeSource
  dsimp only
  split
  · exact h
  · obtain ⟨-, pending, tail, bound⟩ := h
    exact answerSource_fits (s := setOvf s _) pending tail bound

theorem formHead_fits (h : WeirFits s.ovf) : WeirFits (formHead s).ovf := by
  unfold formHead
  split <;> exact h

theorem integrate_fits (h : WeirFits s.ovf) : WeirFits (integrate s).ovf := by
  obtain ⟨source, pending, tail, -⟩ := id h
  unfold integrate
  split
  · exact h
  · split
    · refine ⟨source, pending, tail, ?_⟩
      dsimp only [setOvf]
      omega
    · exact h

theorem updateEvent_fits (h : WeirFits s.ovf) : WeirFits (updateEvent s).ovf := by
  have peak : WeirFits (if s.chanA.mode = .healthy then
      setOvf s { s.ovf with peak := max s.ovf.peak s.ovf.head } else s).ovf := by
    split <;> exact h
  have gate : ∀ v : State, WeirFits v.ovf →
      WeirFits (if v.ovf.prevGateOpen then integrate v else v).ovf := fun v fits => by
    split
    · exact integrate_fits fits
    · exact fits
  unfold updateEvent
  split
  · exact gate _ peak
  · exact h

theorem overflowGate_fits (h : WeirFits s.ovf) : WeirFits (overflowGate s).ovf := by
  have head := formHead_fits h
  unfold overflowGate
  dsimp only
  split
  · exact h
  · generalize e : setOvf (formHead s) _ = v
    have fits : WeirFits v.ovf := by rw [← e]; exact head
    show WeirFits { (if blindNow (formHead s) = true then v else updateEvent (retakeSource v)).ovf with
      prevGateOpen := _ }
    split
    · exact fits
    · exact updateEvent_fits (retakeSource_fits fits)

theorem Sound.overflowGate (h : Sound s) (l : loaded s = true) : Sound (overflowGate s) := by
  have k := overflowGate_onlyOvf s
  refine h.onlyOvf k ?_
  cases weir : s.straps.weirEn with
  | false =>
    have same : Machine.overflowGate s = s := if_pos (by simp [weir])
    rw [same]
    exact h.overflow
  | true =>
    exact (overflowGate_fits h.overflow.fits).safe ((congrArg (·.straps.weirEn) k).trans weir)
      (k.loaded.trans l)

/-- The weir float re-taken (R106). -/
theorem Sound.weirChanged (h : Sound s) : Sound (weirChanged s) := by
  unfold Machine.weirChanged
  split
  · rename_i g
    simp only [Bool.and_eq_true] at g
    have k := retakeSource_onlyOvf s
    exact h.onlyOvf k ((retakeSource_fits h.overflow.fits).safe
      ((congrArg (·.straps.weirEn) k).trans g.1.1) (k.loaded.trans g.2))
  · exact h

/-- A monitor out of OVF_IDLE is a weir bay's after the loader's finish (R103). -/
theorem OverflowSafe.weir_of (h : OverflowSafe s) (state : s.ovf.state ≠ .idle) :
    s.straps.weirEn = true ∧ loaded s = true := by
  obtain ⟨-, -, -, -, idle⟩ := h
  exact ⟨Bool.of_not_eq_false fun e => state (idle (.inl e)),
    Bool.of_not_eq_false fun e => state (idle (.inr e))⟩

/-- The opening of an event (R109). -/
theorem Sound.openEvent (h : Sound s) (pending : s.ovf.state = .pending) : Sound (openEvent s) := by
  obtain ⟨weir, l⟩ := h.overflow.weir_of (by simp [pending])
  obtain ⟨source, -, tail, -⟩ := h.overflow.fits
  simp only [pending] at source tail
  refine Sound.onlyNotices ?_ (handNotice_onlyNotices _ _)
  refine h.onlyOvf rfl (WeirFits.safe (s := setOvf s _) ?_ weir l)
  exact ⟨by simpa using source, by simp, by simpa using tail, by simp⟩

/-- The close of an event (R111). -/
theorem Sound.closeEvent (h : Sound s) (closing : s.ovf.state = .tail) : Sound (closeEvent s) := by
  obtain ⟨weir, l⟩ := h.overflow.weir_of (by simp [closing])
  unfold Machine.closeEvent
  dsimp only
  generalize e : handNotice (handNotice s _) _ = v
  have handed : OnlyNotices s v := e ▸ (handNotice_onlyNotices _ _).trans (handNotice_onlyNotices _ _)
  have k := handed.onlyHouse.station
  have sound := h.onlyNotices handed
  obtain ⟨source, pending, -, bound⟩ := sound.overflow.fits
  simp only [k.ovf, closing] at source pending
  refine sound.onlyOvf rfl (WeirFits.safe (s := setOvf v _) ?_ ?_ (k.loaded.trans l))
  · exact ⟨by simpa [k.ovf] using source, by simpa [k.ovf] using pending, by simp, bound⟩
  · exact (congrArg (·.weirEn) k.straps).trans weir

/-! ### The gate end -/

theorem Sound.endGates (h : Sound s) (l : loaded s = true) : Sound (endGates s) := by
  obtain ⟨own, zero, -, line, pre, eff, chanA, chanB⟩ := h.stage
  refine ⟨h.duty, h.line, h.rake, h.inputs, h.settings, ?_, h.overflow, h.fresh⟩
  exact ⟨own, zero, fun n => absurd (l.symm.trans n) nofun, line, pre, eff, gateChannel_safe chanA,
    gateChannel_safe chanB⟩

theorem Sound.gateStep (h : Sound s) (l : loaded s = true) : Sound (gateStep s) := by
  have stage : Sound (staged s) := (h.endGates l).stageGate s.chanA.mode l
  have judged := screenGate_seen (staged s)
  exact (stage.seen judged).overflowGate
    (judged.only.loaded.trans ((staged_onlyPlant s).station.loaded.trans l))

theorem Sound.pulseOn (c : Channel) (h : Sound s) : Sound (pulseOn c s) := by
  obtain ⟨own, zero, before, line, pre, eff, chanA, chanB⟩ := h.stage
  cases c with
  | a => exact ⟨h.duty, h.line, h.rake, h.inputs, h.settings,
      ⟨own, zero, before, line, pre, eff, pulse_safe chanA, chanB⟩, h.overflow, h.fresh⟩
  | b => exact ⟨h.duty, h.line, h.rake, h.inputs, h.settings,
      ⟨own, zero, before, line, pre, eff, chanA, pulse_safe chanB⟩, h.overflow, h.fresh⟩

end Sys2Proof.Machine
end

section
/-! SUPPORT. What acknowledgments and the events of the station line keep. -/

namespace Sys2Proof.Machine

open Sys2Proof

variable {s t u : State}

/-! ### Acknowledgments -/

theorem Sound.settlePanel (h : Sound s) : Sound (settlePanel s) := by
  have k := settlePanel_onlyClosing s
  have duty := h.duty.retied (settlePanel_duty s) k.loader k.cfg (h.duty.ties.congr (settlePanel_duty s)
    (by rw [settlePanel_screen]) (by rw [k.line]) (by rw [k.stager]))
  refine h.onlyClosing k duty ?_
  rw [settlePanel_screen, k.loaded]
  exact h.rake

/-- The rake leaves RK_LOCKED with no jam counted (R101). -/
theorem Sound.unlockRake (h : Sound s) (locked : s.screen.rake = .locked) : Sound (unlockRake s) := by
  obtain ⟨motor, run, inrush, pause, -⟩ := h.rake
  simp only [locked] at motor run inrush pause
  refine Sound.setScreen (s := s) h rfl ⟨?_, ?_, ?_, ?_, fun _ => rfl, by simp⟩
  · simpa using motor
  · simpa using run
  · simpa using inrush
  · simpa using pause

theorem Sound.releaseWaiting {b : State} (h : Sound s) : Sound (releaseWaiting b s) := by
  have rake : ∀ v : State, Sound v → v.screen = s.screen →
      Sound (if rakeReleased b s then Machine.unlockRake v else v) := fun v k screen => by
    split
    · rename_i g
      simp only [rakeReleased, Bool.and_eq_true, beq_iff_eq] at g
      exact k.unlockRake (by rw [screen, g.1.1])
    · exact k
  unfold Machine.releaseWaiting
  dsimp only
  refine rake _ ?_ ?_ <;> split
  · exact h.leaveFaulted
  · exact h
  · exact (congrArg (·.screen) (leaveFaulted_onlyDuty s)).trans rfl
  · rfl

theorem Sound.acknowledge (h : Sound s) : Sound (acknowledge s) := by
  unfold Machine.acknowledge
  split
  · exact (h.onlyAlarms (OnlyAlarms.foldl acknowledgeCode_onlyAlarms _ s)).settlePanel.releaseWaiting
      (b := s)
  · exact h

theorem Sound.pressAck (h : Sound s) : Sound (pressAck s) := by
  unfold Machine.pressAck
  split
  · exact h
  · split
    · exact h.onlyHouse rfl fun _ => rfl
    · exact h.acknowledge

theorem Sound.withdrawAck (h : Sound s) : Sound (withdrawAck s) := by
  have clear : Sound { s with alarms := { s.alarms with ackPress := false, ackTown := false } } :=
    h.onlyHouse rfl fun _ => rfl
  unfold Machine.withdrawAck
  dsimp only
  split
  · exact clear.acknowledge
  · exact clear

/-! ### JOINED left -/

theorem Sound.dutyLeft (h : Sound s) : Sound (dutyLeft s) := by
  have idle : ∀ v : State, Sound v → Sound (if v.duty.pump = .startWait then Machine.enterIdle v else v) :=
    fun v k => by
      split
      · rename_i wait
        exact k.eased (enterIdle_eases (by unfold Automatic; simp [wait])
          (fun r => r.open_of_rest (by simp [wait])) fun r => r.2.2.1 (.inr wait))
      · exact k
  have k := idle _ h.withdrawAck
  exact k.retie rfl ⟨rfl, rfl, rfl⟩ k.duty.run k.duty.window nofun .inl

theorem reporterLeaves_command (s : State) :
    (reporterLeaves s).notices.command = s.notices.command := by
  unfold reporterLeaves
  split <;> rfl

/-- An event that leaves the plant's blocks as they were. -/
theorem Sound.relined (h : Sound s) (k : OnlyStation s t)
    (same : t.duty = s.duty ∧ t.stager = s.stager ∧ t.screen = s.screen) (ties : Ties t)
    (fits : LineFits t.line) (fresh : Fresh t) : Sound t := by
  obtain ⟨duty, stager, screen⟩ := same
  refine h.onlyStation k (h.duty.retied duty k.loader k.cfg ties) fits ?_ (h.stage.same k stager) fresh
  rw [screen, k.loaded]
  exact h.rake

/-- The line's record changed, its state left. -/
theorem Sound.setLine {l : Line} (h : Sound s) (fits : LineFits l) (mode : l.mode = s.line.mode)
    (fresh : Fresh (setLine s l)) : Sound (setLine s l) :=
  h.relined (setLine_station s l) ⟨rfl, rfl, rfl⟩ (h.duty.ties.congr rfl rfl mode rfl) fits fresh

theorem Sound.leaveJoined (h : Sound s) : Sound (leaveJoined s) := by
  have left := h.dutyLeft.onlyHouse (reporterLeaves_onlyHouse _) fun _ => reporterLeaves_command _
  generalize e : reporterLeaves (Machine.dutyLeft s) = v at left
  have unheld : Sound { emptyView (ownAddress (Machine.dutyLeft s)) v with
      notices := { v.notices with holdoff := false } } :=
    left.onlyHouse rfl fun _ => rfl
  obtain ⟨cut, joined, drive, won, stuck, peers⟩ := unheld.line
  have fits := unheld.setLine (l := { v.line with
      due := false, syncDriving := false, aloneCount := 0, alone := false })
    ⟨cut, fun d => ?_, drive, won, stuck, peers⟩ rfl unheld.fresh
  · rw [← e] at fits
    exact fits
  · rcases d with d | d | d | d
    · exact nomatch d
    · exact nomatch d
    · exact nomatch d
    · exact joined (.inr (.inr (.inr d)))

theorem Sound.leaveIfJoined (h : Sound s) : Sound (leaveIfJoined s) := by
  unfold Machine.leaveIfJoined
  split
  · exact h.leaveJoined
  · exact h

/-- Once JOINED has been left, or outside it, the bay neither leads nor waits for a start. -/
theorem Sound.unled (h : Sound s) : (Machine.leaveIfJoined s).duty.holdsLead = false
    ∧ (Machine.leaveIfJoined s).duty.pump ≠ .startWait := by
  by_cases m : s.line.mode = .joined
  · rw [leaveIfJoined_of_joined m, (leaveJoined_spec s).2.1]
    exact ⟨(dutyLeft_duty s).2.1, (dutyLeft_duty s).1⟩
  · rw [leaveIfJoined_of_outside m]
    have joined := h.duty.ties.2.1
    exact ⟨Bool.eq_false_iff.2 fun l => m (joined (.inl l)), fun p => m (joined (.inr p))⟩

/-! ### The line's record -/

theorem leftLine_fits {l : Line} (h : LineFits l) :
    (leftLine l).alone = false ∧ ((leftLine l).drive ≠ none → (leftLine l).receiver = .inside)
      ∧ ((leftLine l).noticeWon = true → (leftLine l).drive ≠ none) ∧ (leftLine l).peers.length = 8 := by
  obtain ⟨-, joined, drive, won, -, peers⟩ := h
  unfold leftLine
  split
  · exact ⟨rfl, drive, won, peers⟩
  · rename_i m
    exact ⟨Bool.eq_false_iff.2 fun a => m (joined (.inr (.inr (.inl a)))), drive, won, peers⟩

theorem releasedDriver_cut (d : Driver) : releasedDriver d = .cut ↔ d = .cut := by
  cases d <;> simp [releasedDriver]

/-- A line out of JOINED, once a frame in progress has been broken off. -/
theorem brokenLine_fits {own : Nat} {l : Line} (cut : l.driver = .cut ↔ l.mode = .isolated)
    (due : l.due = false) (sync : l.syncDriving = false) (alone : l.alone = false)
    (drive : l.drive ≠ none → l.receiver = .inside) (won : l.noticeWon = true → l.drive ≠ none)
    (stuck : stuckNow l = true → l.mode = .lineFault ∨ l.mode = .isolated)
    (peers : l.peers.length = 8) : LineFits (brokenLine own l) := by
  unfold brokenLine
  split
  · refine ⟨(releasedDriver_cut _).trans cut, ?_, nofun, nofun, stuck, by simpa using peers⟩
    simp [due, sync, alone]
  · rename_i out
    refine ⟨cut, ?_, drive, won, stuck, peers⟩
    simp only [due, sync, alone, Bool.false_eq_true, false_or]
    exact fun d => absurd (drive d) out

/-- A frame found bad (R8, R13). -/
theorem badFrameEnd_fits (n : Nat) (h : LineFits s.line) : LineFits (badFrameEnd n s).line := by
  obtain ⟨cut, joined, -, -, stuck, peers⟩ := h
  rw [badFrameEnd_line]
  refine ⟨(releasedDriver_cut _).trans cut, ?_, fun d => absurd rfl d, nofun, stuck, by simpa using peers⟩
  rintro (d | y | a | n)
  · exact joined (.inl d)
  · exact joined (.inr (.inl y))
  · exact joined (.inr (.inr (.inl a)))
  · exact absurd rfl n

/-- Outside JOINED no drive of a frame stands. -/
theorem LineFits.undriven {l : Line} (h : LineFits l) (m : l.mode ≠ .joined) : l.drive = none := by
  obtain ⟨-, joined, -⟩ := h
  exact not_not.1 fun d => m (joined (.inr (.inr (.inr d))))

theorem LineFits.undriven_of_receiver {l : Line} (h : LineFits l) (r : l.receiver ≠ .inside) :
    l.drive = none := by
  obtain ⟨-, -, drive, -⟩ := h
  exact not_not.1 fun d => r (drive d)

/-- A receiver in step, or in a frame, is that of captured straps. -/
theorem Sound.captured_of (h : Sound s) (r : s.line.receiver ≠ .searching) : captured s = true :=
  Bool.of_not_eq_false fun c => r (h.fresh c).1

/-! ### Frames found bad -/

theorem breakFrame_fresh (h : Fresh s) : Fresh (breakFrame s) := by
  obtain ⟨inside, e⟩ | ⟨-, e⟩ := breakFrame_cases s <;> rw [e]
  · refine .of_captured ((badFrameEnd_station 0 s).captured.trans ?_)
    exact Bool.of_not_eq_false fun c => by simp [(h c).1] at inside
  · exact h

theorem badFrameEnd_plant (n : Nat) (s : State) : (badFrameEnd n s).duty = s.duty
    ∧ (badFrameEnd n s).stager = s.stager ∧ (badFrameEnd n s).screen = s.screen := by
  have k := badNotice_onlyHouse s
  exact ⟨k.duty, k.stager, k.screen⟩

theorem Sound.badFrameEnd (n : Nat) (h : Sound s) (inside : s.line.receiver = .inside) :
    Sound (badFrameEnd n s) := by
  have k := badFrameEnd_station n s
  obtain ⟨duty, stager, screen⟩ := badFrameEnd_plant n s
  have mode : (Machine.badFrameEnd n s).line.mode = s.line.mode := by rw [badFrameEnd_line]
  exact h.relined k ⟨duty, stager, screen⟩
    (h.duty.ties.congr duty (by rw [screen]) mode (by rw [stager])) (badFrameEnd_fits n h.line)
    (.of_captured (k.captured.trans (h.captured_of (by simp [inside]))))

theorem Sound.breakFrame (h : Sound s) : Sound (breakFrame s) := by
  obtain ⟨inside, e⟩ | ⟨-, e⟩ := breakFrame_cases s <;> rw [e]
  · exact h.badFrameEnd 0 inside
  · exact h

theorem breakFrame_screen (s : State) : (breakFrame s).screen = s.screen := by
  obtain ⟨-, e⟩ | ⟨-, e⟩ := breakFrame_cases s <;> rw [e]
  exact (badFrameEnd_plant 0 s).2.2

/-! ### Entry to LINE_FAULT and to ISOLATED -/

/-- A state of the line out of JOINED entered, a frame in progress broken off. -/
theorem left_brokenLine_fits {own : Nat} {l : Line} {m : LineMode} {d : Driver} (h : LineFits l)
    (cut : d = .cut ↔ m = .isolated) (out : m = .lineFault ∨ m = .isolated) :
    LineFits (brokenLine own
      { leftLine l with mode := m, driver := d, due := false, syncDriving := false }) := by
  obtain ⟨alone, drive, won, peers⟩ := leftLine_fits h
  exact brokenLine_fits cut rfl rfl alone drive won (fun _ => out) peers

theorem Sound.enterLineFault (h : Sound s) : Sound (enterLineFault s) := by
  have left := h.leaveIfJoined
  obtain ⟨lead, wait⟩ := h.unled
  obtain ⟨duty, stager⟩ := breakFrame_plant (faulting s)
  have screen := breakFrame_screen (faulting s)
  have line : (faultBroken s).line = (Machine.enterLineFault s).line := by
    rw [enterLineFault_eq, (reformLocal_onlyPlant _).line]
  have mode : (faultBroken s).line.mode = .lineFault := by
    rw [line, enterLineFault_line]
    exact (brokenLine_keeps _ _).1
  rw [enterLineFault_eq]
  refine Sound.reformLocal (left.relined ((setLine_station _ _).trans ((breakFrame_station _).trans
    (setLine_station _ _))) ⟨duty, stager, screen⟩ ⟨?_, ?_, fun _ => mode⟩ ?_ ?_)
  · rw [mode, show (faultBroken s).screen = _ from screen, show (faultBroken s).duty = _ from duty]
    exact fun b => left.duty.ties.1 (.inl (b.resolve_right nofun))
  · rw [show (faultBroken s).duty = _ from duty]
    exact fun j => (j.elim (fun l => nomatch lead.symm.trans l) fun p => absurd p wait)
  · rw [line, enterLineFault_line]
    exact left_brokenLine_fits h.line (by simp) (.inl rfl)
  · exact breakFrame_fresh (s := faulting s) left.fresh

/-- The line's record has been taken out of LINE_FAULT, or was not in it: no local call stands. -/
theorem Sound.endLocalCall (h : Sound s) : Sound (endLocalCall s) := by
  obtain ⟨run, mode, window, runs, joined, -⟩ := h.duty
  refine h.onlyStation (endLocalCall_onlyPlant s).station ⟨run, mode, window, runs, joined, ?_⟩ h.line
    h.rake (h.stage.station rfl rfl rfl h.stage.demands) h.fresh
  exact fun c => c.elim nofun fun d => absurd rfl d

/-- A state that a stop leaves beside the pump is as the one before it. -/
theorem Sound.stopped {y : State} (h : Sound u) (k : OnlyStation u y)
    (same : y.duty = u.duty ∧ y.stager = u.stager ∧ y.screen = u.screen)
    (unled : u.duty.holdsLead = false ∧ u.duty.pump ≠ .startWait)
    (uncalled : u.stager.localCall = false ∧ u.duty.fallbackDelay = .stopped)
    (fits : LineFits y.line) (fresh : Fresh y) : Sound (stopAutomatic y) := by
  obtain ⟨duty, stager, screen⟩ := same
  have stops := stopAutomatic_eases y
  have only := stops.quiet.only
  have window := h.duty.window.same (t := y) (by rw [duty]) k.cfg k.loader
  have ties : Ties (stopAutomatic y) := by
    refine .rested stops.quiet (stopAutomatic_rests y) ?_ ?_
    · rw [duty]
      exact fun j => j.elim (fun l => nomatch unled.1.symm.trans l) fun p => absurd p unled.2
    · rw [duty, stager]
      exact fun f => f.elim (fun c => nomatch uncalled.1.symm.trans c) fun d => absurd uncalled.2 d
  refine h.onlyStation (k.trans only.station) ⟨stops.run (h.duty.run.congr duty k.loader),
    (h.duty.mode.congr duty k.loader).same stops.mode only.captured,
    window.same stops.quiet.window only.station.cfg only.station.loader, ties⟩ ?_ ?_ ?_ ?_
  · rw [only.onlyPlant.line]
    exact fits
  · rw [stopAutomatic_screen, screen, only.station.loaded, k.loaded]
    exact h.rake
  · exact h.stage.same (k.trans only.station) (only.onlyClosing.stager.trans stager)
  · unfold Fresh at fresh ⊢
    rwa [only.captured, only.onlyPlant.line, only.onlyClosing.received]

theorem Sound.enterIsolated (h : Sound s) : Sound (enterIsolated s) := by
  have left := h.leaveIfJoined
  obtain ⟨lead, wait⟩ := h.unled
  generalize e : (if (Machine.leaveIfJoined s).line.mode = .lineFault then
    Machine.endLocalCall (Machine.leaveIfJoined s) else Machine.leaveIfJoined s) = w
  have called : Sound w ∧ w.duty.holdsLead = false ∧ w.duty.pump ≠ .startWait
      ∧ w.stager.localCall = false ∧ w.duty.fallbackDelay = .stopped := by
    subst e
    split
    · exact ⟨left.endLocalCall, lead, wait, rfl, rfl⟩
    · rename_i other
      have fault := left.duty.ties.2.2
      exact ⟨left, lead, wait, Bool.eq_false_iff.2 fun c => other (fault (.inl c)),
        not_not.1 fun d => other (fault (.inr d))⟩
  obtain ⟨sound, unled, unwaiting, uncalled, stopped⟩ := called
  have entering : isolating s = Machine.setLine w { w.line with
      mode := .isolated, driver := .cut, due := false, syncDriving := false } := by rw [← e]; rfl
  have fresh := breakFrame_fresh (s := isolating s) (by rw [entering]; exact sound.fresh)
  have k : OnlyStation w (Machine.breakFrame (isolating s)) := by
    rw [entering]
    exact (setLine_station _ _).trans (breakFrame_station _)
  have line : (Machine.breakFrame (isolating s)).line = _ :=
    (stopAutomatic_onlyDuty _).onlyPlant.line.symm.trans (enterIsolated_line s)
  obtain ⟨duty, stager⟩ := breakFrame_plant (isolating s)
  have screen := breakFrame_screen (isolating s)
  have same : (isolating s).duty = w.duty ∧ (isolating s).stager = w.stager
      ∧ (isolating s).screen = w.screen := by
    rw [entering]
    exact ⟨rfl, rfl, rfl⟩
  rw [enterIsolated_eq]
  refine sound.stopped k ⟨duty.trans same.1, stager.trans same.2.1, screen.trans same.2.2⟩
    ⟨unled, unwaiting⟩ ⟨uncalled, stopped⟩ ?_ fresh
  rw [line]
  exact left_brokenLine_fits h.line (by simp) (.inr rfl)

end Sys2Proof.Machine
end

section
/-! SUPPORT. What the changes of line state, the syncs and the frames keep. -/

namespace Sys2Proof.Machine

open Sys2Proof

variable {s t u : State}

/-! ### The line's record within its state (R4 to R7, R25) -/

/-- What only a JOINED station does, its drive aside. -/
theorem LineFits.keyed {l : Line} (h : LineFits l) :
    l.due = true ∨ l.syncDriving = true ∨ l.alone = true → l.mode = .joined := by
  obtain ⟨-, joined, -⟩ := h
  exact fun k => joined (k.imp_right (Or.imp_right .inl))

/-- A change of the line's record beside its state, the cut of its driver, its drive and its receiver. -/
theorem Sound.reline {l : Line} (h : Sound s)
    (keyed : l.due = true ∨ l.syncDriving = true ∨ l.alone = true → s.line.mode = .joined)
    (cut : l.driver = .cut ↔ s.line.driver = .cut)
    (frame : l.drive = s.line.drive ∧ l.noticeWon = s.line.noticeWon
      ∧ l.receiver = s.line.receiver := by exact ⟨rfl, rfl, rfl⟩)
    (mode : l.mode = s.line.mode := by exact rfl)
    (rest : (stuckNow l = true → stuckNow s.line = true) ∧ l.peers = s.line.peers := by
      exact ⟨id, rfl⟩) : Sound (Machine.setLine s l) := by
  obtain ⟨drive, won, receiver⟩ := frame
  obtain ⟨stays, peers⟩ := rest
  obtain ⟨isolated, joined, inside, driven, stuck, length⟩ := h.line
  refine h.setLine ⟨?_, ?_, ?_, ?_, ?_, ?_⟩ mode ?_
  · rwa [cut, mode]
  · rw [mode, drive]
    rintro (d | y | a | n)
    · exact keyed (.inl d)
    · exact keyed (.inr (.inl y))
    · exact keyed (.inr (.inr a))
    · exact joined (.inr (.inr (.inr n)))
  · rwa [drive, receiver]
  · rwa [drive, won]
  · rw [mode]
    exact fun n => stuck (stays n)
  · rwa [peers]
  · have fresh := h.fresh
    unfold Fresh at fresh ⊢
    rwa [setLine_line, receiver]

/-- A line that drives no frame whose receiver takes another condition out of a frame. -/
theorem Sound.receive {l : Line} (h : Sound s) (undriven : s.line.drive = none)
    (seen : captured s = true ∨ l.receiver = .searching)
    (same : l.mode = s.line.mode ∧ l.driver = s.line.driver ∧ l.due = s.line.due
      ∧ l.syncDriving = s.line.syncDriving ∧ l.alone = s.line.alone ∧ l.drive = s.line.drive
      ∧ l.noticeWon = s.line.noticeWon ∧ l.peers = s.line.peers := by
        exact ⟨rfl, rfl, rfl, rfl, rfl, rfl, rfl, rfl⟩)
    (stuck : stuckNow l = true → l.mode = .lineFault ∨ l.mode = .isolated) :
    Sound (Machine.setLine s l) := by
  obtain ⟨mode, driver, due, sync, alone, drive, won, peers⟩ := same
  obtain ⟨isolated, joined, -, driven, -, length⟩ := h.line
  refine h.setLine ⟨?_, ?_, ?_, ?_, stuck, ?_⟩ mode fun c => ?_
  · rwa [driver, mode]
  · rwa [due, sync, alone, drive, mode]
  · rw [drive, undriven]
    exact fun n => absurd rfl n
  · rwa [won, drive]
  · rwa [peers]
  · exact ⟨seen.elim (fun k => nomatch k.symm.trans c) id, (h.fresh c).2⟩

/-- The frame timer's expiry (R5, R6). -/
theorem Sound.frameExpires (h : Sound s) : Sound (Machine.setLine s { s.line with
    frameExpired := true, due := s.line.mode == .joined }) := by
  refine h.reline ?_ Iff.rfl
  rintro (d | y | a)
  · simpa using d
  · exact h.line.keyed (.inr (.inl y))
  · exact h.line.keyed (.inr (.inr a))

/-- An own sync begins (R5, R6). -/
theorem Sound.syncDrives (h : Sound s) (joined : s.line.mode = .joined) : Sound (Machine.setLine s
    { s.line with frameCells := 0, syncDriving := true, driver := .driving }) := by
  refine h.reline (fun _ => joined) (iff_of_false nofun fun c => ?_)
  exact absurd (joined.symm.trans (h.line.1.1 c)) nofun

theorem Sound.failSync (h : Sound s) (sync : s.line.syncDriving = true) : Sound (failSync s) := by
  have joined := h.line.keyed (.inr (.inl sync))
  have failed : Sound (Machine.setLine s { s.line with
      frameExpired := false, due := false, syncDriving := false, driver := .released
      syncFail := satSucc 3 s.line.syncFail }) := by
    refine h.reline (fun _ => joined) (iff_of_false nofun fun c => ?_)
    exact absurd (joined.symm.trans (h.line.1.1 c)) nofun
  unfold Machine.failSync
  dsimp only
  split
  · exact failed.enterLineFault
  · exact failed

theorem Sound.lineIdle (n : Nat) (h : Sound s) :
    Sound (Machine.setLine s { s.line with recessiveRun := n }) := h.reline h.line.keyed Iff.rfl

theorem Sound.inStep (n : Nat) (h : Sound s) (seen : captured s = true)
    (searching : s.line.receiver = .searching) :
    Sound (Machine.setLine s { s.line with receiver := .outside, recessiveRun := n }) := by
  obtain ⟨-, -, -, -, stuck, -⟩ := h.line
  exact h.receive (h.line.undriven_of_receiver (by simp [searching])) (.inl seen) (stuck := stuck)

theorem Sound.loseStep (h : Sound s) (outside : s.line.receiver ≠ .inside) : Sound (Machine.setLine s
    { s.line with receiver := .searching, recessiveRun := 0, quiet := 0 }) := by
  obtain ⟨-, -, -, -, stuck, -⟩ := h.line
  exact h.receive (h.line.undriven_of_receiver outside) (.inr rfl) (stuck := stuck)

theorem Sound.stuckClears (h : Sound s) :
    Sound (Machine.setLine s { s.line with stuck := 0, quiet := 0 }) :=
  h.reline h.line.keyed Iff.rfl (rest := ⟨nofun, rfl⟩)

theorem Sound.detectsAlone (h : Sound s) (joined : s.line.mode = .joined) :
    Sound (Machine.setLine s { s.line with alone := true }) := h.reline (fun _ => joined) Iff.rfl

/-! ### Changes of line state -/

/-- LISTEN is left for JOINED (R11, R15, R16). -/
theorem Sound.enterJoined (due : Bool) (h : Sound s) (listen : s.line.mode = .listen) :
    Sound (enterJoined due s) := by
  obtain ⟨cut, -, inside, driven, stuck, length⟩ := h.line
  obtain ⟨runs, -, fault⟩ := h.duty.ties
  simp only [listen] at cut stuck runs fault
  refine h.relined (setLine_station s _) ⟨rfl, rfl, rfl⟩ ⟨?_, fun _ => rfl, ?_⟩
    ⟨?_, fun _ => rfl, inside, driven, ?_, length⟩ h.fresh
  · exact fun b => runs (b.imp_right nofun)
  · exact fun c => absurd (fault c) nofun
  · exact iff_of_false (fun c => nomatch cut.1 c) nofun
  · exact fun n => (stuck n).elim nofun nofun

/-- LINE_FAULT is left for LISTEN (R21, R57). -/
theorem Sound.enterListen (h : Sound s) (fault : s.line.mode = .lineFault) : Sound (enterListen s) := by
  have called := h.endLocalCall
  have undriven := h.line.undriven (by simp [fault])
  have keyed := h.line.keyed
  obtain ⟨-, -, -, driven, -, length⟩ := h.line
  obtain ⟨runs, joined, -⟩ := h.duty.ties
  simp only [fault] at runs joined keyed
  refine called.relined (t := Machine.enterListen s) rfl ⟨rfl, rfl, rfl⟩ ⟨?_, ?_, ?_⟩
    ⟨?_, ?_, ?_, driven, nofun, length⟩ called.fresh
  · exact fun b => runs (b.imp_right nofun)
  · exact fun j => absurd (joined j) nofun
  · exact fun c => c.elim nofun fun d => absurd rfl d
  · exact iff_of_false nofun nofun
  · rintro (d | y | a | n)
    · exact absurd (keyed (.inl d)) nofun
    · exact absurd (keyed (.inr (.inl y))) nofun
    · exact nomatch a
    · exact absurd undriven n
  · exact fun n => absurd undriven n

theorem Sound.jabberTrip (n : Nat) (h : Sound s) :
    Sound (Machine.enterIsolated (Machine.setLine s { s.line with jabber := n })) := by
  have counted : Sound (Machine.setLine s { s.line with jabber := n }) := h.reline h.line.keyed Iff.rfl
  exact counted.enterIsolated

theorem Sound.becomeStuck (n : Nat) (h : Sound s) : Sound (becomeStuck n s) := by
  have out : ∀ v : State, Sound v → v.line.mode = .lineFault ∨ v.line.mode = .isolated →
      Sound (Machine.setLine v { v.line with
        stuck := n, quiet := 0, receiver := .searching, recessiveRun := 0 }) := fun v k m =>
    k.receive (k.line.undriven (by rcases m with m | m <;> simp [m])) (.inr rfl) (stuck := fun _ => m)
  unfold Machine.becomeStuck
  dsimp only
  split
  · refine out _ h.enterLineFault (.inl ?_)
    rw [enterLineFault_line]
    exact (brokenLine_keeps _ _).1
  · rename_i other
    have mode : s.line.mode = .lineFault ∨ s.line.mode = .isolated := by
      cases m : s.line.mode <;> simp [m] at other ⊢
    refine out _ h.breakFrame ?_
    rw [breakFrame_line fun j => other (.inr j), (brokenLine_keeps _ _).1]
    exact mode

/-! ### Frames -/

/-- The leading edge of a sync (R4 to R7, R9). -/
theorem Sound.takeEdge (h : Sound s) (seen : captured s = true) : Sound (takeEdge s) := by
  obtain ⟨cut, -, -, -, stuck, length⟩ := h.line
  refine h.setLine ⟨cut, ?_, fun n => absurd rfl n, nofun, stuck, length⟩ rfl (.of_captured seen)
  rintro (d | y | a | n)
  · exact nomatch d
  · exact nomatch y
  · exact h.line.keyed (.inr (.inr a))
  · exact absurd rfl n

/-- A JOINED station's drive of a frame (R9). -/
theorem Sound.takeDrive (h : Sound s) (seen : captured s = true) (joined : s.line.mode = .joined)
    (inside : s.line.receiver = .inside) : Sound (takeDrive s) := by
  obtain ⟨cut, -, -, -, stuck, length⟩ := h.line
  generalize e : (if (driveOf s).noticeKey.isSome then
    setQueue s (headInFlight s.notices.queue) else s) = v
  have queued : OnlyHouse s v := by
    rw [← e]
    exact .of_ite rfl (.refl s)
  have only : OnlyHouse s { v with
      notices := { v.notices with holdoff := false }
      alarms := { v.alarms with ackPress := false, ackTown := false } } := queued.trans rfl
  have line := only.line
  have sound := h.onlyHouse only fun c => absurd (seen.symm.trans c) nofun
  have drives : Machine.takeDrive s = Machine.setLine { v with
      notices := { v.notices with holdoff := false }
      alarms := { v.alarms with ackPress := false, ackTown := false } }
    { v.line with drive := some (driveOf s), driver := .driving, nextBeat := !v.line.nextBeat } := by
    rw [← e]
    rfl
  have same : v.line = s.line := line
  rw [drives]
  refine sound.setLine ⟨?_, ?_, ?_, fun _ => nofun, ?_, ?_⟩ rfl
    (.of_captured (only.station.captured.trans seen))
  · rw [same]
    exact iff_of_false nofun fun i => nomatch joined.symm.trans i
  · rw [same]
    exact fun _ => joined
  · rw [same]
    exact fun _ => inside
  · rw [same]
    exact stuck
  · rw [same]
    exact length

theorem Sound.frameStart (h : Sound s) (outside : s.line.receiver = .outside) : Sound (frameStart s) := by
  have seen := h.captured_of (by simp [outside])
  have edge := h.takeEdge seen
  have formed : Sound (Machine.setDuty (Machine.takeEdge s)
      { (Machine.takeEdge s).duty with availableAtStart := available (Machine.takeEdge s) }) :=
    edge.setDuty rfl ⟨rfl, rfl, rfl⟩ ⟨rfl, rfl, rfl⟩ edge.duty.run
  unfold Machine.frameStart
  dsimp only
  split
  · exact formed.takeDrive seen ‹_› rfl
  · exact formed

/-- The notice claim won (R13, R137). -/
theorem Sound.winNotice (h : Sound s) : Sound (winNotice s) := by
  unfold Machine.winNotice
  split
  · exact h
  · rename_i d drive
    obtain ⟨cut, joined, inside, -, stuck, length⟩ := h.line
    have driven : s.line.drive ≠ none := by simp [drive]
    have held : Sound { s with notices := { s.notices with holdoff := true } } :=
      h.onlyHouse rfl fun _ => rfl
    refine held.setLine ⟨cut, fun _ => joined (.inr (.inr (.inr driven))), fun _ => inside driven,
      fun _ => nofun, stuck, length⟩ rfl h.fresh

theorem Sound.readFrame (c : Cells) (h : Sound s) (seen : captured s = true) : Sound (readFrame c s) := by
  obtain ⟨cut, -, -, -, stuck, -⟩ := h.line
  refine h.setLine ⟨(releasedDriver_cut _).trans cut, ?_, fun n => absurd rfl n, nofun, stuck, rfl⟩ rfl
    (.of_captured seen)
  rintro (d | y | a | n)
  · exact h.line.keyed (.inl d)
  · exact h.line.keyed (.inr (.inl y))
  · exact h.line.keyed (.inr (.inr a))
  · exact absurd rfl n

/-- The counts of the line state at a good frame end, and the clash (R7, R15, R17, R18, R21, R25). -/
theorem Sound.countLine (c : Cells) (drive : Option Drive) (h : Sound s) : Sound (countLine c drive s) := by
  have clash : ∀ v : State, Sound v → Sound (match drive with
      | some d => if clashes d.cells c (ownAddress s) then Machine.enterIsolated v else v
      | none => v) := fun v k => by
    split
    · split
      · exact k.enterIsolated
      · exact k
    · exact k
  unfold Machine.countLine
  dsimp only
  split
  · split <;> exact h.reline h.line.keyed Iff.rfl
  · rename_i joined
    rw [countAlone_eq]
    refine clash _ ((h.reline h.line.keyed Iff.rfl).reline (fun _ => joined) Iff.rfl)
  · exact h.reline h.line.keyed Iff.rfl
  · exact h

end Sys2Proof.Machine
end

section
/-! SUPPORT. What the end of a good frame keeps. -/

namespace Sys2Proof.Machine

open Sys2Proof

variable {s t u : State}

/-! ### The Duty Controller's part (R69 to R77, R81 to R85) -/

theorem Sound.formDutyList (h : Sound s) : Sound (formDutyList s) :=
  h.setDuty rfl ⟨rfl, rfl, rfl⟩ ⟨rfl, rfl, rfl⟩ h.duty.run

theorem Sound.testUnplanned (h : Sound s) : Sound (testUnplanned s) :=
  h.setDuty rfl ⟨rfl, rfl, rfl⟩ ⟨rfl, rfl, rfl⟩ h.duty.run

theorem Sound.countDuty (low : Bool) (h : Sound s) : Sound (countDuty low s) :=
  h.setDuty rfl ⟨rfl, rfl, rfl⟩ ⟨rfl, rfl, rfl⟩ h.duty.run

/-- The changeover timer set back, which a blocked changeover has passed (R77). -/
theorem Sound.holdChangeover (h : Sound s) : Sound (holdChangeover s) := by
  obtain ⟨-, below, e⟩ | ⟨-, e⟩ := holdChangeover_cases s <;> rw [e]
  · obtain ⟨closed, run, idle, yielding, blocked, inrush, minRun, confirm, runLoss, confirmed, -, -,
      limit⟩ := h.duty.run
    exact h.setDuty rfl ⟨rfl, rfl, rfl⟩ ⟨rfl, rfl, rfl⟩ ⟨closed, run, idle, yielding, blocked, inrush,
      minRun, confirm, runLoss, confirmed, Nat.zero_le _, fun _ => rfl,
      fun b => absurd (limit b) (Nat.ne_of_lt below)⟩
  · exact h

theorem Sound.leadWork (h : Sound s) (joined : s.line.mode = .joined) : Sound (leadWork s) :=
  h.retie rfl ⟨rfl, rfl, rfl⟩ h.duty.run h.duty.window (fun _ => .inr joined) .inl

/-- A run stops at a good frame end (R75, R76). -/
theorem Sound.stopWork (h : Sound s) (running : s.duty.pump = .running) : Sound (stopWork s) := by
  have stop := h.eased (enterLockedOff_eases (automatic_of_run (.inr running)))
  unfold Machine.stopWork
  split
  · split
    · exact stop
    · exact h
  · split
    · exact stop
    · exact h

/-- START_WAIT: a start where the claim is won, or the wait given up (R72, R74). -/
theorem Sound.startWork (won : Bool) (c : CommonCells) (h : Sound s) (wait : s.duty.pump = .startWait)
    (can : s.duty.availableAtEnd = true → available s = true) : Sound (startWork won c s) := by
  unfold Machine.startWork
  split
  · rename_i g
    rw [Bool.and_eq_true] at g
    obtain ⟨-, joined, screen, room⟩ := available_cases (can g.2)
    split
    · exact h.startPump (.inr wait) (by simp [joined]) screen room
    · exact h
  · exact h.eased (enterIdle_eases (by unfold Automatic; simp [wait])
      (fun r => r.open_of_rest (by simp [wait])) fun r => r.2.2.1 (.inr wait))

/-- IDLE passes to START_WAIT in JOINED (R72). -/
theorem Sound.waits (h : Sound s) (idle : s.duty.pump = .idle) (joined : s.line.mode = .joined) :
    Sound (setPump s .startWait) := by
  have still := h.duty.run.still (h.duty.run.open_of_rest (by simp [idle]))
  have l := h.duty.run.2.2.1 (.inl idle)
  have automatic : Automatic s.duty.pump := by
    unfold Automatic
    simp [idle]
  obtain ⟨-, -, fault⟩ := h.duty.ties
  refine h.onlyDuty rfl ⟨?_, ?_, h.duty.window, fun _ => ⟨nofun, nofun⟩, fun _ => joined, fault⟩
  · exact Still.runSound (s := setPump s .startWait) still nofun nofun fun _ => l
  · exact h.duty.mode.same (setPump_sameMode automatic ⟨nofun, nofun, nofun⟩) rfl

theorem Sound.pumpWork (won : Bool) (c : CommonCells) (h : Sound s) (joined : s.line.mode = .joined)
    (can : s.duty.availableAtEnd = true → available s = true) : Sound (pumpWork won c s) := by
  unfold Machine.pumpWork
  split
  · exact h.startWork won c ‹_› can
  · split
    · exact h.waits ‹_› joined
    · exact h
  · exact h.stopWork ‹_›
  all_goals exact h

theorem Sound.listenStop (h : Sound s) : Sound (listenStop s) := by
  unfold Machine.listenStop
  split
  · exact h.eased (stopAutomatic_eases s)
  · exact h

theorem Sound.dutyFrame (won : Bool) (c : CommonCells) (h : Sound s) : Sound (dutyFrame won c s) := by
  have counted := (h.formDutyList.testUnplanned.countDuty c.supplyLow).holdChangeover
  unfold Machine.dutyFrame
  dsimp only
  generalize Machine.holdChangeover (Machine.countDuty c.supplyLow
    (Machine.testUnplanned (Machine.formDutyList s))) = v at counted ⊢
  have formed : Sound (Machine.setDuty v { v.duty with availableAtEnd := available v }) :=
    counted.setDuty rfl ⟨rfl, rfl, rfl⟩ ⟨rfl, rfl, rfl⟩ counted.duty.run
  have busy : ∀ (b : Bool) (w : State), Sound w →
      Sound (Machine.setDuty w { w.duty with prevBusy := b }) := fun b w k =>
    k.setDuty rfl ⟨rfl, rfl, rfl⟩ ⟨rfl, rfl, rfl⟩ k.duty.run
  refine busy _ _ ?_
  split
  · rename_i joined
    exact (formed.leadWork joined).pumpWork won c joined id
  · exact formed.listenStop
  · exact formed
  · exact formed

/-! ### The whole -/

theorem Sound.acknowledgeFrame (c : Cells) (h : Sound s) : Sound (acknowledgeFrame c s) := by
  unfold Machine.acknowledgeFrame
  split
  · exact (h.seen (takeChanges_seen _ s)).acknowledge
  · exact h

theorem Sound.plantFrame (c : Cells) (drive : Option Drive) (h : Sound s) :
    Sound (plantFrame c drive s) := by
  have held := ((h.formDemand c).eased (applyHold_eases _)).applyRakeStop
  have duty := held.dutyFrame ((s.line.mode == .joined) && startWon .duty c drive
    && !inhibitTakenFirst c (Machine.applyRakeStop (applyHold (Machine.formDemand c s)))) (commonOf c)
  exact (duty.seen (retakeFlush_seen _)).rakeFrame _ _

/-- The end of a good frame, block by block (R9). -/
theorem Sound.frameEnd (c : Cells) (h : Sound s) (inside : s.line.receiver = .inside) :
    Sound (frameEnd c s) := by
  have seen := h.captured_of (by simp [inside])
  have read := h.readFrame c seen
  have emptied := read.onlyHouse (emptyStale_onlyHouse s _) fun n => absurd (seen.symm.trans n) nofun
  have planted := (emptied.countLine c s.line.drive).plantFrame c s.line.drive
  generalize e : Machine.plantFrame c s.line.drive (Machine.countLine c s.line.drive
    (emptyStale s (Machine.readFrame c s))) = v at planted
  have k : OnlyStation s v := by
    rw [← e]
    exact (setLine_station s _).trans <| (emptyStale_onlyHouse _ _).station.trans <|
      (countLine_station _ _ _).trans (plantFrame_onlyPlant _ _ _).station
  have housed := planted.onlyHouse (houseFrame_onlyHouse s.line.noticeWon c s.line.drive v)
    fun n => absurd ((k.captured.trans seen).symm.trans n) nofun
  have acknowledged := housed.acknowledgeFrame c
  rw [← e] at acknowledged
  exact ⟨acknowledged.duty, acknowledged.line, acknowledged.rake, acknowledged.inputs,
    acknowledged.settings, acknowledged.stage, acknowledged.overflow, acknowledged.fresh⟩

end Sys2Proof.Machine
end

section
/-! SUPPORT. What time, the inputs and the Configuration Loader keep. -/

namespace Sys2Proof.Machine

open Sys2Proof

variable {s t u : State}

/-! ### Time -/

theorem Sound.advanceTimers (h : Sound s) : Sound (advanceTimers s) := by
  obtain ⟨closed, run, idle, yielding, blocked, inrush, minRun, confirm, runLoss, confirmed, bound, zero,
    limit⟩ := h.duty.run
  have same : ∀ x : Timer, (advance x).isSome = true ↔ x.isSome = true := fun x => by
    rw [isSome_advance]
  refine ⟨⟨⟨closed, run, idle, yielding, blocked, fun n => inrush ((advance_eq_none_iff _).not.1 n),
    fun n => minRun ((advance_eq_none_iff _).not.1 n),
    fun n => confirm ((advance_eq_none_iff _).not.1 n),
    fun n => runLoss ((advance_eq_none_iff _).not.1 n), confirmed, ?_, fun y => ?_, fun b => ?_⟩,
    h.duty.mode, h.duty.window, h.duty.ties.1, h.duty.ties.2.1, ?_⟩, h.line, ?_, h.inputs, ?_, h.stage,
    ?_, h.fresh⟩
  · show tickChangeover s.duty ≤ changeoverLimit
    obtain ⟨-, -, e⟩ | ⟨-, e⟩ := tickChangeover_cases s.duty <;> rw [e]
    · exact Nat.min_le_right _ _
    · exact bound
  · show tickChangeover s.duty = 0
    obtain ⟨y', -⟩ | ⟨-, e⟩ := tickChangeover_cases s.duty
    · exact absurd (y'.symm.trans y) nofun
    · exact e.trans (zero y)
  · show tickChangeover s.duty = changeoverLimit
    have top := limit b
    obtain ⟨-, -, e⟩ | ⟨-, e⟩ := tickChangeover_cases s.duty <;> rw [e] <;> omega
  · have fault := h.duty.ties.2.2
    refine fun c => fault (c.imp_right fun n d => n ?_)
    simp [Machine.advanceTimers, tickDuty, d]
  · obtain ⟨motor, rakeRun, rakeInrush, pause, before, jams⟩ := h.rake
    exact ⟨motor, (same _).trans rakeRun, fun n => rakeInrush ((same _).1 n), (same _).trans pause,
      before, jams⟩
  · obtain ⟨cfg, ready, reduced, attempt, wait⟩ := h.settings
    exact ⟨cfg, ready, reduced, attempt, fun n => wait ((advance_eq_none_iff _).not.1 n)⟩
  · obtain ⟨source, pending, tail, accumulator, weir⟩ := h.overflow
    show OverflowSafe { s with ovf := tickOvf s.ovf }
    unfold tickOvf
    split
    · exact ⟨source, pending, tail, accumulator, weir⟩
    · exact ⟨source, (same _).trans pending, (same _).trans tail, accumulator, weir⟩

theorem Sound.secondStep (h : Sound s) : Sound (secondStep s) :=
  ⟨h.duty, h.line, h.rake, h.inputs, h.settings, h.stage, h.overflow, h.fresh⟩

theorem Sound.hourStep (h : Sound s) : Sound (hourStep s) := by
  have cleared : Sound (clearCounters s) :=
    ⟨h.duty, h.line, h.rake, h.inputs, h.settings, h.stage, h.overflow, h.fresh⟩
  exact cleared.onlyNotices (handAll_onlyNotices _ _)

/-! ### The first tick (R28, R58, R166) -/

theorem unloaded_of_uncaptured (h : captured s = false) : loaded s = false := by
  unfold captured at h
  unfold loaded
  cases p : s.loader.phase <;> simp_all

/-- The pump that the first mode gives fits it, with no inhibit flag and no cause (R58). -/
theorem firstPump_fits {m : PumpMode} (mode : s.duty.mode = m) (pump : s.duty.pump = firstPump m)
    (inhibit : s.duty.inhibit = false) (causes : s.duty.causes = []) : ModeFits s := by
  cases m with
  | off => exact .of_out pump (by simp [mode]) (by simp [mode]) causes fun _ => inhibit
  | hand => exact .of_hand pump mode causes fun _ => inhibit
  | auto => exact .of_automatic (by unfold Automatic; simp [pump, firstPump]) mode inhibit causes

/-- The pump that the first mode gives neither runs nor may. -/
theorem firstPump_stays (m : PumpMode) : firstPump m ≠ .starting ∧ firstPump m ≠ .running
    ∧ firstPump m ≠ .idle ∧ firstPump m ≠ .startWait := by
  cases m <;> decide

theorem strappedMode_begins (fitted : Bool) :
    strappedMode fitted = .starting ∨ strappedMode fitted = .absent := by
  cases fitted
  · exact .inr rfl
  · exact .inl rfl

theorem Sound.capture (pins : BitVec 15) (straps : CaptureReadings) (h : Sound s)
    (unseen : captured s = false) : Sound (capture pins straps s) := by
  have unloaded := unloaded_of_uncaptured unseen
  have still := h.duty.run.still (Bool.eq_false_iff.2 fun c =>
    absurd ((h.duty.run.1 c).2.symm.trans unloaded) nofun)
  obtain ⟨-, -, -, -, -, -, -, before⟩ := h.duty.mode
  obtain ⟨inhibit, causes⟩ := before unseen
  obtain ⟨-, joined, fault⟩ := h.duty.ties
  obtain ⟨own, zero, begins, line, pre, eff, chanA, chanB⟩ := h.stage
  obtain ⟨unusable, modeA, modeB⟩ := begins unloaded
  obtain ⟨cfg, ready, reduced, attempt, wait⟩ := h.settings
  obtain ⟨source, pending, tail, accumulator, weir⟩ := h.overflow
  obtain ⟨motor, rakeRun, rakeInrush, pause, restsRake, jams⟩ := h.rake
  have seen : captured (Machine.capture pins straps s) = true := rfl
  obtain ⟨-, -, -, -, -, -, countA⟩ := id chanA
  obtain ⟨-, -, -, -, -, -, countB⟩ := id chanB
  obtain ⟨starting, running, idle, waits⟩ := firstPump_stays (Machine.capture pins straps s).duty.mode
  refine ⟨⟨?_, firstPump_fits rfl rfl inhibit causes, ⟨h.duty.window.1, fun _ => h.duty.window.2 unloaded⟩,
    fun _ => ⟨starting, running⟩, fun j => joined (.inl (j.resolve_right waits)), fault⟩, h.line,
    ⟨motor, rakeRun, rakeInrush, pause, fun _ => restsRake unloaded, jams⟩,
    ⟨rfl, fun n => absurd (seen.symm.trans n) nofun⟩,
    ⟨cfg, ready, fun _ => reduced unloaded, attempt, wait⟩,
    ⟨own, zero, fun _ => ⟨unusable, strappedMode_begins _, strappedMode_begins _⟩, line, pre, eff,
      chanA.begin_anew modeA (strappedMode_begins _) countA,
      chanB.begin_anew modeB (strappedMode_begins _) countB⟩,
    ⟨source, pending, tail, accumulator, fun _ => weir (.inr unloaded)⟩, .of_captured seen⟩
  exact Still.runSound (s := Machine.capture pins straps s) still starting running
    fun r => absurd r (not_or.2 ⟨idle, waits⟩)

theorem Sound.tickStep (pins : BitVec 15) (straps : CaptureReadings) (h : Sound s) :
    Sound (tickStep pins straps s) := by
  unfold Machine.tickStep
  cases seen : captured s with
  | true =>
    have sampled : Sound (sampleInputs pins s) := ⟨h.duty, h.line, h.rake,
      ⟨rfl, fun n => absurd (seen.symm.trans n) nofun⟩, h.settings, h.stage, h.overflow, h.fresh⟩
    exact sampled.advanceTimers
  | false => exact (h.capture pins straps seen).advanceTimers

/-! ### The inputs (R27, R29) -/

/-- A change can only be accepted once the straps are captured. -/
theorem Sound.captured_of_due {i : Input} (h : Sound s) (due : (inputState s i).due = true) :
    captured s = true := by
  obtain ⟨-, none⟩ := h.inputs
  refine Bool.of_not_eq_false fun n => ?_
  have all := none n
  rw [List.all_eq_true] at all
  unfold inputState at due
  rw [List.getD_eq_getElem?_getD] at due
  cases e : s.inputs[inputIndex i]? with
  | none => simp [e] at due
  | some x =>
    have mem := all x (List.mem_of_getElem? e)
    simp [e] at due
    simp [due] at mem

theorem Sound.accept (i : Input) (h : Sound s) (seen : captured s = true) : Sound (accept i s) :=
  ⟨h.duty, h.line, h.rake, ⟨(List.length_set ..).trans h.inputs.1,
    fun n => absurd (seen.symm.trans n) nofun⟩, h.settings, h.stage, h.overflow, h.fresh⟩

theorem Sound.answerInput (i : Input) (h : Sound s) (seen : captured s = true) :
    Sound (answerInput i s) := by
  cases i <;> unfold Machine.answerInput <;> dsimp only
  case runConfirm =>
    split
    · exact h.confirmActivated
    · exact h.confirmReleased
  case thermal =>
    split
    · exact h.enterFaulted (.inl rfl) seen
    · exact h
  case moisture =>
    split
    · exact h.moistureActivated
    · exact h
  case modeHand => exact h.reformMode
  case modeOff => exact h.reformMode
  case rakeLimit =>
    split
    · exact h.limitActivated
    · exact h
  case screenSw =>
    split
    · exact h.seen (takeSwitch_seen s)
    · exact h
  case weirFloat => exact h.weirChanged
  case supplyLow =>
    split
    · exact h.setDuty rfl ⟨rfl, rfl, rfl⟩ ⟨rfl, rfl, rfl⟩ h.duty.run
    · exact h
  case ackBtn =>
    split
    · exact h.pressAck
    · exact h
  case lowFloat => exact h.reformLocal
  case highFloat => exact h.reformLocal
  case allStop => exact h.reformLocal
  case tideClosed => exact h
  case lampTest => exact h

/-! ### The loader (R167 to R174) -/

theorem within_clamp {lo hi : Nat} (le : lo ≤ hi) (v : Nat) : within lo hi (clamp lo hi v) := by
  unfold within clamp
  split
  · omega
  · split <;> omega

/-- Clamped settings lie in their ranges (R172). -/
theorem settingsOf_usable (img : List Byte) : UsableSettings (settingsOf img) := by
  have delta : within 20 1000 (imageDeltaR img) := within_clamp (by decide) _
  have word : ∀ {lo hi : Nat} (v : Nat), lo ≤ hi → within lo hi (clamp lo hi v) := fun v le =>
    within_clamp le v
  refine ⟨by simp [settingsOf], .inr ?_⟩
  unfold InRange
  refine ⟨word _ (by decide), word _ (by decide), word _ (by decide), word _ (by decide),
    word _ (by decide), word _ (by decide), word _ (by decide), word _ (by decide),
    word _ (by decide), word _ (by decide), word _ (by decide), word _ (by decide),
    word _ (by decide), word _ (by decide), word _ (by decide), word _ (by decide),
    word _ (by decide), word _ (by decide), word _ (by decide), word _ (by decide), delta,
    word _ ?_, word _ (by decide), word _ (by decide), word _ (by decide), word _ (by decide),
    word _ (by decide), word _ (by decide), word _ (by decide), word _ (by decide),
    word _ (by decide), ?_⟩
  · unfold within at delta
    show imageDeltaR img + 10 ≤ 2000
    omega
  · intro e m
    obtain ⟨n, -, rfl⟩ := List.mem_map.1 m
    exact ⟨(within_clamp (lo := 0) (hi := 27) (by decide) _).2,
      Nat.le_of_lt_succ (Nat.mod_lt _ (by decide))⟩

theorem reduced_usable : UsableSettings Settings.reduced := ⟨rfl, .inl rfl⟩

/-- The loader's own record moves on, neither captured anew nor finished. -/
theorem Sound.reload {l : Loader} (h : Sound s) (unloaded : loaded s = false) (open_ : l.phase ≠ .done)
    (seen : captured s = true) (moved : l.phase ≠ .capture) (ready : UsableSettings l.ready)
    (attempt : 1 ≤ l.attempt ∧ l.attempt ≤ 4) (wait : l.wait ≠ none → l.attempt ≤ 3) :
    Sound { s with loader := l } := by
  generalize e : ({ s with loader := l } : State) = v
  have unloaded' : loaded v = false := by
    rw [← e]
    cases p : l.phase <;> simp_all [loaded]
  have seen' : captured v = true := by
    rw [← e]
    cases p : l.phase <;> simp_all [captured]
  have sameLoaded : loaded v = loaded s := unloaded'.trans unloaded.symm
  have sameCaptured : captured v = captured s := seen'.trans seen.symm
  have duty : v.duty = s.duty := by rw [← e]
  have line : v.line = s.line := by rw [← e]
  have screen : v.screen = s.screen := by rw [← e]
  have cfg : v.cfg = s.cfg := by rw [← e]
  have stager : v.stager = s.stager := by rw [← e]
  refine ⟨⟨?_, ?_, ?_, h.duty.ties.congr duty (by rw [screen]) (by rw [line]) (by rw [stager])⟩, ?_, ?_,
    ?_, ?_, ?_, ?_, .of_captured seen'⟩
  · have run := h.duty.run
    unfold RunSound ChangeoverSafe at run ⊢
    rwa [duty, sameLoaded]
  · exact h.duty.mode.same ⟨by rw [duty], by rw [duty], by rw [duty], .inl (by rw [duty])⟩ sameCaptured
  · have window := h.duty.window
    unfold WindowSafe at window ⊢
    rwa [duty, cfg, sameLoaded]
  · exact line ▸ h.line
  · rw [sameLoaded, screen]
    exact h.rake
  · have inputs := h.inputs
    unfold InputSafe at inputs ⊢
    rw [sameCaptured]
    rw [← e]
    exact inputs
  · obtain ⟨usable, -, reduced, -⟩ := h.settings
    subst e
    exact ⟨usable, ready, fun _ => reduced unloaded, attempt, wait⟩
  · have stage := h.stage
    unfold StageSafe at stage ⊢
    rw [sameLoaded]
    rw [← e]
    exact stage
  · have overflow := h.overflow
    unfold OverflowSafe at overflow ⊢
    rw [sameLoaded]
    rw [← e]
    exact overflow

/-- While an image is read the straps are captured and the loader has not finished. -/
theorem reading_loaded_captured (h : s.loader.phase = .reading) :
    loaded s = false ∧ captured s = true := by
  simp [loaded, captured, h]

theorem Sound.readDone (image : List Byte) (h : Sound s) (reading : s.loader.phase = .reading)
    (idle : s.loader.wait = none) : Sound (readDone image s) := by
  obtain ⟨unloaded, seen⟩ := reading_loaded_captured reading
  obtain ⟨-, -, -, attempt, -⟩ := h.settings
  unfold Machine.readDone
  dsimp only
  split
  · exact h.reload unloaded nofun seen nofun (settingsOf_usable image) attempt fun n => absurd idle n
  · exact h.reload unloaded nofun seen nofun reduced_usable attempt fun n => absurd idle n

theorem Sound.attemptStep (cause : ReadFailure) (h : Sound s) (reading : s.loader.phase = .reading)
    (idle : s.loader.wait = none) : Sound (attemptStep cause s) := by
  obtain ⟨unloaded, seen⟩ := reading_loaded_captured reading
  obtain ⟨-, ready, -, attempt, -⟩ := h.settings
  unfold Machine.attemptStep
  dsimp only
  split
  · rename_i more
    exact h.reload unloaded (by simp [reading]) seen (by simp [reading]) ready attempt fun _ =>
      Nat.le_of_lt_succ more
  · exact h.reload unloaded nofun seen nofun reduced_usable attempt fun n => absurd idle n

theorem Sound.retryStep (cells : Nat) (h : Sound s) (reading : s.loader.phase = .reading)
    (waits : s.loader.wait ≠ none) : Sound (retryStep cells s) := by
  obtain ⟨unloaded, seen⟩ := reading_loaded_captured reading
  obtain ⟨-, ready, -, attempt, wait⟩ := h.settings
  have third := wait waits
  exact h.reload unloaded (by simp [beginAttempt, reading]) seen (by simp [beginAttempt, reading]) ready
    ⟨Nat.le_add_left .., Nat.succ_le_succ third⟩ fun n => absurd rfl n

/-! ### The loader's finish -/

theorem finishedMode_begins (reduced fitted : Bool) (c : Calibration) :
    finishedMode reduced fitted c = .starting ∨ finishedMode reduced fitted c = .absent := by
  rw [finishedMode_eq]
  split
  · exact .inl rfl
  · exact .inr rfl

/-- The settings handed over, the channels begun (R167): no start is on record and no stage held. -/
theorem Sound.handedOver (h : Sound s) (unloaded : loaded s = false) :
    Sound (handedOver s) ∧ (handedOver s).stager.d = 0 := by
  obtain ⟨own, zero, begins, line, pre, eff, chanA, chanB⟩ := h.stage
  obtain ⟨unusable, modeA, modeB⟩ := begins unloaded
  have none := zero unusable
  obtain ⟨-, ready, -, attempt, wait⟩ := h.settings
  obtain ⟨source, pending, tail, accumulator, weir⟩ := h.overflow
  obtain ⟨motor, rakeRun, rakeInrush, pause, -, jams⟩ := h.rake
  obtain ⟨closed, run, -, rest⟩ := h.duty.run
  obtain ⟨off, hand, auto, inhibit, out, faulted, causes, -⟩ := h.duty.mode
  have loaded' : loaded (Machine.handedOver s) = true := rfl
  have seen' : captured (Machine.handedOver s) = true := rfl
  refine ⟨⟨⟨⟨fun c => ⟨(closed c).1, loaded'⟩, run, fun _ => loaded', rest⟩,
    ⟨off, hand, auto, inhibit, out, faulted, causes, fun n => absurd (seen'.symm.trans n) nofun⟩,
    ⟨?_, fun n => absurd (loaded'.symm.trans n) nofun⟩, h.duty.ties⟩, h.line,
    ⟨motor, rakeRun, rakeInrush, pause, fun n => absurd n (by simp [loaded']), jams⟩,
    ⟨h.inputs.1, fun n => absurd (seen'.symm.trans n) nofun⟩,
    ⟨ready, ready, fun n => absurd (loaded'.symm.trans n) nofun, attempt, wait⟩,
    ⟨?_, fun _ => none, fun n => absurd (loaded'.symm.trans n) nofun, line, pre, eff,
      chanA.begin_anew modeA (finishedMode_begins _ _ _) (Nat.zero_le _),
      chanB.begin_anew modeB (finishedMode_begins _ _ _) (Nat.zero_le _)⟩,
    ⟨source, pending, tail, accumulator, fun _ => weir (.inr unloaded)⟩, .of_captured seen'⟩, none⟩
  · show s.duty.window.length ≤ _
    rw [h.duty.window.2 unloaded]
    exact Nat.zero_le _
  · show s.stager.d ≤ _
    rw [none]
    exact Nat.zero_le _

theorem Sound.noteCause (found : Bool) (h : Sound s) : Sound (noteCause found s) :=
  ⟨h.duty, h.line, h.rake, h.inputs, h.settings, h.stage, h.overflow, h.fresh⟩

theorem Sound.finishStager (h : Sound s) (none : s.stager.d = 0) (l : loaded s = true) :
    Sound (finishStager s) := by
  obtain ⟨own, -, -, demands⟩ := h.stage
  unfold Machine.finishStager
  split
  · exact h
  · exact Sound.noteCause _ (h.withStage rfl ⟨own, fun _ => none,
      fun n => absurd (l.symm.trans n) nofun, demands⟩ rfl rfl rfl rfl rfl)

theorem Sound.finishOverflow (h : Sound s) (l : loaded s = true) : Sound (finishOverflow s) := by
  unfold Machine.finishOverflow
  dsimp only
  split
  · exact h
  · rename_i weir
    have fitted : s.straps.weirEn = true := by simpa using weir
    generalize e : Machine.noteCause _ (setOvf s _) = v
    have sound : Sound v := by
      rw [← e]
      exact Sound.noteCause _ (h.onlyOvf rfl (WeirFits.safe (s := setOvf s _) h.overflow.fits fitted l))
    have weir' : v.straps.weirEn = true := by rw [← e]; exact fitted
    have l' : loaded v = true := by rw [← e]; exact l
    split
    · exact sound
    · have k := retakeSource_onlyOvf v
      exact sound.onlyOvf k ((retakeSource_fits sound.overflow.fits).safe
        ((congrArg (·.straps.weirEn) k).trans weir') (k.loaded.trans l'))

theorem Sound.finishDuty (h : Sound s) (l : loaded s = true) (seen : captured s = true) :
    Sound (finishDuty s) := by
  have timer : Sound (timerTaken s) := h.setDuty rfl ⟨rfl, rfl, rfl⟩ ⟨rfl, rfl, rfl⟩ h.duty.run
  have closed := timer.eased (closeInHand_eases _)
  have k := (closeInHand_onlyDuty (timerTaken s)).station.loaded
  have released : Sound (pumpReleased s) := by
    unfold pumpReleased
    dsimp only
    split
    · rename_i g
      exact closed.enterIdle g.1 (k.trans l)
    · exact closed
  rw [finishDuty_eq]
  split
  · exact released.enterFaulted (.inl rfl) ((pumpReleased_onlyDuty s).captured.trans seen)
  · exact released

theorem Sound.finishScreen (h : Sound s) : Sound (finishScreen s) :=
  h.seen ((leaveSensing_seen s).trans ((enterSensing_seen _ _).trans (expireInterval_seen _)))

theorem Sound.finishStep (h : Sound s) (checking : s.loader.phase = .checking) :
    Sound (finishStep s) := by
  have unloaded : loaded s = false := by simp [loaded, checking]
  obtain ⟨handed, none⟩ := h.handedOver unloaded
  have staged := handed.finishStager none rfl
  have k := finishStager_onlyChecks (Machine.handedOver s)
  have l : loaded (Machine.finishStager (Machine.handedOver s)) = true := by
    unfold loaded
    rw [k.loader]
    rfl
  have done : Sound (checked s) := staged.finishOverflow l
  obtain ⟨-, -, -, -, loader, -⟩ := checked_keeps s
  have plant : Sound (plantTaken s) := Sound.finishScreen
    (done.finishDuty (by simp [loaded, loader]) (by simp [captured, loader]))
  have house : ∀ v : State, OnlyHouse v (housed v) ∧ (housed v).notices = v.notices := fun _ => ⟨rfl, rfl⟩
  rw [finishStep_eq]
  exact plant.onlyHouse (house _).1 fun _ => by rw [(house _).2]

end Sys2Proof.Machine
end

section
/-! O59. Every command keeps what is sound, and its closing work makes it safe. -/

namespace Sys2Proof.Machine

open Sys2Proof

variable {s t : State}

/-! ### One event -/

/-- The plant is safe after an event whose effect keeps what is sound. -/
theorem taken_plantSafe {can : Bool} {f : State → State} (p : PlantSafe s)
    (h : taken can f s = .next t) (k : can = true → Sound (f s)) : PlantSafe t := by
  obtain ⟨-, rfl⟩ | ⟨c, rfl⟩ := taken_cases h
  · exact p
  · exact (k c).plantSafe

/-- A reporter with a role is that of a bay whose loader has finished. -/
theorem ReporterSafe.captured_of (h : ReporterSafe s) (mode : s.reporter.mode ≠ .none) :
    captured s = true := by
  obtain ⟨-, -, role, -⟩ := h
  exact captured_of_loaded (role mode).1

/-- An event of an ACTIVE reporter (R147). -/
theorem taken_town_plantSafe {can : Bool} {f : State → State} (p : PlantSafe s) (r : ReporterSafe s)
    (h : taken can f s = .next t) (active : can = true → s.reporter.mode = .active)
    (house : OnlyHouse s (f s)) : PlantSafe t :=
  taken_plantSafe p h fun c => p.sound.onlyHouse house fun n =>
    absurd ((r.captured_of (by simp [active c])).symm.trans n) nofun

/-- A valid message is heard by an ACTIVE reporter only (R149). -/
theorem active_of_validMessage {q : Nat → Bool} {chars : List Byte}
    (h : validMessage q chars s = true) : s.reporter.mode = .active := by
  simp only [validMessage, listening, Bool.and_eq_true, beq_iff_eq] at h
  exact h.1.1

theorem buildRecord_notices (urgent : Bool) (r : ReportRecord) (s : State) :
    (buildRecord urgent r s).notices = s.notices := by
  unfold buildRecord enqueueReport
  dsimp only
  split <;> rfl

theorem pairingStep_notices (a : Nat) (s : State) : (pairingStep a s).notices = s.notices := by
  unfold pairingStep
  split
  · exact buildRecord_notices _ _ (setPairing a none s)
  · rfl

theorem dropSpent_onlyNotices (s : State) : OnlyNotices s (dropSpent s) := by
  unfold dropSpent
  split
  · exact .refl s
  · exact (setQueue_onlyNotices s _).trans (loseEntry_onlyNotices _ _)

theorem Sound.answerCommand (code result : Nat) (h : Sound s) (seen : captured s = true) :
    Sound (answerCommand code result s) :=
  h.onlyHouse (answerCommand_onlyHouse code result s) fun n => absurd (seen.symm.trans n) nofun

/-- A command is at hand only once the straps are captured (R142). -/
theorem Sound.captured_of_command (h : Sound s) (command : s.notices.command ≠ none) :
    captured s = true :=
  Bool.of_not_eq_false fun n => command (h.fresh n).2

/-- A start under test, or a run confirmed, is that of a bay whose straps are captured. -/
theorem Sound.captured_of_run (h : Sound s) (run : s.duty.pump = .starting ∨ s.duty.pump = .running) :
    captured s = true :=
  captured_of_loaded (h.duty.run.1 (h.duty.run.2.1 run)).2

/-- A failed start and a run loss (R66, R67): the pulse of the alarm, then FAULTED. -/
theorem Sound.failStart (h : Sound s) (due : s.duty.confirm ≠ none) : Sound (failStart s) := by
  obtain ⟨-, -, -, -, -, -, -, run, -⟩ := h.duty.run
  have pulse : Sound { s with alarms := { s.alarms with startFail := some 0 } } :=
    h.onlyHouse rfl fun _ => rfl
  exact pulse.enterFaulted (.inr (.inl rfl)) (h.captured_of_run (.inl (run due).1))

theorem Sound.loseRun (h : Sound s) (due : s.duty.runLoss ≠ none) : Sound (loseRun s) := by
  obtain ⟨-, -, -, -, -, -, -, -, runLoss, confirmed, -⟩ := h.duty.run
  have pulse : Sound { s with alarms := { s.alarms with runLost := some 0 } } :=
    h.onlyHouse rfl fun _ => rfl
  exact pulse.enterFaulted (.inr (.inr rfl)) (h.captured_of_run (confirmed (runLoss due)))

/-- A timer that has reached its limit runs. -/
theorem ne_none_of_reached {x : Timer} {limit : Nat} (h : reached x limit = true) : x ≠ none := by
  rintro rfl
  exact nomatch h

theorem Sound.setOutput (n : Fin 8) (o : OutputState) (h : Sound s) : Sound (setOutput s n o) :=
  ⟨h.duty, h.line, h.rake, h.inputs, h.settings, h.stage, h.overflow, h.fresh⟩

theorem expireTa_notices (f : Flight) (s : State) : (expireTa f s).notices = s.notices := by
  unfold expireTa
  dsimp only
  split <;> rfl

theorem Sound.endPulse (which : PulseAlarm) (h : Sound s) : Sound (endPulse which s) := by
  cases which <;> exact h.onlyHouse rfl fun _ => rfl

/-- The plant after reset (R167). -/
theorem reset_plantSafe : PlantSafe State.reset := by
  refine ⟨⟨rfl, fun _ => rfl⟩, ?_, ?_, ⟨Nat.zero_le _, fun _ => rfl⟩, ?_, ?_, ?_, ?_, ?_, ?_⟩
  · unfold PumpSafe
    decide
  · unfold ModeSafe
    exact ⟨nofun, nofun, fun _ => nofun, nofun, nofun, by decide, nofun, fun _ => ⟨rfl, rfl, rfl, rfl⟩⟩
  · unfold RakeSafe
    decide
  · unfold LineSafe
    decide
  · exact ⟨reduced_usable, reduced_usable, fun _ => rfl, by decide, nofun⟩
  · have channel : ∀ c : Calibration, ChannelSafe c LevelChannel.reset := fun c =>
      ⟨by simp [LevelChannel.reset], nofun, nofun, fun _ => Nat.zero_le _, nofun, rfl, Nat.zero_le _⟩
    exact ⟨Nat.le_refl 0, fun _ => rfl, fun _ => ⟨rfl, by decide, by decide⟩, Nat.zero_le _, Nat.zero_le _,
      Nat.zero_le _, channel _, channel _⟩
  · unfold OverflowSafe
    decide
  · exact ⟨Nat.zero_le _, fun _ => rfl, nofun⟩

/-! ### Every command -/

/-- Every command keeps the plant safe; RESET makes it so. -/
theorem exec_plantSafe {c : Instr} (g : Good s) (h : exec c s = .next t) : PlantSafe t := by
  have p := g.plantSafe
  have k := p.sound
  obtain ⟨-, -, -, -, -, -, -, -, -, -, -, -, r, -⟩ := g
  cases c with
  | reset =>
    unfold exec execReset at h
    cases h
    exact reset_plantSafe
  | tick pins readings =>
    unfold exec execTick at h
    exact taken_plantSafe p h fun _ => k.tickStep pins readings
  -- the loader
  | configReadComplete image =>
    unfold exec execConfigReadComplete attempting at h
    refine taken_plantSafe p h fun can => ?_
    simp only [Bool.and_eq_true, beq_iff_eq, Option.isNone_iff_eq_none] at can
    exact k.readDone image can.1.1.1 can.1.1.2
  | attemptFail cause =>
    unfold exec execAttemptFail attempting at h
    refine taken_plantSafe p h fun can => ?_
    simp only [Bool.and_eq_true, beq_iff_eq, Option.isNone_iff_eq_none] at can
    exact k.attemptStep cause can.1.1.1 can.1.1.2
  | retryWaitExpiry n =>
    unfold exec execRetryWaitExpiry at h
    refine taken_plantSafe p h fun can => ?_
    rw [Bool.and_eq_true, beq_iff_eq] at can
    exact k.retryStep n can.1 (ne_none_of_reached can.2)
  | loaderFinish =>
    unfold exec execLoaderFinish at h
    refine taken_plantSafe p h fun can => ?_
    rw [Bool.and_eq_true, beq_iff_eq] at can
    exact k.finishStep can.1
  -- inputs and time
  | inputAcceptedChange i =>
    unfold exec execInputAcceptedChange at h
    refine taken_plantSafe p h fun due => ?_
    have seen := k.captured_of_due due
    exact (k.accept i seen).answerInput i seen
  | timeBaseSecond =>
    unfold exec execTimeBaseSecond at h
    exact taken_plantSafe p h fun _ => k.secondStep
  | hourlyPoint =>
    unfold exec execHourlyPoint at h
    exact taken_plantSafe p h fun _ => k.hourStep
  | clockMinute =>
    unfold exec execClockMinute at h
    exact taken_plantSafe p h fun _ => k.onlyHouse rfl fun _ => rfl
  | startsWindowStampExpiry =>
    unfold exec execStartsWindowStampExpiry at h
    exact taken_plantSafe p h fun _ => k.dropStamp
  -- the line
  | frameTimerExpiry =>
    unfold exec execFrameTimerExpiry at h
    exact taken_plantSafe p h fun _ => k.frameExpires
  | syncDrive =>
    unfold exec execSyncDrive at h
    refine taken_plantSafe p h fun can => ?_
    simp only [Bool.and_eq_true, beq_iff_eq] at can
    exact k.syncDrives can.1.1.1
  | syncAttemptFail =>
    unfold exec execSyncAttemptFail at h
    exact taken_plantSafe p h k.failSync
  | syncLeadingEdge =>
    unfold exec execSyncLeadingEdge at h
    refine taken_plantSafe p h fun can => ?_
    simp only [lineIdleNow, Bool.and_eq_true, beq_iff_eq] at can
    exact k.frameStart can.1
  | noticeClaimWon field =>
    unfold exec execNoticeClaimWon at h
    exact taken_plantSafe p h fun _ => k.winNotice
  | goodFrameEnd run cells =>
    unfold exec execGoodFrameEnd at h
    refine taken_plantSafe p h fun can => ?_
    rw [Bool.and_eq_true, beq_iff_eq] at can
    exact k.frameEnd cells can.1
  | badFrame run =>
    unfold exec execBadFrame at h
    refine taken_plantSafe p h fun can => ?_
    rw [Bool.and_eq_true, beq_iff_eq] at can
    exact k.badFrameEnd _ can.1
  | lineIdle n =>
    unfold exec execLineIdle at h
    exact taken_plantSafe p h fun _ => k.lineIdle n
  | receiverInStep n =>
    unfold exec execReceiverInStep at h
    refine taken_plantSafe p h fun can => ?_
    simp only [Bool.and_eq_true, beq_iff_eq] at can
    exact k.inStep n can.1.1 can.1.2
  | dominantCellBeforeIdle =>
    unfold exec execDominantCellBeforeIdle at h
    refine taken_plantSafe p h fun can => ?_
    simp only [Bool.and_eq_true, bne_iff_ne] at can
    exact k.loseStep can.1.2
  | stuckConditionClear =>
    unfold exec execStuckConditionClear at h
    exact taken_plantSafe p h fun _ => k.stuckClears
  | join =>
    unfold exec execJoin at h
    refine taken_plantSafe p h fun can => ?_
    rw [Bool.and_eq_true, beq_iff_eq] at can
    exact k.enterJoined false can.1
  | ownAddressIsolate =>
    unfold exec execOwnAddressIsolate at h
    exact taken_plantSafe p h fun _ => k.enterIsolated
  | presenceFault =>
    unfold exec execPresenceFault at h
    exact taken_plantSafe p h fun _ => k.enterLineFault
  | jabberTrip n =>
    unfold exec execJabberTrip at h
    exact taken_plantSafe p h fun _ => k.jabberTrip n
  | stuckCondition n =>
    unfold exec execStuckCondition at h
    exact taken_plantSafe p h fun _ => k.becomeStuck n
  | silenceTimerExpiry =>
    unfold exec execSilenceTimerExpiry at h
    refine taken_plantSafe p h fun can => ?_
    simp only [Bool.and_eq_true, beq_iff_eq] at can
    exact k.enterJoined true can.1.2
  | lineFaultFramesRecover =>
    unfold exec execLineFaultFramesRecover at h
    refine taken_plantSafe p h fun can => ?_
    rw [Bool.and_eq_true, beq_iff_eq] at can
    exact k.enterListen can.1
  | lineFaultQuietRecover n =>
    unfold exec execLineFaultQuietRecover at h
    refine taken_plantSafe p h fun can => ?_
    simp only [Bool.and_eq_true, beq_iff_eq] at can
    exact k.enterListen can.1.1.1.1
  | aloneDetect =>
    unfold exec execAloneDetect at h
    refine taken_plantSafe p h fun can => ?_
    rw [Bool.and_eq_true, beq_iff_eq] at can
    exact k.detectsAlone can.1
  -- the station's decisions aside of the line
  | leadUnusableHandover =>
    unfold exec execLeadUnusableHandover at h
    refine taken_plantSafe p h fun can => ?_
    rw [Bool.and_eq_true, beq_iff_eq] at can
    exact k.passOver can.1
  | noLeadTake =>
    unfold exec execNoLeadTake at h
    refine taken_plantSafe p h fun can => ?_
    simp only [Bool.and_eq_true, beq_iff_eq] at can
    exact k.takeLead can.1.1.1
  | noticeDrop =>
    unfold exec execNoticeDrop at h
    exact taken_plantSafe p h fun _ => k.onlyNotices (dropSpent_onlyNotices s)
  | commandSetInhibit =>
    unfold exec execCommandSetInhibit at h
    refine taken_plantSafe p h fun can => ?_
    rw [beq_iff_eq] at can
    have seen := k.captured_of_command (by simp [can])
    exact (k.setInhibit seen).answerCommand 1 0 ((setInhibit_onlyDuty s).captured.trans seen)
  | commandClearInhibit =>
    unfold exec execCommandClearInhibit at h
    refine taken_plantSafe p h fun can => ?_
    rw [beq_iff_eq] at can
    have seen := k.captured_of_command (by simp [can])
    exact (k.clearInhibit seen).answerCommand 2 0 ((clearInhibit_onlyDuty s).captured.trans seen)
  | commandOtherCode =>
    unfold exec execCommandOtherCode at h
    refine taken_plantSafe p h fun can => ?_
    exact k.answerCommand _ 1 (k.captured_of_command fun none => by simp [none] at can)
  -- the plant
  | gateEnd =>
    unfold exec execGateEnd at h
    refine taken_plantSafe p h fun can => ?_
    rw [Bool.and_eq_true] at can
    exact k.gateStep can.1
  | levelPulseEdge ch =>
    unfold exec execLevelPulseEdge at h
    exact taken_plantSafe p h fun _ => k.pulseOn ch
  | minOffExpiry =>
    unfold exec execMinOffExpiry at h
    exact taken_plantSafe p h fun _ => k.minOffStep
  | inrushTimerExpiry =>
    unfold exec execInrushTimerExpiry at h
    exact taken_plantSafe p h fun _ => k.inrushStep
  | confirmTimerExpiry =>
    unfold exec execConfirmTimerExpiry at h
    exact taken_plantSafe p h fun can => k.failStart (ne_none_of_reached can)
  | runLossExpiry =>
    unfold exec execRunLossExpiry at h
    exact taken_plantSafe p h fun can => k.loseRun (ne_none_of_reached can)
  | maxrunReached =>
    unfold exec execMaxrunReached at h
    refine taken_plantSafe p h fun can => ?_
    simp only [Bool.and_eq_true, beq_iff_eq] at can
    exact k.yields can.1.1
  | changeoverTimerExpiry =>
    unfold exec execChangeoverTimerExpiry at h
    refine taken_plantSafe p h fun can => ?_
    rw [Bool.and_eq_true, decide_eq_true_eq] at can
    exact k.blocksChangeover can.1 can.2
  | minRunExpiry =>
    unfold exec execMinRunExpiry at h
    exact taken_plantSafe p h fun _ => k.endMinRun
  | fallbackDelayExpiry =>
    unfold exec execFallbackDelayExpiry at h
    exact taken_plantSafe p h fun can => k.expireDelay fun stopped => by
      simp [delayPassed, stopped] at can
  | fallbackStart =>
    unfold exec execFallbackStart at h
    exact taken_plantSafe p h k.fallbackStart
  | switchClearExpiry =>
    unfold exec execSwitchClearExpiry at h
    exact taken_plantSafe p h fun _ => k.seen (switchClear_seen s)
  | postRakeExpiry =>
    unfold exec execPostRakeExpiry at h
    exact taken_plantSafe p h fun _ => k.seen (postRakeStep_seen s)
  | highAlarmExpiry =>
    unfold exec execHighAlarmExpiry at h
    exact taken_plantSafe p h fun _ => k.seen sensed_seen
  | intervalTimerExpiry =>
    unfold exec execIntervalTimerExpiry at h
    exact taken_plantSafe p h fun _ => k.seen (expireInterval_seen s)
  | rakeInrushExpiry =>
    unfold exec execRakeInrushExpiry at h
    exact taken_plantSafe p h fun _ => k.endRakeInrush
  | rakeJam =>
    unfold exec execRakeJam at h
    refine taken_plantSafe p h fun can => ?_
    rw [Bool.and_eq_true, beq_iff_eq] at can
    exact k.jamRake can.1
  | pauseTimerExpiry =>
    unfold exec execPauseTimerExpiry at h
    refine taken_plantSafe p h fun can => ?_
    rw [Bool.and_eq_true, beq_iff_eq] at can
    exact k.endPause can.1
  | pendingTimerExpiry =>
    unfold exec execPendingTimerExpiry at h
    refine taken_plantSafe p h fun can => ?_
    simp only [Bool.and_eq_true, beq_iff_eq] at can
    exact k.openEvent can.1.1
  | tailTimerExpiry =>
    unfold exec execTailTimerExpiry at h
    refine taken_plantSafe p h fun can => ?_
    simp only [Bool.and_eq_true, beq_iff_eq] at can
    exact k.closeEvent can.1.1
  | pulseConditionEnd which =>
    unfold exec execPulseConditionEnd at h
    exact taken_plantSafe p h fun _ => k.endPulse which
  | stretchTimerExpiry n =>
    unfold exec execStretchTimerExpiry at h
    exact taken_plantSafe p h fun _ => k.setOutput n _
  | pulseTimerExpiry n =>
    unfold exec execPulseTimerExpiry at h
    exact taken_plantSafe p h fun _ => k.setOutput n _
  -- the reporter and the port
  | pairingTimeout a =>
    unfold exec execPairingTimeout at h
    exact taken_plantSafe p h fun _ => k.onlyHouse (pairingStep_onlyHouse _ s) fun _ => by
      rw [pairingStep_notices]
  | holdQuietClaim =>
    unfold exec execHoldQuietClaim at h
    exact taken_plantSafe p h fun _ => k.onlyHouse rfl fun _ => rfl
  | openFieldActive =>
    unfold exec execOpenFieldActive at h
    refine taken_plantSafe p h fun _ => k.onlyHouse (enterActive_onlyHouse s) fun _ => ?_
    exact congrArg (·.command) (buildRecord_notices _ _ _)
  | commandTimeout =>
    unfold exec execCommandTimeout at h
    exact taken_plantSafe p h fun _ => k.onlyNotices (endCommand_onlyNotices _ s)
  | townMessageInvalid chars =>
    unfold exec execTownMessageInvalid at h
    exact taken_plantSafe p h fun _ => k.onlyHouse rfl fun _ => rfl
  | characterGapTimeout chars =>
    unfold exec execCharacterGapTimeout at h
    exact taken_plantSafe p h fun _ => k.onlyHouse rfl fun _ => rfl
  | townPoll chars =>
    unfold exec execTownPoll at h
    exact taken_town_plantSafe p r h active_of_validMessage
      (takeMessage_onlyHouse _ chars takePoll_onlyHouse s)
  | townAck chars =>
    unfold exec execTownAck at h
    exact taken_town_plantSafe p r h active_of_validMessage
      (takeMessage_onlyHouse _ chars takeAck_onlyHouse s)
  | townDump chars =>
    unfold exec execTownDump at h
    exact taken_town_plantSafe p r h active_of_validMessage
      (takeMessage_onlyHouse _ chars takeDump_onlyHouse s)
  | townInhibit chars =>
    unfold exec execTownInhibit at h
    exact taken_town_plantSafe p r h active_of_validMessage
      (takeMessage_onlyHouse _ chars (takeRelay_onlyHouse 1) s)
  | townRelease chars =>
    unfold exec execTownRelease at h
    exact taken_town_plantSafe p r h active_of_validMessage
      (takeMessage_onlyHouse _ chars (takeRelay_onlyHouse 2) s)
  | townClock chars =>
    unfold exec execTownClock at h
    exact taken_town_plantSafe p r h active_of_validMessage
      (takeMessage_onlyHouse _ chars takeClock_onlyHouse s)
  | townReporting chars =>
    unfold exec execTownReporting at h
    exact taken_town_plantSafe p r h active_of_validMessage
      (takeMessage_onlyHouse _ chars takeReporting_onlyHouse s)
  | townUnknownType chars =>
    unfold exec execTownUnknownType at h
    exact taken_town_plantSafe p r h active_of_validMessage
      (takeMessage_onlyHouse _ chars takeUnknown_onlyHouse s)
  | portSend =>
    unfold exec execPortSend at h
    refine taken_town_plantSafe p r h (fun can => ?_) (portStep_onlyHouse s)
    simp only [Bool.and_eq_true, beq_iff_eq] at can
    exact can.1.1
  | keyUpDelayExpiry =>
    unfold exec execKeyUpDelayExpiry at h
    exact taken_plantSafe p h fun _ => k.onlyHouse rfl fun _ => rfl
  | transmitEnd =>
    unfold exec execTransmitEnd at h
    exact taken_plantSafe p h fun _ => k.onlyHouse rfl fun _ => rfl
  | tAExpiry =>
    unfold exec execTAExpiry at h
    refine taken_plantSafe p h fun _ => ?_
    split
    · exact k.onlyHouse (expireTa_onlyHouse _ s) fun _ => by rw [expireTa_notices]
    · exact k

/-- A cell of the line that passes with no event counts, no more. -/
theorem PlantSafe.cellStep (p : PlantSafe s) : PlantSafe (cellStep s) := p

/-- Settles O59: one command, or one cell of the line. -/
theorem plantStaysSafe : Obligations.PlantStaysSafe := by
  intro s t g h
  unfold step at h
  split at h
  · cases h
    exact g.plantSafe.cellStep
  · rename_i c rest _
    have same : Good { s with pending := rest } := g
    exact exec_plantSafe same h

end Sys2Proof.Machine
end


section
/-! SUPPORT. The Duty Controller's books: what it forms of the house at a good frame end, and what the
pump's own operations leave of it. -/

namespace Sys2Proof.Machine

open Sys2Proof

variable {s t u : State}

/-- The duty record with the pump, its contactor, timers and yielding left out. -/
def books (d : Duty) : Duty :=
  { d with
    pump := .idle, contactor := false, causes := [], minOff := none, inrush := none, confirm := none
    runLoss := none, minRun := none, confirmed := false, contRun := 0, yielding := false
    changeover := 0, changeoverBlocked := false, window := [], fallbackDelay := .stopped, starts := 0 }

/-- The changeover timer is as it was, unless yielding has cleared with it (R77). -/
def KeepsChangeover (s t : State) : Prop :=
  t.duty.yielding = true → s.duty.yielding = true ∧ t.duty.changeover = s.duty.changeover

theorem KeepsChangeover.trans (h : KeepsChangeover s t) (k : KeepsChangeover t u) :
    KeepsChangeover s u := fun yields => by
  obtain ⟨before, same⟩ := k yields
  exact ⟨(h before).1, same.trans (h before).2⟩

theorem KeepsChangeover.of_ite {p : Prop} [Decidable p] {a b : State} (h : KeepsChangeover s a)
    (k : KeepsChangeover s b) : KeepsChangeover s (if p then a else b) := by
  split <;> assumption

/-- What an operation of the pump leaves: the books, and the changeover timer while yielding stays set. -/
structure KeepsBooks (s t : State) : Prop where
  books : books t.duty = books s.duty
  changeover : KeepsChangeover s t

theorem KeepsBooks.of_duty (d : t.duty = s.duty) : KeepsBooks s t :=
  ⟨congrArg _ d, fun yields => ⟨d ▸ yields, congrArg _ d⟩⟩

theorem KeepsBooks.refl (s : State) : KeepsBooks s s := .of_duty rfl

theorem KeepsBooks.trans (h : KeepsBooks s t) (k : KeepsBooks t u) : KeepsBooks s u :=
  ⟨k.books.trans h.books, h.changeover.trans k.changeover⟩

theorem KeepsBooks.of_ite {p : Prop} [Decidable p] {a b : State} (h : KeepsBooks s a)
    (k : KeepsBooks s b) : KeepsBooks s (if p then a else b) := by
  split <;> assumption

/-! ### The pump's operations -/

theorem openContactor_keepsBooks (s : State) : KeepsBooks s (openContactor s) :=
  .of_ite ⟨rfl, nofun⟩ (.refl s)

theorem setPump_keepsBooks (s : State) (p : PumpState) : KeepsBooks s (setPump s p) :=
  ⟨rfl, fun yields => ⟨yields, rfl⟩⟩

theorem enterIdle_keepsBooks (s : State) : KeepsBooks s (enterIdle s) :=
  ⟨rfl, fun yields => ⟨yields, rfl⟩⟩

theorem startPump_keepsBooks (s : State) : KeepsBooks s (startPump s) :=
  ⟨rfl, fun yields => ⟨yields, rfl⟩⟩

theorem handClosure_keepsBooks (s : State) : KeepsBooks s (handClosure s) :=
  ⟨rfl, fun yields => ⟨yields, rfl⟩⟩

theorem endLocalCall_keepsBooks (s : State) : KeepsBooks s (endLocalCall s) :=
  ⟨rfl, fun yields => ⟨yields, rfl⟩⟩

theorem enterLockedOff_keepsBooks (s : State) : KeepsBooks s (enterLockedOff s) :=
  (openContactor_keepsBooks s).trans (.of_ite (enterIdle_keepsBooks _) (setPump_keepsBooks _ _))

theorem enterOutOfService_keepsBooks (s : State) : KeepsBooks s (enterOutOfService s) :=
  (openContactor_keepsBooks s).trans (setPump_keepsBooks _ _)

theorem closeInHand_keepsBooks (s : State) : KeepsBooks s (closeInHand s) :=
  .of_ite (handClosure_keepsBooks s) (.refl s)

theorem enterHand_keepsBooks (s : State) : KeepsBooks s (enterHand s) :=
  .of_ite ⟨rfl, nofun⟩ ((setPump_keepsBooks s _).trans (closeInHand_keepsBooks _))

theorem stopAutomatic_keepsBooks (s : State) : KeepsBooks s (stopAutomatic s) :=
  .of_ite (enterLockedOff_keepsBooks s) (.refl s)

theorem applyHold_keepsBooks (s : State) : KeepsBooks s (applyHold s) :=
  .of_ite (.of_ite (enterLockedOff_keepsBooks s) (openContactor_keepsBooks s)) (closeInHand_keepsBooks s)

theorem settle_keepsBooks (s : State) : KeepsBooks s (settle s) :=
  (applyHold_keepsBooks s).trans (.of_duty (settle_duty s))

theorem leaveFaulted_keepsBooks (s : State) : KeepsBooks s (leaveFaulted s) := by
  have causes : KeepsBooks s (setDuty s { s.duty with causes := [] }) := ⟨rfl, fun y => ⟨y, rfl⟩⟩
  unfold leaveFaulted
  dsimp only
  split
  · exact causes.trans (enterOutOfService_keepsBooks _)
  · exact causes.trans (enterHand_keepsBooks _)
  · exact causes.trans (.of_ite (enterOutOfService_keepsBooks _) (enterLockedOff_keepsBooks _))

/-! ### Acknowledgment -/

theorem acknowledge_keepsBooks (s : State) : KeepsBooks s (acknowledge s) := by
  have unlock : ∀ v : State, KeepsBooks v (unlockRake v) := fun _ => .of_duty rfl
  unfold acknowledge
  split
  · have codes : (settlePanel (allCodes.foldl acknowledgeCode s)).duty = s.duty :=
      (settlePanel_duty _).trans (OnlyAlarms.foldl acknowledgeCode_onlyAlarms allCodes s).duty
    unfold releaseWaiting
    exact (KeepsBooks.of_duty codes).trans
      ((KeepsBooks.of_ite (leaveFaulted_keepsBooks _) (.refl _)).trans (.of_ite (unlock _) (.refl _)))
  · exact .refl s

theorem acknowledgeFrame_keepsBooks (c : Cells) (s : State) : KeepsBooks s (acknowledgeFrame c s) :=
  .of_ite ((KeepsBooks.of_duty (takeChanges_duty _ s)).trans (acknowledge_keepsBooks _)) (.refl s)

theorem withdrawAck_keepsBooks (s : State) : KeepsBooks s (withdrawAck s) := by
  have clear : KeepsBooks s { s with alarms := { s.alarms with ackPress := false, ackTown := false } } :=
    .of_duty rfl
  unfold withdrawAck
  exact .of_ite (clear.trans (acknowledge_keepsBooks _)) clear

/-! ### The decisions of a good frame end -/

theorem pumpWork_keepsBooks (won : Bool) (c : CommonCells) (s : State) :
    KeepsBooks s (pumpWork won c s) := by
  unfold pumpWork
  split
  case h_1 => exact .of_ite (.of_ite (startPump_keepsBooks s) (.refl s)) (enterIdle_keepsBooks s)
  case h_2 => exact .of_ite (setPump_keepsBooks s _) (.refl s)
  case h_3 =>
    exact .of_ite (.of_ite (enterLockedOff_keepsBooks s) (.refl s))
      (.of_ite (enterLockedOff_keepsBooks s) (.refl s))
  all_goals exact .refl s

theorem listenStop_keepsBooks (s : State) : KeepsBooks s (listenStop s) :=
  .of_ite (stopAutomatic_keepsBooks s) (.refl s)

/-- The state in which a good frame end decides on the lead and the pump: the values of R69, the tests
and counts of R71, R74, R82 and R83, the changeover timer and availability formed. -/
def formed (c : CommonCells) (s : State) : State :=
  let v := holdChangeover (countDuty c.supplyLow (testUnplanned (formDutyList s)))
  setDuty v { v.duty with availableAtEnd := available v }

/-- The lead decided in JOINED, and the house's business kept for the next frame end (R81, R83). -/
def ledState (v : State) : State :=
  setDuty v { v.duty with
    holdsLead := if v.line.mode = .joined then (leadWork v).duty.holdsLead else v.duty.holdsLead
    prevBusy := busyNow v }

theorem KeepsBooks.withBusy (h : KeepsBooks s t) (b : Bool) :
    KeepsBooks (setDuty s { s.duty with prevBusy := b }) (setDuty t { t.duty with prevBusy := b }) := by
  refine ⟨?_, h.changeover⟩
  change { Machine.books t.duty with prevBusy := b } = { Machine.books s.duty with prevBusy := b }
  rw [h.books]

/-- Beside the lead a good frame end decides on the pump alone. -/
theorem dutyFrame_keepsBooks (won : Bool) (c : CommonCells) (s : State) :
    KeepsBooks (ledState (formed c s)) (dutyFrame won c s) := by
  have led : ledState (formed c s) = setDuty (if (formed c s).line.mode = .joined then
        leadWork (formed c s) else formed c s)
      { (if (formed c s).line.mode = .joined then leadWork (formed c s) else formed c s).duty with
        prevBusy := busyNow (formed c s) } := by
    unfold ledState
    split <;> rfl
  rw [led]
  unfold dutyFrame
  refine KeepsBooks.withBusy ?_ (busyNow (formed c s))
  change KeepsBooks _ (match (formed c s).line.mode with
    | .joined => pumpWork won c (leadWork (formed c s))
    | .listen => listenStop (formed c s)
    | .isolated => formed c s
    | .lineFault => formed c s)
  cases m : (formed c s).line.mode with
  | joined => exact pumpWork_keepsBooks won c _
  | listen => exact listenStop_keepsBooks _
  | isolated => exact .refl _
  | lineFault => exact .refl _

/-! ### The books of a good frame end -/

theorem formed_duty (c : CommonCells) (s : State) : (formed c s).duty =
    { (countDuty c.supplyLow (testUnplanned (formDutyList s))).duty with
      changeover := if (formDutyList s).duty.waiting ≠ [] ∧ s.duty.changeover < changeoverLimit then 0
        else s.duty.changeover
      availableAtEnd := available
        (holdChangeover (countDuty c.supplyLow (testUnplanned (formDutyList s)))) } := by
  have waiting : (countDuty c.supplyLow (testUnplanned (formDutyList s))).duty.waiting
      = (formDutyList s).duty.waiting := rfl
  have changeover : (countDuty c.supplyLow (testUnplanned (formDutyList s))).duty.changeover
      = s.duty.changeover := rfl
  unfold formed
  rcases holdChangeover_cases (countDuty c.supplyLow (testUnplanned (formDutyList s)))
    with ⟨some, below, e⟩ | ⟨kept, e⟩
  · rw [waiting] at some
    rw [changeover] at below
    rw [if_pos ⟨some, below⟩, e]
    rfl
  · rw [waiting, changeover] at kept
    rw [if_neg (by rintro ⟨some, below⟩; exact kept.elim some (Nat.not_le_of_lt below)), e]
    rfl

end Sys2Proof.Machine
end


section
/-! SUPPORT. What the counts of the line and the holds leave of the Duty Controller's books before its own
work at a good frame end. -/

namespace Sys2Proof.Machine

open Sys2Proof

variable {s t u : State}

/-- The counts that a good frame end goes on from: those of R74, R81, R82 and R83, and the changeover
timer while yielding stays set. -/
structure KeepsCounts (s t : State) : Prop where
  supplyQuiet : t.duty.supplyQuiet = s.duty.supplyQuiet
  noLead : t.duty.noLead = s.duty.noLead
  leadUnusable : t.duty.leadUnusable = s.duty.leadUnusable
  prevBusy : t.duty.prevBusy = s.duty.prevBusy
  changeover : KeepsChangeover s t

theorem KeepsCounts.trans (h : KeepsCounts s t) (k : KeepsCounts t u) : KeepsCounts s u :=
  ⟨k.supplyQuiet.trans h.supplyQuiet, k.noLead.trans h.noLead, k.leadUnusable.trans h.leadUnusable,
    k.prevBusy.trans h.prevBusy, h.changeover.trans k.changeover⟩

theorem KeepsBooks.counts (h : KeepsBooks s t) : KeepsCounts s t :=
  ⟨congrArg (·.supplyQuiet) h.books, congrArg (·.noLead) h.books, congrArg (·.leadUnusable) h.books,
    congrArg (·.prevBusy) h.books, h.changeover⟩

theorem KeepsBooks.holdsLead (h : KeepsBooks s t) : t.duty.holdsLead = s.duty.holdsLead :=
  congrArg (·.holdsLead) h.books

theorem KeepsCounts.of_duty (d : t.duty = s.duty) : KeepsCounts s t := (KeepsBooks.of_duty d).counts

/-! ### A clash at the frame end -/

theorem dutyLeft_keepsCounts (s : State) : KeepsCounts s (dutyLeft s) := by
  have idle : KeepsBooks (withdrawAck s) (if (withdrawAck s).duty.pump = .startWait then
      enterIdle (withdrawAck s) else withdrawAck s) :=
    .of_ite (enterIdle_keepsBooks _) (.refl _)
  exact ((withdrawAck_keepsBooks s).trans idle).counts.trans
    ⟨rfl, rfl, rfl, rfl, fun yields => ⟨yields, rfl⟩⟩

theorem leaveIfJoined_keepsCounts (s : State) : KeepsCounts s (leaveIfJoined s) := by
  unfold leaveIfJoined
  split
  · obtain ⟨-, duty, -⟩ := leaveJoined_spec s
    exact (dutyLeft_keepsCounts s).trans (.of_duty duty)
  · exact .of_duty rfl

theorem enterIsolated_keepsCounts (s : State) : KeepsCounts s (enterIsolated s) := by
  have call : KeepsBooks (leaveIfJoined s) (isolating s) :=
    KeepsBooks.of_ite (p := (leaveIfJoined s).line.mode = .lineFault)
      (endLocalCall_keepsBooks _) (.refl _) |>.trans (.of_duty rfl)
  obtain ⟨duty, -⟩ := breakFrame_plant (isolating s)
  exact (leaveIfJoined_keepsCounts s).trans <| (call.trans <| (KeepsBooks.of_duty duty).trans <|
    stopAutomatic_keepsBooks _).counts

/-- An entry to ISOLATED from JOINED leaves the demand as it was. -/
theorem enterIsolated_stager (m : s.line.mode = .joined) : (enterIsolated s).stager = s.stager := by
  have mode : (leaveIfJoined s).line.mode ≠ .lineFault := by
    rw [leaveIfJoined_line, leftLine, if_pos m, m]
    nofun
  have before : (isolating s).stager = s.stager := by
    unfold isolating
    dsimp only
    rw [if_neg mode, leaveIfJoined_of_joined m]
    exact (leaveJoined_spec s).1
  rw [enterIsolated_eq, (stopAutomatic_keepsLead _).1, (breakFrame_plant _).2, before]

/-! ### The counts of the line -/

/-- What the counts of the line at a good frame end leave of the Demand Stager and the Duty Controller. -/
structure KeepsPlant (s t : State) : Prop where
  stager : t.stager = s.stager
  counts : KeepsCounts s t
  lead : t.line.mode = .joined → s.line.mode = .joined ∧ t.duty.holdsLead = s.duty.holdsLead
  fault : t.line.mode = .lineFault ↔ s.line.mode = .lineFault

theorem setLine_keepsPlant {l : Line} (m : l.mode = s.line.mode) : KeepsPlant s (setLine s l) :=
  ⟨rfl, .of_duty rfl, fun joined => ⟨m ▸ joined, rfl⟩, by rw [setLine_line, m]⟩

theorem KeepsPlant.trans (h : KeepsPlant s t) (k : KeepsPlant t u) : KeepsPlant s u := by
  refine ⟨k.stager.trans h.stager, h.counts.trans k.counts, fun joined => ?_, k.fault.trans h.fault⟩
  obtain ⟨between, later⟩ := k.lead joined
  obtain ⟨before, earlier⟩ := h.lead between
  exact ⟨before, later.trans earlier⟩

theorem countLine_keepsPlant (c : Cells) (drive : Option Drive) (s : State) :
    KeepsPlant s (countLine c drive s) := by
  cases m : s.line.mode with
  | listen =>
    rw [countLine_listen m]
    exact setLine_keepsPlant rfl
  | lineFault =>
    rw [countLine_lineFault m]
    exact setLine_keepsPlant rfl
  | isolated =>
    rw [countLine_isolated m]
    exact setLine_keepsPlant rfl
  | joined =>
    by_cases clash : ClashAt c drive (ownAddress s)
    · have counts : KeepsCounts s (setLine s (joinedLine c s)) := .of_duty rfl
      have isolated : (countLine c drive s).line.mode = .isolated := by
        rw [countLine_clash m clash, enterIsolated_line]
        exact (brokenLine_keeps _ _).1
      rw [countLine_clash m clash] at isolated ⊢
      refine ⟨enterIsolated_stager m, counts.trans (enterIsolated_keepsCounts _), ?_, ?_⟩ <;>
        simp [isolated, m]
    · rw [countLine_joined m clash]
      exact setLine_keepsPlant rfl

/-! ### The demand and the holds -/

theorem formDemand_of_lineFault (c : Cells) (m : s.line.mode = .lineFault) : formDemand c s = s := by
  simp [formDemand, m]

/-- The demand formed outside LINE_FAULT, once the loader has finished (R52, R53). -/
theorem formDemand_stager (c : Cells) (m : s.line.mode ≠ .lineFault) (l : loaded s = true) :
    (formDemand c s).stager = { s.stager with
      dLine := demandRead c 8
      dPre := if c.getLsbD 26 then max (demandRead c 8) s.cfg.highFloatStage else demandRead c 8
      prevDEff := s.stager.dEff
      dEff := if c.getLsbD 27 then 0 else if c.getLsbD 8 then 0
        else if c.getLsbD 26 then max (demandRead c 8) s.cfg.highFloatStage else demandRead c 8 } := by
  unfold formDemand
  rw [if_neg (by simpa using m), if_neg (by simp [l])]
  rfl

/-- D_line is no lower than a stage whose cell read dominant (R52). -/
theorem lt_demandRead {c : Cells} {n k : Nat} (lt : k < n) (dominant : c.getLsbD k = true) :
    k + 1 ≤ demandRead c n := by
  induction n with
  | zero => exact absurd lt (Nat.not_lt_zero k)
  | succ n ih =>
    unfold demandRead
    split
    · omega
    · rename_i recessive
      exact ih (Nat.lt_of_le_of_ne (Nat.le_of_lt_succ lt) fun e => recessive (e ▸ dominant))

/-- D_line is 0 or a stage whose cell read dominant (R52). -/
theorem demandRead_dominant (c : Cells) (n : Nat) :
    demandRead c n = 0 ∨ c.getLsbD (demandRead c n - 1) = true := by
  induction n with
  | zero => exact .inl rfl
  | succ n ih =>
    unfold demandRead
    split
    · exact .inr ‹_›
    · exact ih

/-! ### The state that the duty work enters -/

/-- A good frame end up to its counts, before the demand is formed. -/
def frameCounted (c : Cells) (s : State) : State :=
  countLine c s.line.drive (emptyStale s (readFrame c s))

/-- The state in which the Duty Controller's work of a good frame end begins. -/
def dutyEntry (c : Cells) (s : State) : State := applyRakeStop (applyHold (formDemand c (frameCounted c s)))

theorem frameCounted_station (c : Cells) (s : State) : OnlyStation s (frameCounted c s) :=
  (setLine_station s _).trans <| (emptyStale_onlyHouse _ _).station.trans (countLine_station _ _ _)

theorem frameCounted_keepsPlant (c : Cells) (s : State) : KeepsPlant s (frameCounted c s) := by
  have house := emptyStale_onlyHouse s (readFrame c s)
  have read : KeepsPlant s (emptyStale s (readFrame c s)) :=
    ⟨house.stager, .of_duty house.duty,
      fun joined => ⟨(congrArg (·.mode) house.line).symm.trans joined, congrArg (·.holdsLead) house.duty⟩,
      by rw [house.line]; rfl⟩
  exact read.trans (countLine_keepsPlant _ _ _)

theorem dutyEntry_onlyPlant (c : Cells) (s : State) : OnlyPlant (frameCounted c s) (dutyEntry c s) :=
  (formDemand_onlyPlant _ _).trans <| (applyHold_onlyDuty _).onlyPlant.trans
    (applyRakeStop_onlyScreen _).onlyPlant

theorem dutyEntry_station (c : Cells) (s : State) : OnlyStation s (dutyEntry c s) :=
  (frameCounted_station c s).trans (dutyEntry_onlyPlant c s).station

theorem formDemand_duty (c : Cells) (s : State) : (formDemand c s).duty = s.duty := by
  unfold formDemand
  split
  · rfl
  · split <;> rfl

theorem dutyEntry_keepsBooks (c : Cells) (s : State) : KeepsBooks (frameCounted c s) (dutyEntry c s) :=
  (KeepsBooks.of_duty (formDemand_duty c _)).trans <|
    (applyHold_keepsBooks _).trans (.of_duty (applyRakeStop_onlyScreen _).duty)

theorem dutyEntry_keepsCounts (c : Cells) (s : State) : KeepsCounts s (dutyEntry c s) :=
  (frameCounted_keepsPlant c s).counts.trans (dutyEntry_keepsBooks c s).counts

theorem dutyEntry_holdsLead {c : Cells} (m : (dutyEntry c s).line.mode = .joined) :
    (dutyEntry c s).duty.holdsLead = s.duty.holdsLead := by
  rw [(dutyEntry_onlyPlant c s).line] at m
  exact (dutyEntry_keepsBooks c s).holdsLead.trans ((frameCounted_keepsPlant c s).lead m).2

theorem dutyEntry_stager (c : Cells) (s : State) :
    (dutyEntry c s).stager = (formDemand c (frameCounted c s)).stager :=
  (applyRakeStop_onlyScreen _).onlyClosing.stager.trans (applyHold_onlyDuty _).onlyClosing.stager

/-! ### What follows the duty work -/

theorem rakeFrame_stager (won : Bool) (c : CommonCells) (s : State) :
    (rakeFrame won c (retakeFlush s)).stager = s.stager := by
  unfold rakeFrame retakeFlush expireInterval
  dsimp only
  split <;> split <;> rfl

theorem plantFrame_stager (c : Cells) (s : State) :
    (plantFrame c s.line.drive (frameCounted c s)).stager = (dutyEntry c s).stager :=
  (rakeFrame_stager _ _ _).trans (dutyFrame_onlyDuty _ _ _).onlyClosing.stager

theorem plantFrame_keepsBooks (c : Cells) (s : State) :
    KeepsBooks (ledState (formed (commonOf c) (dutyEntry c s)))
      (plantFrame c s.line.drive (frameCounted c s)) :=
  (dutyFrame_keepsBooks _ _ _).trans (.of_duty (plantFrame_duty c s.line.drive (frameCounted c s)))

/-- What stands of a good frame end once the Duty Controller's work is done: the line and the demand that
it went by, and the books that it left. -/
theorem frameEnd_formed (c : Cells) (s : State) :
    (settle (frameEnd c s)).line = (dutyEntry c s).line
      ∧ (settle (frameEnd c s)).stager = (dutyEntry c s).stager
      ∧ KeepsBooks (ledState (formed (commonOf c) (dutyEntry c s))) (settle (frameEnd c s)) := by
  have house := houseFrame_onlyHouse s.line.noticeWon c s.line.drive
    (plantFrame c s.line.drive (frameCounted c s))
  have stager := (acknowledgeFrame_onlyClosing c _).stager.trans house.stager
  have books := (KeepsBooks.of_duty house.duty).trans (acknowledgeFrame_keepsBooks c _)
  have free : ∀ v : State, KeepsBooks v { v with free := v.free + 1 } := fun _ => .of_duty rfl
  refine ⟨?_, ?_, ?_⟩
  · rw [settle_line, frameEnd_line_counts]
    exact (dutyEntry_onlyPlant c s).line.symm
  · rw [settle_stager]
    exact stager.trans (plantFrame_stager c s)
  · exact (plantFrame_keepsBooks c s).trans <| books.trans <| (free _).trans (settle_keepsBooks _)

end Sys2Proof.Machine
end


section
/-! O21. The demand, and what the Duty Controller forms beside it, at a good frame end. -/

namespace Sys2Proof.Machine

open Sys2Proof

variable {c : CommonCells} {s p t : State}

/-- A state with the line, the straps and the demand of `p`, and with the books that the Duty Controller's
work of a good frame end makes of those of `p`. -/
structure FrameBooks (c : CommonCells) (p t : State) : Prop where
  line : t.line = p.line
  straps : t.straps = p.straps
  stager : t.stager = p.stager
  work : KeepsBooks (ledState (formed c p)) t

theorem frameEnd_frameBooks (c : Cells) (s : State) :
    FrameBooks (commonOf c) (dutyEntry c s) (settle (frameEnd c s)) := by
  obtain ⟨line, stager, books⟩ := frameEnd_formed c s
  refine ⟨line, ?_, stager, books⟩
  rw [settle_straps, (frameEnd_station c s).straps, (dutyEntry_station c s).straps]

theorem formed_onlyDuty (c : CommonCells) (s : State) : OnlyDuty s (formed c s) :=
  OnlyDuty.trans (t := countDuty c.supplyLow (testUnplanned (formDutyList s))) rfl <|
    OnlyDuty.trans (t := holdChangeover (countDuty c.supplyLow (testUnplanned (formDutyList s))))
      (.of_ite rfl rfl) (setDuty_onlyDuty _ _)

namespace FrameBooks

theorem own (h : FrameBooks c p t) : ownAddress t = ownAddress p := by
  rw [ownAddress, h.straps, ownAddress]

theorem peer (h : FrameBooks c p t) : peer t = peer p := by
  funext a
  rw [Machine.peer, h.line, Machine.peer]

theorem fresh (h : FrameBooks c p t) : freshAt t = freshAt p := by
  funext a
  rw [freshAt, h.own, h.line, h.peer, freshAt]

theorem currentLead (h : FrameBooks c p t) : currentLead t = currentLead p := by
  rw [Machine.currentLead, h.fresh, h.peer, Machine.currentLead]

theorem dutyListOf (h : FrameBooks c p t) : dutyListOf t = dutyListOf p := by
  rw [Machine.dutyListOf, h.currentLead, h.fresh, Machine.dutyListOf]

/-- The books that the frame end leaves, as R69, R71, R74 and R81 to R83 form them. -/
theorem kept (h : FrameBooks c p t) : Machine.books t.duty = Machine.books
    { (countDuty c.supplyLow (testUnplanned (formDutyList p))).duty with
      availableAtEnd := (formed c p).duty.availableAtEnd
      holdsLead := (ledState (formed c p)).duty.holdsLead
      prevBusy := busyNow (formed c p) } := by
  rw [h.work.books, ledState, setDuty_duty, formed_duty]
  rfl

/-! ### The values of R69 -/

theorem lead (h : FrameBooks c p t) : t.duty.lead = Machine.currentLead t := by
  rw [h.currentLead]
  exact congrArg (·.lead) h.kept

theorem dutyList (h : FrameBooks c p t) : t.duty.dutyList = Machine.dutyListOf t := by
  rw [h.dutyListOf]
  exact congrArg (·.dutyList) h.kept

theorem runningCount (h : FrameBooks c p t) :
    t.duty.runningCount = (t.duty.dutyList.filter fun a => counted (Machine.peer t a)).length := by
  rw [h.dutyList, h.dutyListOf, h.peer]
  exact congrArg (·.runningCount) h.kept

theorem waiting (h : FrameBooks c p t) : t.duty.waiting =
    if t.line.mode == .joined then t.duty.dutyList.filter fun a =>
      (Machine.peer t a).available && !(Machine.peer t a).running
    else [] := by
  rw [h.dutyList, h.dutyListOf, h.peer, h.line]
  exact congrArg (·.waiting) h.kept

theorem index (h : FrameBooks c p t) : t.duty.index = t.duty.waiting.idxOf? (ownAddress t) := by
  have waiting : t.duty.waiting = (formDutyList p).duty.waiting := congrArg (·.waiting) h.kept
  rw [waiting, h.own]
  exact congrArg (·.index) h.kept

theorem peerYielding (h : FrameBooks c p t) :
    t.duty.peerYielding = t.duty.dutyList.any fun a => (Machine.peer t a).yielding := by
  rw [h.dutyList, h.dutyListOf, h.peer]
  exact congrArg (·.peerYielding) h.kept

/-! ### The previous values of R71 -/

theorem mem_prevRunning (h : FrameBooks c p t) (a : Nat) : a ∈ t.duty.prevRunning ↔ a < 8
    ∧ a ≠ ownAddress t ∧ freshAt t a = true ∧ (Machine.peer t a).running = true
    ∧ (Machine.peer t a).yielding = false := by
  have previous : t.duty.prevRunning = (testUnplanned (formDutyList p)).duty.prevRunning :=
    congrArg (·.prevRunning) h.kept
  rw [previous, mem_testUnplanned_prevRunning, h.own, h.fresh, h.peer]

theorem prevR (h : FrameBooks c p t) : t.duty.prevR = t.duty.runningCount := by
  have running : t.duty.runningCount = (formDutyList p).duty.runningCount :=
    congrArg (·.runningCount) h.kept
  rw [running]
  exact congrArg (·.prevR) h.kept

theorem prevDEff (h : FrameBooks c p t) : t.duty.prevDEff = t.stager.dEff := by
  rw [h.stager]
  exact congrArg (·.prevDEff) h.kept

/-! ### The counts -/

theorem supplyQuiet (h : FrameBooks c p t) :
    t.duty.supplyQuiet = if c.supplyLow then 0 else satSucc 51 p.duty.supplyQuiet :=
  congrArg (·.supplyQuiet) h.kept

theorem noLead (h : FrameBooks c p t) :
    t.duty.noLead = if t.duty.lead.isSome then 0 else satSucc 3 p.duty.noLead := by
  rw [h.lead, h.currentLead]
  exact congrArg (·.noLead) h.kept

theorem leadUnusable_of_none (h : FrameBooks c p t) (none : t.duty.lead = none) :
    t.duty.leadUnusable = 0 := by
  rw [h.lead, h.currentLead] at none
  have count : t.duty.leadUnusable = leadUnusableAfter (testUnplanned (formDutyList p)) :=
    congrArg (·.leadUnusable) h.kept
  have lead : (testUnplanned (formDutyList p)).duty.lead = .none := none
  rw [count, leadUnusableAfter, lead]

theorem leadUnusable_of_some (h : FrameBooks c p t) {l : Nat} (some : t.duty.lead = some l) :
    t.duty.leadUnusable = if (Machine.peer t l).available || (Machine.peer t l).running then 0
      else satSucc 50 p.duty.leadUnusable := by
  rw [h.lead, h.currentLead] at some
  have count : t.duty.leadUnusable = leadUnusableAfter (testUnplanned (formDutyList p)) :=
    congrArg (·.leadUnusable) h.kept
  have lead : (testUnplanned (formDutyList p)).duty.lead = .some l := some
  rw [count, leadUnusableAfter, lead, h.peer]
  rfl

theorem changeover (h : FrameBooks c p t) (yields : t.duty.yielding = true) :
    p.duty.yielding = true ∧ t.duty.changeover =
      if t.duty.waiting ≠ [] ∧ p.duty.changeover < changeoverLimit then 0 else p.duty.changeover := by
  have waiting : t.duty.waiting = (formDutyList p).duty.waiting := congrArg (·.waiting) h.kept
  obtain ⟨before, same⟩ := h.work.changeover yields
  have formed := formed_duty c p
  refine ⟨(congrArg (·.yielding) formed).symm.trans before, ?_⟩
  rw [same, waiting]
  exact congrArg (·.changeover) formed

/-! ### The lead -/

/-- The values that the lead is decided on stand at the end. -/
theorem formed_sees (h : FrameBooks c p t) : Machine.peer (formed c p) = Machine.peer t
    ∧ freshAt (formed c p) = freshAt t ∧ ownAddress (formed c p) = ownAddress t
    ∧ (formed c p).stager = t.stager ∧ (formed c p).line = t.line
    ∧ (formed c p).duty.lead = t.duty.lead ∧ (formed c p).duty.dutyList = t.duty.dutyList := by
  have duty := (formed_onlyDuty c p).onlyClosing
  have own : ownAddress (formed c p) = ownAddress p := by rw [ownAddress, duty.straps, ownAddress]
  have peers : Machine.peer (formed c p) = Machine.peer p := by
    funext a
    rw [Machine.peer, duty.line, Machine.peer]
  have fresh : freshAt (formed c p) = freshAt p := by
    funext a
    rw [freshAt, own, duty.line, peers, freshAt]
  exact ⟨peers.trans h.peer.symm, fresh.trans h.fresh.symm, own.trans h.own.symm,
    duty.stager.trans h.stager.symm, duty.line.trans h.line.symm, (congrArg (·.lead) h.work.books).symm,
    (congrArg (·.dutyList) h.work.books).symm⟩

theorem busyNow (h : FrameBooks c p t) : Machine.busyNow (formed c p) = Machine.busyNow t := by
  obtain ⟨peers, -, -, stager, -, -, list⟩ := h.formed_sees
  rw [Machine.busyNow, someRunning, peers, stager, list, Machine.busyNow, someRunning]

theorem nextLead (h : FrameBooks c p t) : Machine.nextLead (formed c p) = Machine.nextLead t := by
  obtain ⟨peers, fresh, -, -, -, lead, -⟩ := h.formed_sees
  unfold Machine.nextLead
  rw [peers, fresh, lead]

theorem lowerLead (h : FrameBooks c p t) : Machine.lowerLead (formed c p) = Machine.lowerLead t := by
  obtain ⟨-, -, own, -, -, lead, -⟩ := h.formed_sees
  unfold Machine.lowerLead
  rw [own, lead]

theorem prevBusy (h : FrameBooks c p t) : t.duty.prevBusy = Machine.busyNow t := by
  rw [← h.busyNow]
  exact congrArg (·.prevBusy) h.kept

/-- The lead of a JOINED bay (R81, R83). -/
theorem holdsLead (h : FrameBooks c p t) (m : t.line.mode = .joined) : t.duty.holdsLead =
    if p.duty.prevBusy && !Machine.busyNow t then
      leadAfter (p.duty.holdsLead && !Machine.lowerLead t) t
    else p.duty.holdsLead && !Machine.lowerLead t := by
  obtain ⟨-, -, own, -, line, -, -⟩ := h.formed_sees
  have kept : t.duty.holdsLead = (ledState (formed c p)).duty.holdsLead := congrArg (·.holdsLead) h.kept
  have before : (formed c p).duty.holdsLead = p.duty.holdsLead ∧
      (formed c p).duty.prevBusy = p.duty.prevBusy := by
    rw [formed_duty]
    exact ⟨rfl, rfl⟩
  have joined : (formed c p).line.mode = .joined := line ▸ m
  have after : ∀ held, leadAfter held (formed c p) = leadAfter held t := fun held => by
    rw [leadAfter, h.nextLead, own, leadAfter]
  rw [kept, ledState, setDuty_duty]
  simp only [if_pos joined, leadWork, setDuty_duty, before, h.busyNow, h.lowerLead, after]

end FrameBooks

/-! ### The words of O21 -/

theorem busyNow_iff (t : State) : busyNow t = true
    ↔ 1 ≤ t.stager.dEff ∨ ∃ a ∈ t.duty.dutyList, (peer t a).running = true := by
  simp [busyNow, someRunning]

theorem nextLead_eq_bind (t : State) : nextLead t = t.duty.lead.bind fun l =>
    ([1, 2, 3, 4, 5, 6, 7].map fun i => (l + i) % 8).find? fun a =>
      freshAt t a && (peer t a).available := by
  unfold nextLead
  cases t.duty.lead <;> rfl

theorem leadAfter_of_none {held : Bool} (h : nextLead t = none) : leadAfter held t = held := by
  rw [leadAfter, h]

theorem leadAfter_of_some {held : Bool} {n : Nat} (h : nextLead t = some n) :
    leadAfter held t = (n == ownAddress t) := by
  rw [leadAfter, h]

theorem lowerLead_eq_false_iff (t : State) :
    lowerLead t = false ↔ ∀ l, t.duty.lead = some l → ownAddress t ≤ l := by
  unfold lowerLead
  cases t.duty.lead <;> simp

/-- The demand of O21 outside LINE_FAULT (R52, R53). -/
theorem dutyEntry_demand (c : Cells) (m : s.line.mode ≠ .lineFault) (l : loaded s = true) :
    (dutyEntry c s).stager = { s.stager with
      dLine := demandRead c 8
      dPre := if c.getLsbD 26 then max (demandRead c 8) s.cfg.highFloatStage else demandRead c 8
      prevDEff := s.stager.dEff
      dEff := if c.getLsbD 27 then 0 else if c.getLsbD 8 then 0
        else if c.getLsbD 26 then max (demandRead c 8) s.cfg.highFloatStage else demandRead c 8 } := by
  have plant := frameCounted_keepsPlant c s
  have station := frameCounted_station c s
  rw [dutyEntry_stager, formDemand_stager c (mt plant.fault.1 m) (station.loaded.trans l), plant.stager,
    station.cfg]

theorem dutyEntry_demand_of_lineFault (c : Cells) (m : s.line.mode = .lineFault) :
    (dutyEntry c s).stager = s.stager := by
  have plant := frameCounted_keepsPlant c s
  rw [dutyEntry_stager, formDemand_of_lineFault c (plant.fault.2 m), plant.stager]

/-- Settles O21. -/
theorem frameFormsDemand : Obligations.FrameFormsDemand := by
  intro run c s inside low high l
  have step : exec (.goodFrameEnd run c) s = .next (settle (frameEnd c s)) := by
    unfold exec execGoodFrameEnd
    exact taken_of_can _ _ (by simp [inside, goodRun, low, high])
  have h := frameEnd_frameBooks c s
  have counts := dutyEntry_keepsCounts c s
  generalize settle (frameEnd c s) = t at step h
  have own : ownAddress t = ownAddress s := h.own.trans (dutyEntry_station c s).own
  refine ⟨t, step, fun m => ?_, fun m => ?_, h.lead, ?_, h.runningCount, ?_, own ▸ h.index,
    h.peerYielding, fun a => own ▸ h.mem_prevRunning a, h.prevR, h.prevDEff, fun yields => ?_, ?_, ?_,
    h.leadUnusable_of_none, fun a shown => ?_, fun busy cycleEnd busy_iff cycle_iff => ⟨?_, fun m next e => ?_⟩⟩
  · exact h.stager.trans (dutyEntry_demand_of_lineFault c m)
  · rw [h.stager, dutyEntry_demand c m l]
    refine ⟨fun k lt => lt_demandRead lt, ?_, rfl, rfl, rfl, rfl, rfl⟩
    exact (demandRead_dominant c 8).imp_right fun dominant => ⟨demandRead_le c 8, dominant⟩
  · rw [h.dutyList, h.lead]
    rfl
  · simpa using h.waiting
  · obtain ⟨before, formed⟩ := h.changeover yields
    rw [formed, (counts.changeover before).2]
    rfl
  · rw [h.supplyQuiet, counts.supplyQuiet]
    rfl
  · rw [h.noLead, counts.noLead]
    cases t.duty.lead <;> rfl
  · rw [h.leadUnusable_of_some shown, counts.leadUnusable]
    simp [satSucc]
  · rw [h.prevBusy, busyNow_iff, busy_iff]
  · have joined : (dutyEntry c s).line.mode = .joined := h.line ▸ m
    have lead := h.holdsLead m
    rw [dutyEntry_holdsLead joined, counts.prevBusy] at lead
    rw [← nextLead_eq_bind] at e
    have ended : (s.duty.prevBusy && !busyNow t) = true ↔ cycleEnd := by
      rw [Bool.and_eq_true, Bool.not_eq_true', Bool.eq_false_iff, ne_eq, busyNow_iff, ← busy_iff, cycle_iff]
    have kept : (s.duty.holdsLead && !lowerLead t) = true ↔ s.duty.holdsLead = true
        ∧ ∀ l, t.duty.lead = some l → ownAddress s ≤ l := by
      rw [Bool.and_eq_true, Bool.not_eq_true', lowerLead_eq_false_iff, own]
    refine ⟨fun n cycle some => ?_, fun still => ?_⟩
    · rw [lead, if_pos (ended.2 cycle), leadAfter_of_some (e ▸ some), own, beq_iff_eq]
    · rw [lead, ← kept]
      rcases still with running | none
      · rw [if_neg (mt ended.1 running)]
      · rw [leadAfter_of_none (e ▸ none), ite_self]

end Sys2Proof.Machine
end

section
/-! SUPPORT. What each operation leaves of the pump's and the rake's starts and of a FAULTED pump. -/

namespace Sys2Proof.Machine

open Sys2Proof

variable {s t u : State}

/-! ### Operations that start nothing -/

/-- Neither the pump nor the rake comes nearer to a start: none enters START_WAIT or RK_WAIT, and none
starts. -/
structure NoStart (s t : State) : Prop where
  waits : t.duty.pump = .startWait → s.duty.pump = .startWait
  starts : t.duty.pump = .starting → s.duty.pump = .starting
  rakeWaits : t.screen.rake = .wait → s.screen.rake = .wait
  rakeRuns : t.screen.rake = .run → s.screen.rake = .run

/-- A FAULTED pump stays FAULTED, with every code of its cause set. -/
def StaysFaulted (s t : State) : Prop :=
  s.duty.pump = .faulted → t.duty.pump = .faulted ∧ s.duty.causes ⊆ t.duty.causes

/-- Nothing comes nearer to a start, and a FAULTED pump stays FAULTED. -/
structure Tame (s t : State) : Prop extends NoStart s t where
  faulted : StaysFaulted s t

theorem NoStart.refl (s : State) : NoStart s s := ⟨id, id, id, id⟩

theorem NoStart.trans (h : NoStart s t) (k : NoStart t u) : NoStart s u :=
  ⟨h.waits ∘ k.waits, h.starts ∘ k.starts, h.rakeWaits ∘ k.rakeWaits, h.rakeRuns ∘ k.rakeRuns⟩

theorem NoStart.of_ite {p : Prop} [Decidable p] {a b : State} (h : NoStart s a) (k : NoStart s b) :
    NoStart s (if p then a else b) := by
  split <;> assumption

theorem StaysFaulted.refl (s : State) : StaysFaulted s s := fun f => ⟨f, List.Subset.refl _⟩

theorem StaysFaulted.trans (h : StaysFaulted s t) (k : StaysFaulted t u) : StaysFaulted s u :=
  fun f => by
    obtain ⟨between, some⟩ := h f
    obtain ⟨after, all⟩ := k between
    exact ⟨after, fun _ m => all (some m)⟩

theorem StaysFaulted.of_sound (sound : s.duty.pump ≠ .faulted) : StaysFaulted s t :=
  fun f => absurd f sound

theorem Tame.refl (s : State) : Tame s s := ⟨.refl s, .refl s⟩

theorem Tame.trans (h : Tame s t) (k : Tame t u) : Tame s u :=
  ⟨h.toNoStart.trans k.toNoStart, h.faulted.trans k.faulted⟩

theorem Tame.of_ite {p : Prop} [Decidable p] {a b : State} (h : Tame s a) (k : Tame s b) :
    Tame s (if p then a else b) := by
  split <;> assumption

/-- The pump and the rake are in the states they were in. -/
theorem Tame.of_same (pump : t.duty.pump = s.duty.pump) (rake : t.screen.rake = s.screen.rake)
    (causes : t.duty.causes = s.duty.causes) : Tame s t :=
  ⟨⟨pump ▸ id, pump ▸ id, rake ▸ id, rake ▸ id⟩,
    fun f => ⟨pump.trans f, causes ▸ List.Subset.refl _⟩⟩

/-- A start from a state whose pump and rake stand as these do. -/
theorem Tame.from (h : Tame u t) (pump : u.duty.pump = s.duty.pump)
    (rake : u.screen.rake = s.screen.rake) (causes : u.duty.causes = s.duty.causes) : Tame s t :=
  (Tame.of_same pump rake causes).trans h

theorem Tame.of_blocks (duty : t.duty = s.duty) (screen : t.screen = s.screen) : Tame s t :=
  .of_same (by rw [duty]) (by rw [screen]) (by rw [duty])

theorem OnlyHouse.tame (h : OnlyHouse s t) : Tame s t := .of_blocks h.duty h.screen

theorem OnlyNotices.tame (h : OnlyNotices s t) : Tame s t := h.onlyHouse.tame

theorem OnlyOvf.tame (h : OnlyOvf s t) : Tame s t := .of_blocks h.duty h.screen

theorem OnlyDuty.screen (h : OnlyDuty s t) : t.screen = s.screen := (congrArg (·.screen) h).trans rfl

/-- The pump comes to a state that is no start and no wait for one. -/
theorem OnlyDuty.noStart (h : OnlyDuty s t) (wait : t.duty.pump ≠ .startWait)
    (start : t.duty.pump ≠ .starting) : NoStart s t := by
  have rake : t.screen.rake = s.screen.rake := by rw [h.screen]
  exact ⟨(absurd · wait), (absurd · start), rake ▸ id, rake ▸ id⟩

/-- The pump, not FAULTED, comes to a state that is no start and no wait for one. -/
theorem OnlyDuty.tame (h : OnlyDuty s t) (wait : t.duty.pump ≠ .startWait)
    (start : t.duty.pump ≠ .starting) (sound : s.duty.pump ≠ .faulted) : Tame s t :=
  ⟨h.noStart wait start, .of_sound sound⟩

/-! ### The pump (chapter 4) -/

theorem openContactor_tame (s : State) : Tame s (openContactor s) :=
  .of_same (openContactor_pump s) (by rw [(openContactor_onlyDuty s).screen]) (openContactor_causes s)

theorem enterLockedOff_rests (s : State) :
    (enterLockedOff s).duty.pump ≠ .startWait ∧ (enterLockedOff s).duty.pump ≠ .starting := by
  rcases enterLockedOff_pump s with e | e <;> simp [e]

theorem enterLockedOff_tame (sound : s.duty.pump ≠ .faulted) : Tame s (enterLockedOff s) :=
  (enterLockedOff_onlyDuty s).tame (enterLockedOff_rests s).1 (enterLockedOff_rests s).2 sound

theorem enterIdle_tame (sound : s.duty.pump ≠ .faulted) : Tame s (enterIdle s) :=
  (enterIdle_onlyDuty s).tame nofun nofun sound

theorem enterFaulted_tame (c : AlarmCode) (s : State) : Tame s (enterFaulted c s) :=
  ⟨(enterFaulted_onlyDuty c s).noStart nofun nofun,
    fun _ => ⟨rfl, fun d m => ((enterFaulted_spec c s).2.2 d).2 (.inl m)⟩⟩

theorem closeInHand_tame (s : State) : Tame s (closeInHand s) := .of_ite (.of_same rfl rfl rfl) (.refl s)

theorem enterRunning_tame (sound : s.duty.pump ≠ .faulted) : Tame s (enterRunning s) :=
  OnlyDuty.tame (t := enterRunning s) rfl nofun nofun sound

/-- A pump in STARTING or RUNNING is not FAULTED. -/
theorem sound_of_run (run : s.duty.pump = .starting ∨ s.duty.pump = .running) :
    s.duty.pump ≠ .faulted := by
  rcases run with e | e <;> simp [e]

theorem stopAutomatic_tame (s : State) : Tame s (stopAutomatic s) := by
  obtain ⟨run, e⟩ | ⟨-, e⟩ := stopAutomatic_cases s <;> rw [e]
  · exact enterLockedOff_tame (sound_of_run run)
  · exact .refl s

theorem fallbackStop_tame (s : State) : Tame s (fallbackStop s) := by
  unfold fallbackStop
  split
  · rename_i g
    simp only [Bool.and_eq_true, beq_iff_eq] at g
    exact enterLockedOff_tame (by simp [g.1.1.2])
  · exact .refl s

theorem applyHold_tame (s : State) : Tame s (applyHold s) := by
  unfold applyHold
  split
  · split
    · rename_i run
      exact enterLockedOff_tame (sound_of_run (by simpa using run))
    · exact openContactor_tame s
  · exact closeInHand_tame s

theorem takeUp_rests (s : State) :
    (takeUp s).duty.pump ≠ .startWait ∧ (takeUp s).duty.pump ≠ .starting := by
  unfold takeUp
  split
  · exact ⟨nofun, nofun⟩
  · rw [enterHand_pump]
    exact ⟨nofun, nofun⟩
  · split
    · exact ⟨nofun, nofun⟩
    · exact enterLockedOff_rests s

/-- The state taken up from the mode and the inhibit flag is no start (R59, R84). -/
theorem takeUp_noStart (s : State) : NoStart s (takeUp s) :=
  (takeUp_quiet s).only.noStart (takeUp_rests s).1 (takeUp_rests s).2

theorem leaveFaulted_noStart (s : State) : NoStart s (leaveFaulted s) :=
  NoStart.trans (t := setDuty s { s.duty with causes := [] }) ⟨id, id, id, id⟩ (takeUp_noStart _)

theorem answerMode_tame (s : State) : Tame s (answerMode s) := by
  obtain ⟨e, sound⟩ | ⟨e, -⟩ := answerMode_cases s <;> rw [e]
  · exact ⟨takeUp_noStart s, StaysFaulted.of_sound sound⟩
  · exact .refl s

theorem reformMode_tame (s : State) : Tame s (reformMode s) :=
  .of_ite (.refl s) ((answerMode_tame _).from rfl rfl rfl)

theorem enterOutOfService_tame (sound : s.duty.pump ≠ .faulted) : Tame s (enterOutOfService s) :=
  (enterOutOfService_onlyDuty s).tame nofun nofun sound

theorem setInhibit_tame (s : State) : Tame s (setInhibit s) := by
  unfold setInhibit
  dsimp only
  split
  · rename_i g
    refine (enterOutOfService_tame fun f => ?_).from rfl rfl rfl
    replace f : s.duty.pump = .faulted := f
    rw [f] at g
    simp at g
  · exact .of_same rfl rfl rfl

theorem clearInhibit_tame (s : State) : Tame s (clearInhibit s) := by
  unfold clearInhibit
  dsimp only
  split
  · rename_i g
    refine (enterLockedOff_tame fun f => ?_).from rfl rfl rfl
    replace f : s.duty.pump = .faulted := f
    rw [f] at g
    simp at g
  · exact .of_same rfl rfl rfl

theorem confirmActivated_tame (s : State) : Tame s (confirmActivated s) := by
  unfold confirmActivated
  dsimp only
  split
  · rename_i g
    simp only [Bool.and_eq_true, beq_iff_eq] at g
    exact (Tame.of_ite (enterRunning_tame (by simp [g.1])) (.refl _)).from rfl rfl rfl
  · exact .of_same rfl rfl rfl

theorem confirmReleased_tame (s : State) : Tame s (confirmReleased s) :=
  .of_ite (.of_same rfl rfl rfl) (.refl s)

theorem moistureActivated_tame (s : State) : Tame s (moistureActivated s) :=
  .of_ite (stopAutomatic_tame s) (.refl s)

theorem minOffStep_tame (s : State) : Tame s (minOffStep s) := by
  unfold minOffStep
  dsimp only
  split
  · rename_i g
    exact (enterIdle_tame fun f => nomatch g.1.symm.trans f).from rfl rfl rfl
  · exact .of_same rfl rfl rfl

theorem inrushStep_tame (s : State) : Tame s (inrushStep s) := by
  unfold inrushStep
  dsimp only
  split
  · rename_i g
    exact (enterRunning_tame fun f => nomatch g.1.symm.trans f).from rfl rfl rfl
  · exact .of_same rfl rfl rfl

theorem failStart_tame (s : State) : Tame s (failStart s) :=
  (enterFaulted_tame _ _).from rfl rfl rfl

theorem loseRun_tame (s : State) : Tame s (loseRun s) :=
  (enterFaulted_tame _ _).from rfl rfl rfl

/-! ### The demand (chapter 3) -/

theorem reformLocal_tame (s : State) : Tame s (reformLocal s) :=
  .of_ite ((fallbackStop_tame _).from rfl rfl rfl) (.refl s)

theorem formDemand_tame (c : Cells) (s : State) : Tame s (formDemand c s) :=
  .of_ite (.refl s) (.of_ite (.of_same rfl rfl rfl) (.of_same rfl rfl rfl))

/-! ### The screen and the rake (chapter 5) -/

theorem setCondition_tame (c : ScreenCondition) (s : State) : Tame s (setCondition c s) :=
  .of_ite (.refl s) ((Tame.of_ite (stopAutomatic_tame _) (.refl _)).from rfl rfl rfl)

theorem findSwitch_tame (s : State) : Tame s (findSwitch s) :=
  .of_ite ((Tame.of_ite (setCondition_tame _ _) (.refl _)).from rfl rfl rfl) (.of_same rfl rfl rfl)

theorem takeSwitch_tame (s : State) : Tame s (takeSwitch s) :=
  .of_ite ((setCondition_tame _ _).from rfl rfl rfl) (findSwitch_tame s)

theorem leaveSensing_tame (s : State) : Tame s (leaveSensing s) :=
  (setCondition_tame _ s).trans (.of_same rfl rfl rfl)

theorem enterSensing_tame (m : SensingMode) (s : State) : Tame s (enterSensing m s) :=
  (Tame.of_ite (findSwitch_tame _) (.refl _)).from rfl rfl rfl

theorem takeChanges_tame (take : AlarmCode → Bool) (s : State) : Tame s (takeChanges take s) :=
  .of_blocks (takeChanges_duty take s) (takeChanges_screen take s)

theorem chooseSensing_tame (s : State) : Tame s (chooseSensing s) :=
  .of_ite (.refl s) ((leaveSensing_tame s).trans
    ((takeChanges_tame _ _).trans (enterSensing_tame _ _)))

theorem diffGate_tame (s : State) : Tame s (diffGate s) :=
  (setCondition_tame _ _).from rfl rfl rfl

theorem expireInterval_tame (s : State) : Tame s (expireInterval s) :=
  .of_ite (.of_same rfl rfl rfl) (.refl s)

theorem retakeFlush_tame (s : State) : Tame s (retakeFlush s) :=
  (expireInterval_tame _).from rfl rfl rfl

theorem screenGate_tame (s : State) : Tame s (screenGate s) := by
  have choose : ∀ (b : Bool) (v : State), Tame v (if b then chooseSensing v else v) := fun _ v =>
    .of_ite (chooseSensing_tame v) (.refl v)
  have diff : ∀ v : State, Tame v (if v.screen.sensing = some .diff then diffGate v else v) :=
    fun v => .of_ite (diffGate_tame v) (.refl v)
  exact (choose _ s).trans ((diff _).trans (retakeFlush_tame _))

/-- The rake comes to a state that is no run and no wait for one. -/
theorem Tame.of_rake (duty : t.duty = s.duty) (wait : t.screen.rake ≠ .wait)
    (run : t.screen.rake ≠ .run) : Tame s t :=
  ⟨⟨by simp [duty], by simp [duty], (absurd · wait), (absurd · run)⟩,
    fun f => ⟨duty ▸ f, duty ▸ List.Subset.refl _⟩⟩

theorem applyRakeStop_tame (s : State) : Tame s (applyRakeStop s) := by
  unfold applyRakeStop
  split
  · split
    case h_1 | h_2 | h_3 => exact .of_rake rfl nofun nofun
    all_goals exact .refl s
  · exact .refl s

theorem limitActivated_tame (s : State) : Tame s (limitActivated s) :=
  .of_ite (.of_rake rfl nofun nofun) (.refl s)

theorem postRakeStep_tame (s : State) : Tame s (postRakeStep s) :=
  (Tame.of_ite (setCondition_tame _ _) (.refl _)).from rfl rfl rfl

theorem judgeLocked_tame (s : State) : Tame s (judgeLocked s) := by
  unfold judgeLocked
  split
  · exact .of_ite (setCondition_tame _ s) (.refl s)
  · exact .of_ite (setCondition_tame _ s) (.refl s)
  all_goals exact .refl s

theorem jamRake_tame (s : State) : Tame s (jamRake s) := by
  unfold jamRake
  dsimp only
  split
  · exact .of_rake rfl nofun nofun
  · refine Tame.trans ?_ (judgeLocked_tame _)
    exact .of_rake rfl nofun nofun

/-- A gate end, block by block (R31, R43). -/
theorem gateStep_tame (s : State) : Tame s (gateStep s) :=
  Tame.trans (t := stageGate s.chanA.mode (endGates s))
    ((reformLocal_tame _).from rfl rfl rfl)
    ((screenGate_tame _).trans (overflowGate_onlyOvf _).tame)

/-! ### The Overflow Monitor (chapter 6) -/

theorem openEvent_tame (s : State) : Tame s (openEvent s) :=
  (handNotice_onlyNotices _ _).tame.from rfl rfl rfl

theorem closeEvent_tame (s : State) : Tame s (closeEvent s) :=
  ((handNotice_onlyNotices s _).tame.trans (handNotice_onlyNotices _ _).tame).trans (.of_same rfl rfl rfl)

/-! ### The loader's finish (chapter 10) -/

theorem finishOverflow_tame (s : State) : Tame s (finishOverflow s) :=
  .of_ite (.refl s) (.of_ite (.of_same rfl rfl rfl)
    ((retakeSource_onlyOvf _).tame.from rfl rfl rfl))

theorem finishDuty_tame (s : State) : Tame s (finishDuty s) := by
  have idle : ∀ v : State,
      Tame v (if v.duty.pump = .lockedOff ∧ v.duty.minOff = none then enterIdle v else v) := fun v => by
    split
    · rename_i g
      exact enterIdle_tame (by simp [g.1])
    · exact .refl v
  have trip : ∀ v : State, Tame v (if isActive v .thermal then thermalTrip v else v) :=
    fun v => .of_ite (enterFaulted_tame _ v) (.refl v)
  exact ((closeInHand_tame _).trans ((idle _).trans (trip _))).from rfl rfl rfl

theorem finishScreen_tame (s : State) : Tame s (finishScreen s) :=
  (leaveSensing_tame s).trans ((enterSensing_tame _ _).trans (expireInterval_tame _))

theorem finishStager_tame (s : State) : Tame s (finishStager s) :=
  .of_ite (.refl s) (.of_same rfl rfl rfl)

/-- The loader's finish, block by block (R167). -/
theorem finishStep_tame (s : State) : Tame s (finishStep s) := by
  obtain ⟨-, -, -, -, -, duty, screen, -⟩ := finishStep_blocks s
  have checks : Tame s (checked s) := Tame.trans (t := handedOver s) (.of_same rfl rfl rfl)
    ((finishStager_tame _).trans (finishOverflow_tame _))
  refine (checks.trans ((finishDuty_tame _).trans (finishScreen_tame _))).trans (.of_blocks ?_ screen)
  exact duty.trans (plantTaken_duty s).symm

/-! ### The station line (chapter 1) -/

theorem setLine_tame (s : State) (l : Line) : Tame s (setLine s l) := .of_same rfl rfl rfl

theorem breakFrame_tame (s : State) : Tame s (breakFrame s) :=
  .of_ite ((badNotice_onlyHouse s).tame.trans (setLine_tame _ _)) (.refl s)

theorem endLocalCall_tame (s : State) : Tame s (endLocalCall s) := .of_same rfl rfl rfl

theorem takeDrive_tame (s : State) : Tame s (takeDrive s) := by
  have queue : Tame s (if (driveOf s).noticeKey.isSome then setQueue s (headInFlight s.notices.queue)
      else s) := .of_ite (.of_same rfl rfl rfl) (.refl s)
  exact queue.trans (.of_same rfl rfl rfl)

theorem frameStart_tame (s : State) : Tame s (frameStart s) :=
  (Tame.of_ite (takeDrive_tame _) (.refl _)).from (u := setDuty (takeEdge s)
    { (takeEdge s).duty with availableAtStart := available (takeEdge s) }) rfl rfl rfl

theorem winNotice_tame (s : State) : Tame s (winNotice s) := by
  unfold winNotice
  split <;> exact .of_same rfl rfl rfl

theorem passOver_tame (s : State) : Tame s (passOver s) := by
  unfold passOver
  split <;> exact .of_same rfl rfl rfl

/-! ### Inputs and time -/

theorem answerInput_tame {i : Input} (ack : i ≠ .ackBtn) (s : State) : Tame s (answerInput i s) := by
  cases i with
  | runConfirm => exact .of_ite (confirmActivated_tame s) (confirmReleased_tame s)
  | thermal => exact .of_ite (enterFaulted_tame _ s) (.refl s)
  | moisture => exact .of_ite (moistureActivated_tame s) (.refl s)
  | lowFloat => exact reformLocal_tame s
  | highFloat => exact reformLocal_tame s
  | allStop => exact reformLocal_tame s
  | modeHand => exact reformMode_tame s
  | modeOff => exact reformMode_tame s
  | rakeLimit => exact .of_ite (limitActivated_tame s) (.refl s)
  | screenSw => exact .of_ite (takeSwitch_tame s) (.refl s)
  | weirFloat => exact .of_ite (retakeSource_onlyOvf s).tame (.refl s)
  | supplyLow => exact .of_ite (.of_same rfl rfl rfl) (.refl s)
  | ackBtn => exact absurd rfl ack
  | tideClosed => exact .refl s
  | lampTest => exact .refl s

theorem hourStep_tame (s : State) : Tame s (hourStep s) :=
  (handAll_onlyNotices _ _).tame.from rfl rfl rfl

theorem endPulse_tame (which : PulseAlarm) (s : State) : Tame s (endPulse which s) := by
  cases which <;> exact .of_same rfl rfl rfl

theorem pulseOn_tame (c : Channel) (s : State) : Tame s (pulseOn c s) := by
  cases c <;> exact .of_same rfl rfl rfl

theorem expireFlight_onlyHouse (s : State) : OnlyHouse s (match s.reporter.flight with
    | some f => expireTa f s
    | none => s) := by
  split
  · exact expireTa_onlyHouse _ s
  · exact .refl s

end Sys2Proof.Machine
end

section
/-! SUPPORT. The commands that bring neither the pump nor the rake nearer to a start and release no fault. -/

namespace Sys2Proof.Machine

open Sys2Proof

variable {s t u : State}

/-! ### The closing work -/

theorem handOn_tame (s : State) : Tame s (handOn s) := takeChanges_tame _ s

theorem serveRequest_duty (s : State) : (serveRequest s).duty = s.duty := by
  unfold serveRequest
  split <;> rfl

theorem serveRequest_rake_of_run (run : (serveRequest s).screen.rake = .run) : s.screen.rake = .run := by
  unfold serveRequest at run
  split at run
  · exact nomatch run
  · exact run

/-- What the closing work ends in: no start that the event before it has not brought. -/
structure Unstarted (s t : State) : Prop where
  starts : t.duty.pump = .starting → s.duty.pump = .starting
  rakeRuns : t.screen.rake = .run → s.screen.rake = .run

theorem NoStart.unstarted (h : NoStart s t) : Unstarted s t := ⟨h.starts, h.rakeRuns⟩

theorem Unstarted.trans (h : Unstarted s t) (k : Unstarted t u) : Unstarted s u :=
  ⟨h.starts ∘ k.starts, h.rakeRuns ∘ k.rakeRuns⟩

theorem served_tame (s : State) : Tame s (applyRakeStop (applyHold s)) :=
  (applyHold_tame s).trans (applyRakeStop_tame _)

/-- The closing work starts nothing (R62, R97, R102). -/
theorem settle_unstarted (s : State) : Unstarted s (settle s) := by
  have request : Unstarted (applyRakeStop (applyHold s)) (serve s) :=
    ⟨fun p => by rwa [serve, serveRequest_duty] at p, serveRequest_rake_of_run⟩
  exact (served_tame s).unstarted.trans (request.trans (handOn_tame _).unstarted)

theorem serve_staysFaulted (s : State) : StaysFaulted s (serve s) := by
  have request : StaysFaulted (applyRakeStop (applyHold s)) (serve s) := by
    unfold StaysFaulted
    rw [serve, serveRequest_duty]
    exact (Tame.refl _).faulted
  exact (served_tame s).faulted.trans request

theorem settle_staysFaulted (s : State) : StaysFaulted s (settle s) :=
  (serve_staysFaulted s).trans (handOn_tame _).faulted

/-! ### Every tame command -/

/-- What the loader reads concerns it alone (R168, R169). -/
theorem setLoader_tame (s : State) (l : Loader) : Tame s { s with loader := l } := .of_blocks rfl rfl

theorem readDone_tame (image : List Byte) (s : State) : Tame s (readDone image s) := setLoader_tame s _

theorem attemptStep_tame (cause : ReadFailure) (s : State) : Tame s (attemptStep cause s) :=
  setLoader_tame s _

theorem retryStep_tame (n : Nat) (s : State) : Tame s (retryStep n s) := setLoader_tame s _

/-- The commands that may start the pump or the rake, bring one nearer to it, or take an
acknowledgment. -/
inductive Unruly : Instr → Prop
  | reset : Unruly .reset
  | tick (pins : BitVec 15) (straps : CaptureReadings) : Unruly (.tick pins straps)
  | ackBtn : Unruly (.inputAcceptedChange .ackBtn)
  | syncAttemptFail : Unruly .syncAttemptFail
  | ownAddressIsolate : Unruly .ownAddressIsolate
  | presenceFault : Unruly .presenceFault
  | jabberTrip (cells : Nat) : Unruly (.jabberTrip cells)
  | stuckCondition (cells : Nat) : Unruly (.stuckCondition cells)
  | goodFrameEnd (run : Nat) (cells : Cells) : Unruly (.goodFrameEnd run cells)
  | fallbackStart : Unruly .fallbackStart
  | pauseTimerExpiry : Unruly .pauseTimerExpiry

theorem accept_tame (i : Input) (s : State) : Tame s (accept i s) := .of_blocks rfl rfl

theorem answerAccepted_tame {i : Input} (ack : i ≠ .ackBtn) (s : State) :
    Tame s (answerInput i (accept i s)) :=
  (accept_tame i s).trans (answerInput_tame ack _)

theorem secondStep_tame (s : State) : Tame s (secondStep s) := .of_same rfl rfl rfl

/-- What a tame event leaves once its closing work is done. -/
structure Steady (s t : State) : Prop extends Unstarted s t where
  faulted : StaysFaulted s t

theorem taken_steady {can : Bool} {f : State → State} (h : taken can f s = .next t)
    (k : Tame s (f s)) : Steady s t := by
  rcases taken_cases h with ⟨-, rfl⟩ | ⟨-, rfl⟩
  · exact ⟨⟨id, id⟩, .refl _⟩
  · exact ⟨k.unstarted.trans (settle_unstarted _), k.faulted.trans (settle_staysFaulted _)⟩

/-- Every other command starts nothing and releases no fault. -/
theorem exec_steady {c : Instr} (h : exec c s = .next t) : Unruly c ∨ Steady s t := by
  cases c with
  | reset => exact .inl .reset
  | tick pins straps => exact .inl (.tick pins straps)
  | syncAttemptFail => exact .inl .syncAttemptFail
  | ownAddressIsolate => exact .inl .ownAddressIsolate
  | presenceFault => exact .inl .presenceFault
  | jabberTrip n => exact .inl (.jabberTrip n)
  | stuckCondition n => exact .inl (.stuckCondition n)
  | goodFrameEnd run cells => exact .inl (.goodFrameEnd run cells)
  | fallbackStart => exact .inl .fallbackStart
  | pauseTimerExpiry => exact .inl .pauseTimerExpiry
  | inputAcceptedChange i =>
    by_cases ack : i = .ackBtn
    · exact .inl (ack ▸ .ackBtn)
    · unfold exec execInputAcceptedChange at h
      exact .inr (taken_steady h (answerAccepted_tame ack s))
  -- time and the loader
  | timeBaseSecond =>
    unfold exec execTimeBaseSecond at h
    exact .inr (taken_steady h (secondStep_tame s))
  | hourlyPoint =>
    unfold exec execHourlyPoint at h
    exact .inr (taken_steady h (hourStep_tame s))
  | clockMinute =>
    unfold exec execClockMinute at h
    exact .inr (taken_steady h (.of_same rfl rfl rfl))
  | startsWindowStampExpiry =>
    unfold exec execStartsWindowStampExpiry at h
    exact .inr (taken_steady h (.of_same rfl rfl rfl))
  | configReadComplete image =>
    unfold exec execConfigReadComplete at h
    exact .inr (taken_steady h (readDone_tame image s))
  | attemptFail cause =>
    unfold exec execAttemptFail at h
    exact .inr (taken_steady h (attemptStep_tame cause s))
  | retryWaitExpiry n =>
    unfold exec execRetryWaitExpiry at h
    exact .inr (taken_steady h (retryStep_tame n s))
  | loaderFinish =>
    unfold exec execLoaderFinish at h
    exact .inr (taken_steady h (finishStep_tame s))
  -- the line
  | frameTimerExpiry =>
    unfold exec execFrameTimerExpiry at h
    exact .inr (taken_steady h (.of_same rfl rfl rfl))
  | syncDrive =>
    unfold exec execSyncDrive at h
    exact .inr (taken_steady h (.of_same rfl rfl rfl))
  | syncLeadingEdge =>
    unfold exec execSyncLeadingEdge at h
    exact .inr (taken_steady h (frameStart_tame s))
  | noticeClaimWon field =>
    unfold exec execNoticeClaimWon at h
    exact .inr (taken_steady h (winNotice_tame s))
  | badFrame run =>
    unfold exec execBadFrame at h
    exact .inr (taken_steady h ((badNotice_onlyHouse s).tame.trans (setLine_tame _ _)))
  | lineIdle n =>
    unfold exec execLineIdle at h
    exact .inr (taken_steady h (.of_same rfl rfl rfl))
  | receiverInStep n =>
    unfold exec execReceiverInStep at h
    exact .inr (taken_steady h (.of_same rfl rfl rfl))
  | dominantCellBeforeIdle =>
    unfold exec execDominantCellBeforeIdle at h
    exact .inr (taken_steady h (.of_same rfl rfl rfl))
  | stuckConditionClear =>
    unfold exec execStuckConditionClear at h
    exact .inr (taken_steady h (.of_same rfl rfl rfl))
  | join =>
    unfold exec execJoin at h
    exact .inr (taken_steady h (.of_same rfl rfl rfl))
  | silenceTimerExpiry =>
    unfold exec execSilenceTimerExpiry at h
    exact .inr (taken_steady h (.of_same rfl rfl rfl))
  | lineFaultFramesRecover =>
    unfold exec execLineFaultFramesRecover at h
    exact .inr (taken_steady h (.of_same rfl rfl rfl))
  | lineFaultQuietRecover n =>
    unfold exec execLineFaultQuietRecover at h
    exact .inr (taken_steady h (.of_same rfl rfl rfl))
  | aloneDetect =>
    unfold exec execAloneDetect at h
    exact .inr (taken_steady h (.of_same rfl rfl rfl))
  -- the station's decisions aside of the line
  | leadUnusableHandover =>
    unfold exec execLeadUnusableHandover at h
    exact .inr (taken_steady h (passOver_tame s))
  | noLeadTake =>
    unfold exec execNoLeadTake at h
    exact .inr (taken_steady h (.of_same rfl rfl rfl))
  | noticeDrop =>
    unfold exec execNoticeDrop at h
    exact .inr (taken_steady h ((dropSpent_onlyHouse s).tame))
  | commandSetInhibit =>
    unfold exec execCommandSetInhibit at h
    exact .inr (taken_steady h ((setInhibit_tame s).trans (answerCommand_onlyHouse _ _ _).tame))
  | commandClearInhibit =>
    unfold exec execCommandClearInhibit at h
    exact .inr (taken_steady h ((clearInhibit_tame s).trans (answerCommand_onlyHouse _ _ _).tame))
  | commandOtherCode =>
    unfold exec execCommandOtherCode at h
    exact .inr (taken_steady h ((answerCommand_onlyHouse _ _ s).tame))
  -- the plant
  | gateEnd =>
    unfold exec execGateEnd at h
    exact .inr (taken_steady h (gateStep_tame s))
  | levelPulseEdge ch =>
    unfold exec execLevelPulseEdge at h
    exact .inr (taken_steady h (pulseOn_tame ch s))
  | minOffExpiry =>
    unfold exec execMinOffExpiry at h
    exact .inr (taken_steady h (minOffStep_tame s))
  | inrushTimerExpiry =>
    unfold exec execInrushTimerExpiry at h
    exact .inr (taken_steady h (inrushStep_tame s))
  | confirmTimerExpiry =>
    unfold exec execConfirmTimerExpiry at h
    exact .inr (taken_steady h (failStart_tame s))
  | runLossExpiry =>
    unfold exec execRunLossExpiry at h
    exact .inr (taken_steady h (loseRun_tame s))
  | maxrunReached =>
    unfold exec execMaxrunReached at h
    exact .inr (taken_steady h (.of_same rfl rfl rfl))
  | changeoverTimerExpiry =>
    unfold exec execChangeoverTimerExpiry at h
    exact .inr (taken_steady h (.of_same rfl rfl rfl))
  | minRunExpiry =>
    unfold exec execMinRunExpiry at h
    exact .inr (taken_steady h ((fallbackStop_tame _).from rfl rfl rfl))
  | fallbackDelayExpiry =>
    unfold exec execFallbackDelayExpiry at h
    exact .inr (taken_steady h (.of_same rfl rfl rfl))
  | switchClearExpiry =>
    unfold exec execSwitchClearExpiry at h
    exact .inr (taken_steady h ((setCondition_tame _ _).from rfl rfl rfl))
  | postRakeExpiry =>
    unfold exec execPostRakeExpiry at h
    exact .inr (taken_steady h (postRakeStep_tame s))
  | highAlarmExpiry =>
    unfold exec execHighAlarmExpiry at h
    exact .inr (taken_steady h (.of_same rfl rfl rfl))
  | intervalTimerExpiry =>
    unfold exec execIntervalTimerExpiry at h
    exact .inr (taken_steady h (expireInterval_tame s))
  | rakeInrushExpiry =>
    unfold exec execRakeInrushExpiry at h
    exact .inr (taken_steady h (.of_same rfl rfl rfl))
  | rakeJam =>
    unfold exec execRakeJam at h
    exact .inr (taken_steady h (jamRake_tame s))
  | pendingTimerExpiry =>
    unfold exec execPendingTimerExpiry at h
    exact .inr (taken_steady h (openEvent_tame s))
  | tailTimerExpiry =>
    unfold exec execTailTimerExpiry at h
    exact .inr (taken_steady h (closeEvent_tame s))
  | pulseConditionEnd which =>
    unfold exec execPulseConditionEnd at h
    exact .inr (taken_steady h (endPulse_tame which s))
  | stretchTimerExpiry n =>
    unfold exec execStretchTimerExpiry at h
    exact .inr (taken_steady h (.of_same rfl rfl rfl))
  | pulseTimerExpiry n =>
    unfold exec execPulseTimerExpiry at h
    exact .inr (taken_steady h (.of_same rfl rfl rfl))
  -- the reporter and the port
  | pairingTimeout a =>
    unfold exec execPairingTimeout at h
    exact .inr (taken_steady h ((pairingStep_onlyHouse _ s).tame))
  | holdQuietClaim =>
    unfold exec execHoldQuietClaim at h
    exact .inr (taken_steady h (.of_same rfl rfl rfl))
  | openFieldActive =>
    unfold exec execOpenFieldActive at h
    exact .inr (taken_steady h ((enterActive_onlyHouse s).tame))
  | commandTimeout =>
    unfold exec execCommandTimeout at h
    exact .inr (taken_steady h ((endCommand_onlyNotices _ s).tame))
  | townMessageInvalid chars =>
    unfold exec execTownMessageInvalid at h
    exact .inr (taken_steady h (.of_same rfl rfl rfl))
  | characterGapTimeout chars =>
    unfold exec execCharacterGapTimeout at h
    exact .inr (taken_steady h (.of_same rfl rfl rfl))
  | townPoll chars =>
    unfold exec execTownPoll at h
    exact .inr (taken_steady h ((takeMessage_onlyHouse _ chars takePoll_onlyHouse s).tame))
  | townAck chars =>
    unfold exec execTownAck at h
    exact .inr (taken_steady h ((takeMessage_onlyHouse _ chars takeAck_onlyHouse s).tame))
  | townDump chars =>
    unfold exec execTownDump at h
    exact .inr (taken_steady h ((takeMessage_onlyHouse _ chars takeDump_onlyHouse s).tame))
  | townInhibit chars =>
    unfold exec execTownInhibit at h
    exact .inr (taken_steady h ((takeMessage_onlyHouse _ chars (takeRelay_onlyHouse 1) s).tame))
  | townRelease chars =>
    unfold exec execTownRelease at h
    exact .inr (taken_steady h ((takeMessage_onlyHouse _ chars (takeRelay_onlyHouse 2) s).tame))
  | townClock chars =>
    unfold exec execTownClock at h
    exact .inr (taken_steady h ((takeMessage_onlyHouse _ chars takeClock_onlyHouse s).tame))
  | townReporting chars =>
    unfold exec execTownReporting at h
    exact .inr (taken_steady h ((takeMessage_onlyHouse _ chars takeReporting_onlyHouse s).tame))
  | townUnknownType chars =>
    unfold exec execTownUnknownType at h
    exact .inr (taken_steady h ((takeMessage_onlyHouse _ chars takeUnknown_onlyHouse s).tame))
  | portSend =>
    unfold exec execPortSend at h
    exact .inr (taken_steady h ((portStep_onlyHouse s).tame))
  | keyUpDelayExpiry =>
    unfold exec execKeyUpDelayExpiry at h
    exact .inr (taken_steady h (.of_same rfl rfl rfl))
  | transmitEnd =>
    unfold exec execTransmitEnd at h
    exact .inr (taken_steady h (.of_same rfl rfl rfl))
  | tAExpiry =>
    unfold exec execTAExpiry at h
    exact .inr (taken_steady h ((expireFlight_onlyHouse s).tame))

end Sys2Proof.Machine
end

section
/-! SUPPORT. What an acknowledgment, and every event that may take one, leaves of the starts and of a
FAULTED pump. -/

namespace Sys2Proof.Machine

open Sys2Proof

variable {s t u : State}

/-! ### The codes that can trip a pump -/

/-- A code that can stand in the cause set of a FAULTED pump (R64). -/
def IsTrip (c : AlarmCode) : Prop := c = .thermalTrip ∨ c = .startFail ∨ c = .runLost

theorem IsTrip.ne_queueLoss {c : AlarmCode} (h : IsTrip c) : c ≠ .queueLoss := by
  rcases h with rfl | rfl | rfl <;> nofun

/-- The whole table is there, and the record of each such code agrees with its raw condition. -/
def Tripped (s : State) : Prop :=
  s.alarms.records.length = 23 ∧ ∀ c, IsTrip c → rawCondition s c = (recordOf s c).raw

theorem AlarmSafe.tripped (h : AlarmSafe s) : Tripped s :=
  ⟨h.1, fun c _ => (h.2 c (by cases c <;> decide)).1.symm⟩

/-- What the raw conditions of these codes rest on is as it was. -/
structure SameRaw (s t : State) : Prop where
  thermal : isActive t .thermal = isActive s .thermal
  startFail : t.alarms.startFail = s.alarms.startFail
  runLost : t.alarms.runLost = s.alarms.runLost

theorem SameRaw.raw (h : SameRaw s t) {c : AlarmCode} (trip : IsTrip c) :
    rawCondition t c = rawCondition s c := by
  obtain ⟨thermal, startFail, runLost⟩ := h
  rcases trip with rfl | rfl | rfl
  · exact thermal
  · exact congrArg Option.isSome startFail
  · exact congrArg Option.isSome runLost

theorem OnlyClosing.sameRaw (h : OnlyClosing s t) : SameRaw s t := by
  refine ⟨?_, h.startFail, h.runLost⟩
  unfold isActive inputState
  rw [h.inputs]

/-- The records and the raw conditions of these codes are as they were. -/
structure SameTrips (s t : State) : Prop extends SameRaw s t where
  records : t.alarms.records = s.alarms.records

theorem SameTrips.refl (s : State) : SameTrips s s := ⟨⟨rfl, rfl, rfl⟩, rfl⟩

theorem SameTrips.trans (h : SameTrips s t) (k : SameTrips t u) : SameTrips s u :=
  ⟨⟨k.thermal.trans h.thermal, k.startFail.trans h.startFail, k.runLost.trans h.runLost⟩,
    k.records.trans h.records⟩

theorem SameTrips.of_alarms (inputs : t.inputs = s.inputs) (alarms : t.alarms = s.alarms) :
    SameTrips s t := by
  refine ⟨⟨?_, by rw [alarms], by rw [alarms]⟩, by rw [alarms]⟩
  unfold isActive inputState
  rw [inputs]

theorem SameTrips.recordOf (h : SameTrips s t) (c : AlarmCode) : recordOf t c = recordOf s c := by
  unfold Machine.recordOf
  rw [h.records]

theorem Tripped.same (h : Tripped s) (k : SameTrips s t) : Tripped t :=
  ⟨k.records ▸ h.1, fun c trip => by rw [k.raw trip, k.recordOf, h.2 c trip]⟩

/-! ### A fault released only once acknowledged -/

/-- From `s` to `t` a record in NORMAL stays there, and a FAULTED pump stays so, with every code of its
cause set, unless each of these has its record in NORMAL (R64). -/
structure Released (s t : State) : Prop where
  tripped : Tripped t
  normal : ∀ c, IsTrip c → (recordOf s c).state = .normal → (recordOf t c).state = .normal
  faulted : s.duty.pump = .faulted → (t.duty.pump = .faulted ∧ s.duty.causes ⊆ t.duty.causes)
    ∨ ∀ c ∈ s.duty.causes, IsTrip c → (recordOf t c).state = .normal

/-- The same, from a state whose records agree with their raw conditions. -/
def Releases (s t : State) : Prop := Tripped s → Released s t

theorem Releases.refl (s : State) : Releases s s := fun h =>
  ⟨h, fun _ _ => id, fun f => .inl ⟨f, List.Subset.refl _⟩⟩

theorem Releases.trans (h : Releases s t) (k : Releases t u) : Releases s u := by
  intro trips
  obtain ⟨between, normal, faulted⟩ := h trips
  obtain ⟨after, normal', faulted'⟩ := k between
  refine ⟨after, fun c trip n => normal' c trip (normal c trip n), fun f => ?_⟩
  rcases faulted f with ⟨f', some⟩ | all
  · rcases faulted' f' with ⟨f'', more⟩ | all
    · exact .inl ⟨f'', fun _ m => more (some m)⟩
    · exact .inr fun c m => all c (some m)
  · exact .inr fun c m trip => normal' c trip (all c m trip)

theorem Releases.of_ite {p : Prop} [Decidable p] {a b : State} (h : Releases s a) (k : Releases s b) :
    Releases s (if p then a else b) := by
  split <;> assumption

theorem SameTrips.releases (h : SameTrips s t) (k : StaysFaulted s t) : Releases s t := fun trips =>
  ⟨trips.same h, fun c _ n => by rwa [h.recordOf], fun f => .inl (k f)⟩

/-- Changes taken leave a record that agrees with its raw condition. -/
theorem recordOf_takeCodes {c : AlarmCode} (ne : c ≠ .queueLoss) (codes : List AlarmCode)
    (agrees : rawCondition s c = (recordOf s c).raw) :
    recordOf (takeCodes codes s) c = recordOf s c := by
  rw [takeCodes, recordOf_settlePanel, recordOf_foldl_settleCode ne codes s agrees]

theorem takeCodes_releases (codes : List AlarmCode) (s : State) : Releases s (takeCodes codes s) := by
  intro trips
  obtain ⟨length, agree⟩ := trips
  have kept : ∀ c, IsTrip c → recordOf (takeCodes codes s) c = recordOf s c := fun c trip =>
    recordOf_takeCodes trip.ne_queueLoss codes (agree c trip)
  refine ⟨⟨?_, fun c trip => ?_⟩, fun c trip n => by rwa [kept c trip], fun f => .inl ?_⟩
  · rw [takeCodes, settlePanel_alarms, foldl_settleCode_length, length]
  · rw [(takeCodes_onlyClosing codes s).sameRaw.raw trip, kept c trip, agree c trip]
  · rw [takeCodes_duty]
    exact ⟨f, List.Subset.refl _⟩

theorem takeChanges_releases (take : AlarmCode → Bool) (s : State) : Releases s (takeChanges take s) :=
  (takeCodes_releases _ s).trans (takeCodes_releases _ _)

/-- The closing work releases no fault. -/
theorem settle_releases (s : State) : Releases s (settle s) := by
  have served := serve_onlyPlant s
  exact ((SameTrips.of_alarms served.station.inputs served.alarms).releases (serve_staysFaulted s)).trans
    (takeChanges_releases _ _)

/-! ### An acknowledgment -/

theorem recordAcknowledged_raw (latches : Bool) (r : AlarmRecord) :
    (recordAcknowledged latches r).raw = r.raw := by
  have cleared : ∀ x : AlarmRecord, (recordCleared x).raw = x.raw := fun x => by
    unfold recordCleared
    split <;> rfl
  unfold recordAcknowledged
  dsimp only
  split
  · rfl
  · rw [apply_ite AlarmRecord.raw, cleared, ite_self]
    split <;> rfl

/-- A record in NORMAL is left there (R122). -/
theorem recordAcknowledged_normal {latches : Bool} {r : AlarmRecord} (n : r.state = .normal) :
    (recordAcknowledged latches r).state = .normal := by
  unfold recordAcknowledged
  simp only [n]
  split
  · exact n
  · split
    · simp [recordCleared]
    · exact n

/-- The state of an acknowledgment before the blocks that wait on it are told. -/
def acknowledged (s : State) : State := settlePanel (allCodes.foldl acknowledgeCode s)

theorem acknowledged_duty (s : State) : (acknowledged s).duty = s.duty :=
  (settlePanel_duty _).trans (OnlyAlarms.foldl acknowledgeCode_onlyAlarms allCodes s).duty

theorem acknowledged_screen (s : State) : (acknowledged s).screen = s.screen :=
  (settlePanel_screen _).trans (OnlyAlarms.foldl acknowledgeCode_onlyAlarms allCodes s).screen

theorem acknowledge_of_loaded (l : loaded s = true) :
    acknowledge s = releaseWaiting s (acknowledged s) := if_pos l

/-- A pump let go has each record of its cause set in NORMAL (R64). -/
theorem releaseWaiting_faulted (b s : State) :
    (releaseWaiting b s).duty = s.duty
      ∨ ∀ c ∈ s.duty.causes, (recordOf s c).state = .normal := by
  unfold releaseWaiting
  cases released : faultReleased b s with
  | true =>
    simp only [faultReleased, Bool.and_eq_true, List.all_eq_true, beq_iff_eq] at released
    exact .inr released.1.2
  | false =>
    refine .inl ?_
    simp only [Bool.false_eq_true, if_false]
    split <;> rfl

theorem acknowledge_releases (s : State) : Releases s (acknowledge s) := by
  by_cases l : loaded s = true
  · intro trips
    obtain ⟨length, agree⟩ := trips
    obtain ⟨length', records⟩ := acknowledge_records l length
    have recorded : ∀ c, recordOf (acknowledge s) c = recordOf (acknowledged s) c := fun c => by
      unfold recordOf
      rw [acknowledge_of_loaded l, (releaseWaiting_onlyPlant s (acknowledged s)).alarms]
    refine ⟨⟨length', fun c trip => ?_⟩, fun c _ n => ?_, fun f => ?_⟩
    · rw [(acknowledge_onlyClosing s).sameRaw.raw trip, records, recordAcknowledged_raw, agree c trip]
    · rw [records]
      exact recordAcknowledged_normal n
    · have duty := acknowledged_duty s
      rcases releaseWaiting_faulted s (acknowledged s) with same | all
      · rw [← acknowledge_of_loaded l, duty] at same
        exact .inl (by rw [same]; exact ⟨f, List.Subset.refl _⟩)
      · rw [duty] at all
        exact .inr fun c m _ => by rw [recorded c, all c m]
  · unfold acknowledge
    rw [if_neg l]
    exact .refl s

theorem unlockRake_noStart (s : State) : NoStart s (unlockRake s) := ⟨id, id, nofun, nofun⟩

/-- An acknowledgment starts nothing: it lets go a FAULTED pump and a locked rake (R64, R101). -/
theorem acknowledge_noStart (s : State) : NoStart s (acknowledge s) := by
  by_cases l : loaded s = true
  · rw [acknowledge_of_loaded l]
    unfold releaseWaiting
    exact (Tame.of_blocks (acknowledged_duty s) (acknowledged_screen s)).toNoStart.trans <|
      (NoStart.of_ite (leaveFaulted_noStart _) (.refl _)).trans
        (.of_ite (unlockRake_noStart _) (.refl _))
  · unfold acknowledge
    rw [if_neg l]
    exact .refl s

/-! ### Events that may take an acknowledgment -/

/-- Nothing comes nearer to a start, and a fault is released only once acknowledged. -/
structure Rests (s t : State) : Prop extends NoStart s t where
  releases : Releases s t

theorem Rests.trans (h : Rests s t) (k : Rests t u) : Rests s u :=
  ⟨h.toNoStart.trans k.toNoStart, h.releases.trans k.releases⟩

theorem Rests.refl (s : State) : Rests s s := ⟨.refl s, .refl s⟩

theorem Rests.of_ite {p : Prop} [Decidable p] {a b : State} (h : Rests s a) (k : Rests s b) :
    Rests s (if p then a else b) := by
  split <;> assumption

theorem Tame.rests (h : Tame s t) (k : SameTrips s t) : Rests s t :=
  ⟨h.toNoStart, k.releases h.faulted⟩

theorem OnlyPlant.rests (h : OnlyPlant s t) (k : Tame s t) : Rests s t :=
  k.rests (.of_alarms h.station.inputs h.alarms)

theorem OnlyHouse.rests (h : OnlyHouse s t) (alarms : t.alarms = s.alarms) : Rests s t :=
  h.tame.rests (.of_alarms h.station.inputs alarms)

theorem setLine_rests (s : State) (l : Line) : Rests s (setLine s l) :=
  (setLine_tame s l).rests (.of_alarms rfl rfl)

theorem acknowledge_rests (s : State) : Rests s (acknowledge s) :=
  ⟨acknowledge_noStart s, acknowledge_releases s⟩

theorem acknowledgeFrame_rests (c : Cells) (s : State) : Rests s (acknowledgeFrame c s) :=
  .of_ite (Rests.trans ⟨(takeChanges_tame _ s).toNoStart, takeChanges_releases _ s⟩
    (acknowledge_rests _)) (.refl s)

theorem clearAsserts_rests (s : State) (press town : Bool) :
    Rests s { s with alarms := { s.alarms with ackPress := press, ackTown := town } } :=
  Tame.rests (.of_blocks rfl rfl) ⟨⟨rfl, rfl, rfl⟩, rfl⟩

theorem pressAck_rests (s : State) : Rests s (pressAck s) :=
  .of_ite (.refl s) (.of_ite (clearAsserts_rests s true s.alarms.ackTown) (acknowledge_rests s))

theorem withdrawAck_rests (s : State) : Rests s (withdrawAck s) := by
  unfold withdrawAck
  exact (clearAsserts_rests s false false).trans (.of_ite (acknowledge_rests _) (.refl _))

theorem dutyLeft_rests (s : State) : Rests s (dutyLeft s) := by
  have idle : ∀ v : State, Rests v (if v.duty.pump = .startWait then enterIdle v else v) := fun v => by
    split
    · rename_i wait
      exact (enterIdle_onlyDuty v).onlyPlant.rests (enterIdle_tame (by simp [wait]))
    · exact .refl v
  refine (withdrawAck_rests s).trans ((idle _).trans ?_)
  exact (setDuty_onlyDuty _ _).onlyPlant.rests (.of_same rfl rfl rfl)

theorem leaveJoined_rests (s : State) : Rests s (leaveJoined s) := by
  have left : Rests (dutyLeft s) (reporterLeaves (dutyLeft s)) :=
    (reporterLeaves_onlyHouse _).rests (reporterLeaves_alarms _)
  refine (dutyLeft_rests s).trans (left.trans ?_)
  exact Tame.rests (.of_blocks rfl rfl) (.of_alarms rfl rfl)

theorem leaveIfJoined_rests (s : State) : Rests s (leaveIfJoined s) :=
  .of_ite (leaveJoined_rests s) (.refl s)

theorem breakFrame_rests (s : State) : Rests s (breakFrame s) :=
  (breakFrame_tame s).rests (.of_alarms (breakFrame_station s).inputs (breakFrame_keeps s).1)

theorem endLocalCall_rests (s : State) : Rests s (endLocalCall s) :=
  (endLocalCall_onlyPlant s).rests (endLocalCall_tame s)

theorem stopAutomatic_restful (s : State) : Rests s (stopAutomatic s) :=
  (stopAutomatic_onlyDuty s).onlyPlant.rests (stopAutomatic_tame s)

theorem enterIsolated_rests (s : State) : Rests s (enterIsolated s) := by
  have isolating : Rests s (isolating s) :=
    (leaveIfJoined_rests s).trans ((Rests.of_ite (endLocalCall_rests _) (.refl _)).trans
      (setLine_rests _ _))
  rw [enterIsolated_eq]
  exact isolating.trans ((breakFrame_rests _).trans (stopAutomatic_restful _))

theorem enterLineFault_rests (s : State) : Rests s (enterLineFault s) := by
  unfold enterLineFault
  exact (leaveIfJoined_rests s).trans <| (setLine_rests _ _).trans <| (breakFrame_rests _).trans <|
    (setLine_rests _ _).trans ((reformLocal_onlyPlant _).rests (reformLocal_tame _))

theorem failSync_rests (s : State) : Rests s (failSync s) :=
  (setLine_rests s _).trans (.of_ite (enterLineFault_rests _) (.refl _))

theorem becomeStuck_rests (n : Nat) (s : State) : Rests s (becomeStuck n s) :=
  Rests.trans (.of_ite (enterLineFault_rests s) (breakFrame_rests s)) (setLine_rests _ _)

/-- An accepted change of ACK_BTN, pressed or let go. -/
theorem answerAckBtn_rests (n : s.inputs.length = 15) :
    Rests s (answerInput .ackBtn (accept .ackBtn s)) := by
  have accepts : Rests s (accept .ackBtn s) :=
    (accept_tame _ s).rests ⟨⟨isActive_accept_other n nofun, rfl, rfl⟩, rfl⟩
  exact accepts.trans (.of_ite (pressAck_rests _) (.refl _))

end Sys2Proof.Machine
end

section
/-! SUPPORT. What a good frame end leaves of the starts and of a FAULTED pump, block by block. -/

namespace Sys2Proof.Machine

open Sys2Proof

variable {s t u : State}

/-! ### The counts and the demand -/

theorem emptyStale_alarms (b s : State) : (emptyStale b s).alarms = s.alarms := by
  have fold : ∀ (l : List Nat) (t : State),
      (l.foldl (fun t a => if freshAt b a && !freshAt s a then emptyView a t else t) t).alarms
        = t.alarms := by
    intro l
    induction l with
    | nil => exact fun _ => rfl
    | cons a l ih =>
      intro t
      rw [List.foldl_cons, ih]
      split <;> rfl
  exact fold _ s

theorem countLine_rests (c : Cells) (drive : Option Drive) (s : State) :
    Rests s (countLine c drive s) := by
  cases m : s.line.mode with
  | listen =>
    rw [countLine_listen m]
    exact setLine_rests s _
  | lineFault =>
    rw [countLine_lineFault m]
    exact setLine_rests s _
  | isolated =>
    rw [countLine_isolated m]
    exact setLine_rests s _
  | joined =>
    by_cases clash : ClashAt c drive (ownAddress s)
    · rw [countLine_clash m clash]
      exact (setLine_rests s _).trans (enterIsolated_rests _)
    · rw [countLine_joined m clash]
      exact setLine_rests s _

theorem frameCounted_rests (c : Cells) (s : State) : Rests s (frameCounted c s) :=
  (setLine_rests s _).trans <|
    ((emptyStale_onlyHouse s _).rests (emptyStale_alarms s _)).trans (countLine_rests c _ _)

theorem dutyEntry_rests (c : Cells) (s : State) : Rests s (dutyEntry c s) :=
  (frameCounted_rests c s).trans <| (dutyEntry_onlyPlant c s).rests <|
    (formDemand_tame c _).trans (served_tame _)

theorem dutyEntry_mode {c : Cells} (m : (dutyEntry c s).line.mode = .joined) :
    s.line.mode = .joined := by
  rw [(dutyEntry_onlyPlant c s).line] at m
  exact ((frameCounted_keepsPlant c s).lead m).1

/-! ### The Duty Controller's decision -/

/-- What a good frame end decides on the lead and the pump in `v`, where its values are formed. -/
def decided (won : Bool) (c : CommonCells) (v : State) : State :=
  match v.line.mode with
  | .joined => pumpWork won c (leadWork v)
  | .listen => listenStop v
  | .isolated => v
  | .lineFault => v

/-- The Duty Controller's part of a good frame end: its values formed, its decision, and the house's
business kept for the next frame end. -/
theorem dutyFrame_eq (won : Bool) (c : CommonCells) (s : State) :
    dutyFrame won c s = setDuty (decided won c (formed c s))
      { (decided won c (formed c s)).duty with prevBusy := busyNow (formed c s) } := rfl

theorem dutyFrame_pump (won : Bool) (c : CommonCells) (s : State) :
    (dutyFrame won c s).duty.pump = (decided won c (formed c s)).duty.pump := by
  rw [dutyFrame_eq]
  rfl

theorem formed_pump (c : CommonCells) (s : State) : (formed c s).duty.pump = s.duty.pump := by
  rw [formed_duty]
  rfl

theorem formed_causes (c : CommonCells) (s : State) : (formed c s).duty.causes = s.duty.causes := by
  rw [formed_duty]
  rfl

theorem formed_line (c : CommonCells) (s : State) : (formed c s).line = s.line :=
  (formed_onlyDuty c s).onlyPlant.line

/-- In JOINED a pump starts from START_WAIT alone, on a won claim with the cells clear (R74). -/
theorem pumpWork_starts {won : Bool} {c : CommonCells}
    (start : (pumpWork won c s).duty.pump = .starting) (rests : s.duty.pump ≠ .starting) :
    s.duty.pump = .startWait ∧ won = true ∧ startClear c s = true := by
  unfold pumpWork at start
  split at start
  · rename_i wait
    unfold startWork at start
    split at start
    · split at start
      · rename_i go
        exact ⟨wait, Bool.and_eq_true _ _ ▸ go⟩
      · exact absurd start rests
    · exact nomatch start
  · split at start
    · exact nomatch start
    · exact absurd start rests
  · unfold stopWork at start
    have stops := (enterLockedOff_rests s).2
    split at start
    · split at start
      · exact absurd start stops
      · exact absurd start rests
    · split at start
      · exact absurd start stops
      · exact absurd start rests
  all_goals exact absurd start rests

/-- A good frame end starts a pump in START_WAIT alone, in JOINED, on a won claim with INRUSH, SUPPLY_LOW,
ALL_STOP and DRY recessive (R74). -/
theorem dutyFrame_starts {won : Bool} {c : CommonCells}
    (start : (dutyFrame won c s).duty.pump = .starting) (rests : s.duty.pump ≠ .starting) :
    s.line.mode = .joined ∧ s.duty.pump = .startWait ∧ won = true ∧ c.inrush = false
      ∧ c.supplyLow = false ∧ c.allStop = false ∧ c.dry = false := by
  rw [dutyFrame_pump] at start
  rw [← formed_pump c s] at rests ⊢
  rw [← formed_line c s]
  generalize formed c s = v at start rests ⊢
  unfold decided at start
  split at start
  · rename_i joined
    obtain ⟨wait, win, clear⟩ := pumpWork_starts start rests
    simp only [startClear, Bool.and_eq_true, Bool.not_eq_true'] at clear
    obtain ⟨⟨⟨⟨⟨inrush, supply⟩, stop⟩, dry⟩, -⟩, -⟩ := clear
    exact ⟨joined, wait, win, inrush, supply, stop, dry⟩
  · exact absurd ((Tame.of_ite (stopAutomatic_tame v) (.refl v)).starts start) rests
  all_goals exact absurd start rests

theorem dutyFrame_staysFaulted (won : Bool) (c : CommonCells) (s : State) :
    StaysFaulted s (dutyFrame won c s) := by
  have decide : ∀ v : State, StaysFaulted v (decided won c v) := fun v f => by
    unfold decided
    split
    · have work : pumpWork won c (leadWork v) = leadWork v := by
        unfold pumpWork
        rw [show (leadWork v).duty.pump = .faulted from f]
      rw [work]
      exact ⟨f, List.Subset.refl _⟩
    · exact (Tame.of_ite (stopAutomatic_tame v) (.refl v)).faulted f
    all_goals exact ⟨f, List.Subset.refl _⟩
  have before : StaysFaulted s (formed c s) := fun f =>
    ⟨(formed_pump c s).trans f, formed_causes c s ▸ List.Subset.refl _⟩
  exact before.trans (decide _)

/-! ### The rake's start -/

/-- A good frame end starts a rake in RK_WAIT alone, in JOINED, on a won claim with INRUSH, SUPPLY_LOW and
ALL_STOP recessive (R98, R99). -/
theorem rakeFrame_starts {won : Bool} {c : CommonCells}
    (start : (rakeFrame won c s).screen.rake = .run) (rests : s.screen.rake ≠ .run) :
    s.line.mode = .joined ∧ s.screen.rake = .wait ∧ won = true ∧ c.inrush = false
      ∧ c.supplyLow = false ∧ c.allStop = false := by
  unfold rakeFrame at start
  split at start
  · rename_i go
    simp only [Bool.and_eq_true, Bool.not_eq_true', beq_iff_eq] at go
    obtain ⟨⟨⟨⟨⟨⟨⟨wait, joined⟩, win⟩, inrush⟩, supply⟩, stop⟩, -⟩, -⟩ := go
    exact ⟨joined, wait, win, inrush, supply, stop⟩
  · exact absurd start rests

theorem rakeFrame_onlyScreen (won : Bool) (c : CommonCells) (s : State) :
    OnlyScreen s (rakeFrame won c s) := by
  unfold rakeFrame
  split <;> rfl

theorem startWon_iff {b : Claimant} {c : Cells} {drive : Option Drive} :
    startWon b c drive = true ↔ ∃ d, drive = some d ∧ d.startKey = some (b, startField c) := by
  unfold startWon
  cases drive <;> simp

/-! ### The Notice Unit and the Telemetry Reporter -/

/-- Of the alarms only QUEUE_LOSS's condition differs. -/
def OnlyLoss (s t : State) : Prop := t.alarms = { s.alarms with queueLoss := t.alarms.queueLoss }

theorem OnlyLoss.of_same (h : t.alarms = s.alarms) : OnlyLoss s t := by
  unfold OnlyLoss
  rw [h]

theorem OnlyLoss.refl (s : State) : OnlyLoss s s := rfl

theorem OnlyLoss.trans (h : OnlyLoss s t) (k : OnlyLoss t u) : OnlyLoss s u :=
  Eq.trans k ((congrArg (fun a : Alarms => { a with queueLoss := u.alarms.queueLoss }) h).trans rfl)

theorem OnlyNotices.onlyLoss (h : OnlyNotices s t) : OnlyLoss s t :=
  (congrArg (fun x : State => x.alarms) (show t = noticePart s t from h)).trans rfl

theorem OnlyHouse.sameTrips (h : OnlyHouse s t) (k : OnlyLoss s t) : SameTrips s t := by
  have thermal := h.station.isActive .thermal
  exact ⟨⟨thermal, congrArg (·.startFail) k, congrArg (·.runLost) k⟩, congrArg (·.records) k⟩

theorem buildRecord_alarms (urgent : Bool) (r : ReportRecord) (s : State) :
    (buildRecord urgent r s).alarms = s.alarms := by
  unfold buildRecord enqueueReport
  dsimp only
  split <;> rfl

theorem recordNotice_onlyLoss (n : Received) (s : State) : OnlyLoss s (recordNotice n s) := by
  have event : ∀ a w code d (v : State), OnlyLoss v (buildOverflowEvent a w code d v) :=
    fun a w code d v => .of_same (buildRecord_alarms _ _ (setPairing a none v))
  unfold recordNotice
  split
  · exact .of_same (buildRecord_alarms _ _ s)
  · exact .of_same (buildRecord_alarms _ _ s)
  · dsimp only
    split
    · exact (event _ _ _ _ s).trans (.of_same rfl)
    · exact .of_same rfl
  · split
    · split
      · exact event _ _ _ _ s
      · exact .refl s
    · exact .refl s
  · exact .of_same (buildRecord_alarms _ _ s)
  · exact .refl s
  · split
    · split
      · exact (endCommand_onlyNotices _ s).onlyLoss
      · exact .refl s
    · exact .refl s

theorem handResult_alarms (won : Bool) (c : Cells) (drive : Option Drive) (s : State) :
    (handResult won c drive s).alarms = s.alarms := by
  unfold handResult
  split
  · split
    · exact (noticeResult_keeps _ s).1
    · rfl
  · rfl

theorem reporterResult_alarms (c : Cells) (drive : Option Drive) (s : State) :
    (reporterResult c drive s).alarms = s.alarms := by
  have active : (enterActive s).alarms = s.alarms := buildRecord_alarms _ _ _
  unfold reporterResult reporterFrame
  split
  · split
    · rfl
    · rfl
    · split
      · rfl
      · split
        · exact active
        · rfl
    · split
      · rfl
      · split <;> rfl
  · rfl

theorem receiveNotice_onlyLoss (c : Cells) (s : State) : OnlyLoss s (receiveNotice c s) := by
  unfold receiveNotice
  split
  · dsimp only
    split
    · split
      · refine OnlyLoss.trans ?_ (recordNotice_onlyLoss _ _)
        exact .of_same rfl
      · exact .of_same rfl
    · exact .of_same rfl
  · exact .refl s

theorem countAfterNotice_alarms (carried : Bool) (s : State) :
    (countAfterNotice carried s).alarms = s.alarms := by
  unfold countAfterNotice
  dsimp only
  split <;> split <;> rfl

theorem refresh_onlyLoss (c : Cells) (s : State) : OnlyLoss s (refresh c s) := by
  unfold refresh
  split
  · exact .refl s
  · split
    · refine OnlyLoss.trans ?_ (handAll_onlyNotices _ _).onlyLoss
      exact .of_same rfl
    · exact .refl s

theorem houseFrame_onlyLoss (won : Bool) (c : Cells) (drive : Option Drive) (s : State) :
    OnlyLoss s (houseFrame won c drive s) :=
  (OnlyLoss.of_same (handResult_alarms won c drive s)).trans <|
    (OnlyLoss.of_same (reporterResult_alarms c drive _)).trans <|
    (receiveNotice_onlyLoss c _).trans <| (OnlyLoss.of_same (countAfterNotice_alarms _ _)).trans <|
    refresh_onlyLoss c _

theorem houseFrame_rests (won : Bool) (c : Cells) (drive : Option Drive) (s : State) :
    Rests s (houseFrame won c drive s) :=
  (houseFrame_onlyHouse won c drive s).tame.rests
    ((houseFrame_onlyHouse won c drive s).sameTrips (houseFrame_onlyLoss won c drive s))

/-! ### The whole -/

/-- The frame end's part of the plant's blocks, from the state that the Duty Controller's work enters. -/
theorem plantFrame_eq (c : Cells) (s : State) : plantFrame c s.line.drive (frameCounted c s) =
    rakeFrame (startWon .screen c s.line.drive) (commonOf c)
      (retakeFlush (dutyFrame (((frameCounted c s).line.mode == .joined)
          && startWon .duty c s.line.drive && !inhibitTakenFirst c (dutyEntry c s))
        (commonOf c) (dutyEntry c s))) := rfl

theorem plantFrame_dutyFrame (c : Cells) (s : State) :
    (plantFrame c s.line.drive (frameCounted c s)).duty =
      (dutyFrame (((frameCounted c s).line.mode == .joined) && startWon .duty c s.line.drive
        && !inhibitTakenFirst c (dutyEntry c s)) (commonOf c) (dutyEntry c s)).duty :=
  plantFrame_duty c s.line.drive (frameCounted c s)

theorem frameEnd_eq (c : Cells) (s : State) : frameEnd c s =
    { acknowledgeFrame c (houseFrame s.line.noticeWon c s.line.drive
        (plantFrame c s.line.drive (frameCounted c s))) with
      free := (acknowledgeFrame c (houseFrame s.line.noticeWon c s.line.drive
        (plantFrame c s.line.drive (frameCounted c s)))).free + 1 } := rfl

/-- What follows the plant's blocks at a good frame end starts nothing. -/
theorem frameEnd_rests (c : Cells) (s : State) :
    Rests (plantFrame c s.line.drive (frameCounted c s)) (frameEnd c s) := by
  rw [frameEnd_eq]
  refine (houseFrame_rests s.line.noticeWon c s.line.drive _).trans <|
    (acknowledgeFrame_rests c _).trans ?_
  exact Tame.rests (.of_blocks rfl rfl) (.of_alarms rfl rfl)

theorem plantFrame_releases (c : Cells) (s : State) :
    Releases s (plantFrame c s.line.drive (frameCounted c s)) := by
  have duty : ∀ (won : Bool) (v : State), Releases v (dutyFrame won (commonOf c) v) := fun won v =>
    (SameTrips.of_alarms (dutyFrame_onlyDuty _ _ v).onlyPlant.station.inputs
      (dutyFrame_onlyDuty _ _ v).onlyPlant.alarms).releases (dutyFrame_staysFaulted won _ v)
  have flush : ∀ v : State, Releases v (retakeFlush v) := fun v =>
    ((retakeFlush_onlyPlant v).rests (retakeFlush_tame v)).releases
  have rake : ∀ (won : Bool) (v : State), Releases v (rakeFrame won (commonOf c) v) := fun won v => by
    have k := rakeFrame_onlyScreen won (commonOf c) v
    refine (SameTrips.of_alarms k.onlyPlant.station.inputs k.onlyPlant.alarms).releases fun f => ?_
    rw [k.duty]
    exact ⟨f, List.Subset.refl _⟩
  rw [plantFrame_eq]
  exact (dutyEntry_rests c s).releases.trans ((duty _ _).trans ((flush _).trans (rake _ _)))

theorem frameEnd_releases (c : Cells) (s : State) : Releases s (frameEnd c s) :=
  (plantFrame_releases c s).trans (frameEnd_rests c s).releases

/-- A pump that a good frame end starts had its claim won, on clear cells (R74). -/
theorem frameEnd_starts_pump {c : Cells} (start : (frameEnd c s).duty.pump = .starting)
    (rests : s.duty.pump ≠ .starting) :
    s.line.mode = .joined ∧ s.duty.pump = .startWait ∧ startWon .duty c s.line.drive = true
      ∧ c.getLsbD 8 = false ∧ c.getLsbD 19 = false ∧ c.getLsbD 24 = false ∧ c.getLsbD 27 = false := by
  have entry := dutyEntry_rests c s
  replace start := (frameEnd_rests c s).starts start
  rw [plantFrame_dutyFrame] at start
  obtain ⟨joined, wait, won, inrush, supply, stop, dry⟩ :=
    dutyFrame_starts start (mt entry.starts rests)
  simp only [Bool.and_eq_true] at won
  exact ⟨dutyEntry_mode joined, entry.waits wait, won.1.2, dry, inrush, supply, stop⟩

/-- A rake that a good frame end starts had its claim won, on clear cells (R98, R99). -/
theorem frameEnd_starts_rake {c : Cells} (start : (frameEnd c s).screen.rake = .run)
    (rests : s.screen.rake ≠ .run) :
    s.line.mode = .joined ∧ s.screen.rake = .wait ∧ startWon .screen c s.line.drive = true
      ∧ c.getLsbD 19 = false ∧ c.getLsbD 24 = false ∧ c.getLsbD 27 = false := by
  have entry := dutyEntry_rests c s
  replace start := (frameEnd_rests c s).rakeRuns start
  rw [plantFrame_eq] at start
  generalize (((frameCounted c s).line.mode == .joined) && startWon .duty c s.line.drive
    && !inhibitTakenFirst c (dutyEntry c s)) = won at start
  have duty := dutyFrame_onlyDuty won (commonOf c) (dutyEntry c s)
  have flush := retakeFlush_tame (dutyFrame won (commonOf c) (dutyEntry c s))
  have flushed := retakeFlush_onlyPlant (dutyFrame won (commonOf c) (dutyEntry c s))
  have noRun : (retakeFlush (dutyFrame won (commonOf c) (dutyEntry c s))).screen.rake ≠ .run :=
    fun run => by
      have before := flush.rakeRuns run
      rw [duty.screen] at before
      exact rests (entry.rakeRuns before)
  obtain ⟨joined, wait, win, inrush, supply, stop⟩ := rakeFrame_starts start noRun
  replace wait := flush.rakeWaits wait
  rw [duty.screen] at wait
  rw [flushed.line, duty.onlyPlant.line] at joined
  exact ⟨dutyEntry_mode joined, entry.rakeWaits wait, win, inrush, supply, stop⟩

end Sys2Proof.Machine
end

section
/-! O56 and O58. Starts are won, and faults are released by acknowledgment alone. -/

namespace Sys2Proof.Machine

open Sys2Proof

variable {s t u : State}

/-! ### The tick -/

theorem capture_unstarted (pins : BitVec 15) (straps : CaptureReadings) (s : State) :
    Unstarted s (capture pins straps s) :=
  ⟨fun start => absurd start (firstPump_stays _).1, id⟩

theorem tickStep_unstarted (pins : BitVec 15) (straps : CaptureReadings) (s : State) :
    Unstarted s (tickStep pins straps s) := by
  have sampled : Unstarted s (if captured s then sampleInputs pins s else capture pins straps s) := by
    split
    · exact ⟨id, id⟩
    · exact capture_unstarted pins straps s
  exact sampled.trans ⟨id, id⟩

/-- No pump is FAULTED before the straps are captured (R64). -/
theorem tickStep_staysFaulted (mode : ModeSafe s) (pins : BitVec 15) (straps : CaptureReadings) :
    StaysFaulted s (tickStep pins straps s) := by
  obtain ⟨-, -, -, -, -, faulted, -, before⟩ := mode
  intro f
  have seen : captured s = true := Bool.eq_true_of_not_eq_false fun c => faulted.1 f (before c).2.2.2
  unfold tickStep
  rw [if_pos seen]
  exact ⟨f, List.Subset.refl _⟩

/-! ### The commands that are not tame -/

theorem taken_unstarted {can : Bool} {f : State → State} (h : taken can f s = .next t)
    (k : Unstarted s (f s)) : Unstarted s t := by
  rcases taken_cases h with ⟨-, rfl⟩ | ⟨-, rfl⟩
  · exact ⟨id, id⟩
  · exact k.trans (settle_unstarted _)

/-- What O58 says of one command: the pump stays FAULTED, or its cause set is in NORMAL. -/
def FaultHeld (s t : State) : Prop :=
  t.duty.pump = .faulted ∨ ∀ c ∈ s.duty.causes, (recordOf t c).state = .normal

theorem taken_releases {can : Bool} {f : State → State} (g : Good s) (p : s.duty.pump = .faulted)
    (h : taken can f s = .next t) (k : Releases s (f s)) : FaultHeld s t := by
  obtain ⟨-, -, mode, -, -, -, -, -, -, alarms, -⟩ := g
  obtain ⟨-, -, -, -, -, -, trips, -⟩ := mode
  rcases taken_cases h with ⟨-, rfl⟩ | ⟨-, rfl⟩
  · exact .inl p
  · obtain ⟨-, -, faulted⟩ := k.trans (settle_releases _) alarms.tripped
    exact (faulted p).imp And.left fun all c m => all c m (trips c m)

/-- Beside a good frame end and a fallback start no command starts a pump or a rake. -/
theorem exec_unstarted {c : Instr} (h : exec c s = .next t) :
    (∃ run cells, c = .goodFrameEnd run cells) ∨ c = .fallbackStart ∨ Unstarted s t := by
  rcases exec_steady h with unruly | steady
  · cases unruly with
    | goodFrameEnd run cells => exact .inl ⟨run, cells, rfl⟩
    | fallbackStart => exact .inr (.inl rfl)
    | reset =>
      unfold exec execReset at h
      cases h
      exact .inr (.inr ⟨nofun, nofun⟩)
    | tick pins straps =>
      unfold exec execTick at h
      exact .inr (.inr (taken_unstarted h (tickStep_unstarted pins straps s)))
    | ackBtn =>
      unfold exec execInputAcceptedChange at h
      have press : NoStart s (answerInput .ackBtn (accept .ackBtn s)) :=
        (accept_tame .ackBtn s).toNoStart.trans (.of_ite (pressAck_rests _).toNoStart (.refl _))
      exact .inr (.inr (taken_unstarted h press.unstarted))
    | syncAttemptFail =>
      unfold exec execSyncAttemptFail at h
      exact .inr (.inr (taken_unstarted h (failSync_rests s).unstarted))
    | ownAddressIsolate =>
      unfold exec execOwnAddressIsolate at h
      exact .inr (.inr (taken_unstarted h (enterIsolated_rests s).unstarted))
    | presenceFault =>
      unfold exec execPresenceFault at h
      exact .inr (.inr (taken_unstarted h (enterLineFault_rests s).unstarted))
    | jabberTrip n =>
      unfold exec execJabberTrip at h
      refine .inr (.inr (taken_unstarted h ?_))
      exact ((setLine_rests s _).trans (enterIsolated_rests _)).unstarted
    | stuckCondition n =>
      unfold exec execStuckCondition at h
      exact .inr (.inr (taken_unstarted h (becomeStuck_rests n s).unstarted))
    | pauseTimerExpiry =>
      unfold exec execPauseTimerExpiry at h
      refine .inr (.inr (taken_unstarted h ?_))
      exact ⟨id, nofun⟩
  · exact .inr (.inr steady.toUnstarted)

/-- A start that an event brings is its own effect's, and not the closing work's. -/
theorem taken_starts {can : Bool} {f : State → State} (h : taken can f s = .next t) :
    (s.duty.pump ≠ .starting → t.duty.pump = .starting → can = true ∧ (f s).duty.pump = .starting)
      ∧ (s.screen.rake ≠ .run → t.screen.rake = .run → can = true ∧ (f s).screen.rake = .run) := by
  rcases taken_cases h with ⟨-, rfl⟩ | ⟨yes, rfl⟩
  · exact ⟨fun n start => absurd start n, fun n start => absurd start n⟩
  · obtain ⟨starts, runs⟩ := settle_unstarted (f s)
    exact ⟨fun _ start => ⟨yes, starts start⟩, fun _ start => ⟨yes, runs start⟩⟩

/-- Settles O56, command by command: beside a good frame end, which starts on a won claim alone, and a
fallback start, no command starts anything. -/
theorem startsAreWon : Obligations.StartsAreWon := by
  intro c s t h
  rcases exec_unstarted h with ⟨run, cells, rfl⟩ | rfl | unstarted
  · unfold exec execGoodFrameEnd at h
    obtain ⟨pump, rake⟩ := taken_starts h
    refine ⟨fun n start => .inl ?_, fun n start => ?_⟩
    · obtain ⟨joined, wait, won, clear⟩ := frameEnd_starts_pump (pump n start).2 n
      obtain ⟨d, drive, key⟩ := startWon_iff.1 won
      exact ⟨run, cells, d, rfl, joined, wait, drive, key, clear⟩
    · obtain ⟨joined, wait, won, clear⟩ := frameEnd_starts_rake (rake n start).2 n
      obtain ⟨d, drive, key⟩ := startWon_iff.1 won
      exact ⟨run, cells, d, rfl, joined, wait, drive, key, clear⟩
  · unfold exec execFallbackStart at h
    obtain ⟨pump, rake⟩ := taken_starts h
    refine ⟨fun n start => .inr ?_, fun n start => absurd (rake n start).2 n⟩
    have ready := (pump n start).1
    simp only [fallbackReady, Bool.and_eq_true, beq_iff_eq] at ready
    obtain ⟨⟨⟨⟨⟨⟨⟨⟨⟨⟨fault, idle⟩, -⟩, -⟩, -⟩, -⟩, -⟩, -⟩, -⟩, -⟩, -⟩ := ready
    exact ⟨rfl, fault, idle⟩
  · exact ⟨fun n start => absurd (unstarted.starts start) n,
      fun n start => absurd (unstarted.rakeRuns start) n⟩

theorem taken_staysFaulted {can : Bool} {f : State → State} (p : s.duty.pump = .faulted)
    (h : taken can f s = .next t) (k : can = true → StaysFaulted s (f s)) : FaultHeld s t := by
  rcases taken_cases h with ⟨-, rfl⟩ | ⟨can, rfl⟩
  · exact .inl p
  · exact .inl ((k can).trans (settle_staysFaulted _) p).1

/-- A FAULTED pump stays so under every command but RESET, or has its cause set in NORMAL. -/
theorem exec_faultHeld {c : Instr} (g : Good s) (ne : c ≠ .reset) (p : s.duty.pump = .faulted)
    (h : exec c s = .next t) : FaultHeld s t := by
  obtain ⟨inputs, -, mode, -⟩ := id g
  rcases exec_steady h with unruly | steady
  · cases unruly with
    | reset => exact absurd rfl ne
    | tick pins straps =>
      unfold exec execTick at h
      exact taken_staysFaulted p h fun _ => tickStep_staysFaulted mode pins straps
    | fallbackStart =>
      unfold exec execFallbackStart at h
      refine taken_staysFaulted p h fun ready => .of_sound fun f => ?_
      simp [fallbackReady, f] at ready
    | pauseTimerExpiry =>
      unfold exec execPauseTimerExpiry at h
      exact taken_staysFaulted p h fun _ f => ⟨f, List.Subset.refl _⟩
    | ackBtn =>
      unfold exec execInputAcceptedChange at h
      exact taken_releases g p h (answerAckBtn_rests inputs.1).releases
    | syncAttemptFail =>
      unfold exec execSyncAttemptFail at h
      exact taken_releases g p h (failSync_rests s).releases
    | ownAddressIsolate =>
      unfold exec execOwnAddressIsolate at h
      exact taken_releases g p h (enterIsolated_rests s).releases
    | presenceFault =>
      unfold exec execPresenceFault at h
      exact taken_releases g p h (enterLineFault_rests s).releases
    | jabberTrip n =>
      unfold exec execJabberTrip at h
      exact taken_releases g p h ((setLine_rests s _).trans (enterIsolated_rests _)).releases
    | stuckCondition n =>
      unfold exec execStuckCondition at h
      exact taken_releases g p h (becomeStuck_rests n s).releases
    | goodFrameEnd run cells =>
      unfold exec execGoodFrameEnd at h
      exact taken_releases g p h (frameEnd_releases cells s)
  · exact .inl (steady.faulted p).1

/-- Settles O58: a fault is left through an acknowledgment alone, and the pump's mode invariant empties
the cause set. -/
theorem faultsAreAcknowledged : Obligations.FaultsAreAcknowledged := by
  intro c s t g ne h p left
  obtain ⟨-, -, ⟨-, -, -, -, -, faulted, -⟩, -⟩ := exec_plantSafe g h
  exact ⟨not_not.1 (mt faulted.2 left), (exec_faultHeld g ne p h).resolve_left left⟩

end Sys2Proof.Machine
end

section
/-! O38, O39 and O10. The pump's timers, its faults and THERMAL. -/

namespace Sys2Proof.Machine

open Sys2Proof

variable {s t u : State}

/-! ### The minimum off and inrush timers -/

/-- A LOCKED_OFF pump has its contactor open. -/
theorem PumpSafe.open_of_lockedOff (p : PumpSafe s) (off : s.duty.pump = .lockedOff) :
    s.duty.contactor = false := by
  obtain ⟨closed, -⟩ := p
  refine Bool.eq_false_iff.2 fun c => ?_
  simpa [off] using (closed c).1

/-- The minimum off timer's expiry (R63) in LOCKED_OFF, the loader finished. -/
theorem minOffStep_of_lockedOff (off : s.duty.pump = .lockedOff) (l : loaded s = true) :
    minOffStep s = enterIdle (setDuty s { s.duty with minOff := none }) :=
  if_pos ⟨off, l⟩

theorem minOffStep_of_other (other : ¬(s.duty.pump = .lockedOff ∧ loaded s = true)) :
    minOffStep s = setDuty s { s.duty with minOff := none } :=
  if_neg other

theorem PumpSafe.endMinOff (p : PumpSafe s) : PumpSafe (setDuty s { s.duty with minOff := none }) := p

/-- The inrush timer's expiry (R61, R66) in STARTING, confirmed. -/
theorem inrushStep_of_confirmed (start : s.duty.pump = .starting) (confirmed : s.duty.confirmed = true) :
    inrushStep s = enterRunning (setDuty s { s.duty with inrush := none }) :=
  if_pos ⟨start, confirmed⟩

theorem inrushStep_of_other (other : ¬(s.duty.pump = .starting ∧ s.duty.confirmed = true)) :
    inrushStep s = setDuty s { s.duty with inrush := none } :=
  if_neg other

theorem PumpSafe.endInrush (p : PumpSafe s) : PumpSafe (setDuty s { s.duty with inrush := none }) := by
  obtain ⟨closed, run, hand, idle, yielding, blocked, -, rest⟩ := p
  exact ⟨closed, run, hand, idle, yielding, blocked, fun n => absurd rfl n, rest⟩

/-- A confirmed start enters RUNNING safely. -/
theorem PumpSafe.enterRunning (p : PumpSafe s) (start : s.duty.pump = .starting)
    (confirmed : s.duty.confirmed = true) : PumpSafe (enterRunning s) := by
  obtain ⟨closed, run, hand, idle, yielding, blocked, inrush, minRun, confirm, runLoss, -, screen⟩ := p
  have shut := run (.inl start)
  obtain ⟨-, hold⟩ := closed shut
  have unblocked : s.duty.changeoverBlocked ≠ true := fun b => by
    simpa [start] using yielding (blocked b)
  exact ⟨fun _ => ⟨.inr (.inl rfl), hold⟩, fun _ => shut, nofun,
    (by rintro (e | e) <;> exact nomatch e), fun _ => rfl, fun b => absurd b unblocked, inrush, fun _ => .inr rfl,
    fun c => absurd ((confirm c).2.symm.trans confirmed) nofun, runLoss, fun _ => .inr rfl,
    fun blocked => absurd start (screen blocked).1⟩

/-- A pump in STARTING does not yield (R76). -/
theorem PumpSafe.notYielding (p : PumpSafe s) (start : s.duty.pump = .starting) :
    s.duty.yielding = false := by
  obtain ⟨-, -, -, -, yielding, -⟩ := p
  exact Bool.eq_false_iff.2 fun y => by simpa [start] using yielding y

/-- Settles O38: each timer stops, and where its condition stands the pump moves on. -/
theorem offAndInrushExpire : Obligations.OffAndInrushExpire := by
  refine ⟨fun s n p r minOff long => ?_, fun s n p r inrush long => ?_⟩
  · have can : reached s.duty.minOff (secondsTicks s.cfg.tMinOff) = true :=
      (reached_iff _ _).2 ⟨n, minOff, long⟩
    unfold exec execMinOffExpiry
    refine ⟨_, taken_of_can minOffStep s can, fun ⟨off, l⟩ => ?_, fun other => ?_⟩
    · have unrun := p.endMinOff.unrun (p.open_of_lockedOff off)
      rw [minOffStep_of_lockedOff off l]
      refine settle_follows (s := enterIdle (setDuty s { s.duty with minOff := none })) ?_ r
      exact Unrun.safe (s := enterIdle (setDuty s { s.duty with minOff := none })) unrun nofun nofun nofun
        fun _ => l
    · rw [minOffStep_of_other other]
      exact settle_follows p.endMinOff r
  · have can : reached s.duty.inrush (secondsTicks s.cfg.tInrush) = true :=
      (reached_iff _ _).2 ⟨n, inrush, long⟩
    unfold exec execInrushTimerExpiry
    refine ⟨_, taken_of_can inrushStep s can, fun ⟨start, confirmed⟩ => ?_, fun other => ?_⟩
    · have runs : enterRunning (setDuty s { s.duty with inrush := none }) = { s with duty := { s.duty with
          inrush := none, pump := .running
          yielding := decide (0 < s.cfg.tMaxRun ∧ s.cfg.tMaxRun * 6000 ≤ s.duty.contRun) } } := by
        simp [enterRunning, setDuty, minutesTicks, p.notYielding start]
      rw [inrushStep_of_confirmed start confirmed, ← runs]
      exact settle_follows (p.endInrush.enterRunning start confirmed) r
    · rw [inrushStep_of_other other]
      exact settle_follows p.endInrush r

/-! ### The faults of a run -/

/-- An entry to FAULTED from a closed contactor (R62, R64). -/
theorem enterFaulted_of_closed (c : AlarmCode) (shut : s.duty.contactor = true) :
    enterFaulted c s = { s with duty := { s.duty with
      pump := .faulted, contactor := false
      causes := if s.duty.causes.contains c then s.duty.causes else s.duty.causes ++ [c]
      minOff := if s.cfg.tMinOff = 0 then none else some 0
      inrush := none, confirm := none, runLoss := none, minRun := none, contRun := 0
      confirmed := false, yielding := false, changeover := 0, changeoverBlocked := false } } := by
  unfold enterFaulted
  rw [openContactor_of_closed shut]
  rfl

/-- An entry to FAULTED leaves nothing of a run. -/
theorem enterFaulted_safe (c : AlarmCode) (p : PumpSafe s) (same : t.duty = s.duty) :
    PumpSafe (enterFaulted c t) := by
  obtain ⟨contactor, inrush, confirm, runLoss, minRun, confirmed, -, -⟩ := openContactor_unrun p same
  exact Unrun.safe (s := enterFaulted c t)
    ⟨contactor, inrush, confirm, runLoss, minRun, confirmed, rfl, rfl⟩ nofun nofun nofun
    (by rintro (e | e) <;> exact nomatch e)

/-- A run whose confirmation is awaited or lost has its contactor closed. -/
theorem PumpSafe.closed_of_confirm (p : PumpSafe s) (run : s.duty.confirm ≠ none ∨ s.duty.runLoss ≠ none) :
    s.duty.contactor = true := by
  obtain ⟨-, shut, -, -, -, -, -, -, confirm, runLoss, confirmed, -⟩ := p
  rcases run with n | n
  · exact shut (.inl (confirm n).1)
  · exact shut (confirmed (runLoss n))

/-- A fault raised in a run, with its pulse (R119), leads to what its effect makes. -/
theorem fault_follows {can : Bool} {c : AlarmCode} {a : Alarms} {f : State → State} (yes : can = true)
    (effect : f s = enterFaulted c { s with alarms := a }) (p : PumpSafe s) (r : RakeSafe s)
    (shut : s.duty.contactor = true) :
    ∃ t, taken can f s = .next t ∧ Follows { s with
      alarms := a
      duty := { s.duty with
        pump := .faulted, contactor := false
        causes := if s.duty.causes.contains c then s.duty.causes else s.duty.causes ++ [c]
        minOff := if s.cfg.tMinOff = 0 then none else some 0
        inrush := none, confirm := none, runLoss := none, minRun := none, contRun := 0
        confirmed := false, yielding := false, changeover := 0, changeoverBlocked := false } } t := by
  have safe : PumpSafe (enterFaulted c { s with alarms := a }) := enterFaulted_safe c p rfl
  have made := enterFaulted_of_closed (s := { s with alarms := a }) c shut
  refine ⟨_, taken_of_can f s yes, ?_⟩
  rw [made] at safe effect
  rw [effect]
  exact settle_follows safe r

/-- Settles O39: both faults come in a run, whose contactor is closed. -/
theorem startFailsRunLost : Obligations.StartFailsRunLost := by
  refine ⟨fun s n p r confirm long => ?_, fun s n p r runLoss long => ?_⟩
  · unfold exec execConfirmTimerExpiry
    exact fault_follows ((reached_iff _ _).2 ⟨n, confirm, long⟩) rfl p r
      (p.closed_of_confirm (.inl (by simp [confirm])))
  · unfold exec execRunLossExpiry
    exact fault_follows ((reached_iff _ _).2 ⟨n, runLoss, long⟩) rfl p r
      (p.closed_of_confirm (.inr (by simp [runLoss])))

/-! ### THERMAL -/

/-- With the stop hold in force and the contactor open a pump out of STARTING and RUNNING is left as it is
by the closing work. -/
theorem settle_duty_of_held (hold : stopHold s = true) (contactor : s.duty.contactor = false)
    (starting : s.duty.pump ≠ .starting) (running : s.duty.pump ≠ .running) :
    (settle s).duty = s.duty := by
  rw [settle_duty]
  simp [applyHold, hold, starting, running, openContactor_of_open contactor]

/-- An entry to FAULTED (R62, R64), whatever the contactor. -/
theorem enterFaulted_duty (c : AlarmCode) (s : State) : (enterFaulted c s).duty =
    clearYielding { (openContactor s).duty with
      pump := .faulted, causes := addCause (openContactor s).duty.causes c } := rfl

theorem openContactor_starts_window (s : State) : (openContactor s).duty.starts = s.duty.starts
    ∧ (openContactor s).duty.window = s.duty.window := by
  unfold openContactor
  split <;> exact ⟨rfl, rfl⟩

/-- Settles O10: the trip opens the contactor, and the closing work finds it open. -/
theorem thermalTrips : Obligations.ThermalTrips := by
  rintro s ⟨n, -⟩ due quiet
  have active : isActive (accept .thermal s) .thermal = true := by
    rw [isActive_accept_same n, quiet]
    rfl
  have answer : answerInput .thermal (accept .thermal s)
      = enterFaulted .thermalTrip (accept .thermal s) := if_pos active
  have tripped := enterFaulted_onlyDuty .thermalTrip (accept .thermal s)
  have hold : stopHold (enterFaulted .thermalTrip (accept .thermal s)) = true := by
    rw [stopHold_congr tripped.station.isActive tripped.onlyPlant.line]
    simp [stopHold, active]
  obtain ⟨-, contactor, -⟩ := enterFaulted_spec .thermalTrip (accept .thermal s)
  have duty := settle_duty_of_held hold contactor nofun nofun
  obtain ⟨starts, window⟩ := openContactor_starts_window (accept .thermal s)
  unfold exec execInputAcceptedChange
  refine ⟨_, taken_of_can (fun s => answerInput .thermal (accept .thermal s)) s due, ?_⟩
  rw [answer, duty, enterFaulted_duty]
  refine ⟨rfl, openContactor_contactor _, rfl, ?_, fun shut => ?_, openContactor_mode _, starts, window⟩
  · show addCause (openContactor (accept .thermal s)).duty.causes .thermalTrip = _
    rw [openContactor_causes]
    rfl
  · rw [openContactor_of_closed (s := accept .thermal s) shut]
    exact ⟨rfl, rfl, rfl, rfl, rfl, rfl⟩

end Sys2Proof.Machine
end

section
/-! O5. The invariants after reset. -/

namespace Sys2Proof.Machine

open Sys2Proof

/-- After reset no alarm condition stands (R117). -/
theorem rawCondition_reset (c : AlarmCode) : rawCondition State.reset c = false := by
  cases c <;> decide

theorem recordOf_reset (c : AlarmCode) : recordOf State.reset c = AlarmRecord.reset := by
  cases c <;> rfl

theorem reset_alarmSafe : AlarmSafe State.reset := by
  refine ⟨rfl, fun c _ => ?_⟩
  unfold RecordSafe
  rw [rawCondition_reset, recordOf_reset]
  exact ⟨rfl, nofun, nofun, nofun, fun _ => ⟨rfl, rfl⟩, Nat.zero_le _, fun _ => rfl⟩

theorem reset_panelSafe : PanelSafe State.reset :=
  ⟨rfl, by decide, by decide, nofun, fun _ => rfl⟩

theorem reset_queueSafe : QueueSafe State.reset :=
  ⟨Nat.zero_le _, rfl, nofun, Nat.zero_le _, nofun, fun _ _ => Nat.zero_le _, Nat.zero_le _⟩

theorem reset_reporterSafe : ReporterSafe State.reset :=
  ⟨fun _ => ⟨rfl, rfl, rfl, rfl, rfl, rfl, rfl⟩, by decide, fun n => absurd rfl n, Nat.zero_le _,
    Nat.zero_le _, Nat.zero_le _, Nat.zero_le _, by decide, by decide, ⟨rfl, rfl⟩, nofun, fun _ => rfl⟩

/-- Settles O5: the plant is safe after reset, no alarm stands, and every queue is empty. -/
theorem goodAtReset : Obligations.GoodAtReset := by
  obtain ⟨inputs, pump, mode, window, rake, line, settings, stage, ovf, changeover⟩ := reset_plantSafe
  exact ⟨inputs, pump, mode, window, rake, line, settings, stage, ovf, reset_alarmSafe, reset_panelSafe,
    reset_queueSafe, reset_reporterSafe, changeover⟩

end Sys2Proof.Machine
end

section
/-! O30. The COMMAND rows. -/

namespace Sys2Proof.Machine

open Sys2Proof

variable {s t u : State}

/-! ### A COMMAND answered -/

/-- A COMMAND answered in a safe state leads to what handing its result makes; the pump is the one that
the command left (R142). -/
theorem answerCommand_follows (code result : Nat) (p : PumpSafe s) (r : RakeSafe s) :
    (settle (answerCommand code result s)).duty = s.duty
      ∧ (settle (answerCommand code result s)).notices.command = none
      ∧ Follows (handNotice { s with notices := { s.notices with command := none } }
        (newEntry .commandResult (ownAddress s) code result 0 true))
        (settle (answerCommand code result s)) := by
  have house := answerCommand_onlyHouse code result s
  have handed : OnlyNotices { s with notices := { s.notices with command := none } }
      (answerCommand code result s) := handNotice_onlyNotices _ _
  have safe := house.pumpSafe p
  refine ⟨(settle_duty_of_safe safe).trans house.duty, ?_, settle_follows safe (house.rakeSafe r)⟩
  rw [settle_received]
  exact (congrArg (·.notices.command) handed).trans rfl

/-! ### The inhibit flag -/

/-- The inhibit flag set on a pump in AUTO that is not FAULTED (R84): it goes out of service, its
contactor open. -/
theorem setInhibit_of_auto (p : PumpSafe s) (m : ModeSafe s) (auto : s.duty.mode = .auto)
    (sound : s.duty.pump ≠ .faulted) : setInhibit s = { s with duty :=
      { (if s.duty.contactor then { s.duty with
          contactor := false, minOff := if s.cfg.tMinOff = 0 then none else some 0
          inrush := none, confirm := none, runLoss := none, minRun := none, contRun := 0
          confirmed := false, yielding := false, changeover := 0
          changeoverBlocked := false }
        else s.duty) with inhibit := true, pump := .outOfService } } := by
  obtain ⟨closed, -⟩ := p
  obtain ⟨-, -, notHand, -⟩ := m
  replace notHand := notHand auto
  unfold setInhibit
  by_cases out : s.duty.pump = .outOfService
  · have contactor : s.duty.contactor = false :=
      Bool.eq_false_iff.2 fun c => by simpa [out] using (closed c).1
    simp [auto, out, contactor, setDuty]
  · have acts : s.duty.pump = .idle ∨ s.duty.pump = .startWait ∨ s.duty.pump = .lockedOff
        ∨ s.duty.pump = .starting ∨ s.duty.pump = .running := by
      cases e : s.duty.pump <;> simp_all
    rw [if_pos (by simpa [auto, setDuty, or_assoc] using acts)]
    unfold enterOutOfService openContactor setPump
    cases c : s.duty.contactor <;> simp [setDuty, c, clearYielding, startedMinOff]

/-- Elsewhere the flag alone is set. -/
theorem setInhibit_of_other (other : ¬(s.duty.mode = .auto ∧ s.duty.pump ≠ .faulted)) :
    setInhibit s = setDuty s { s.duty with inhibit := true } := by
  unfold setInhibit
  refine if_neg fun acts => other ?_
  simp only [setDuty, Bool.and_eq_true, Bool.or_eq_true, beq_iff_eq] at acts
  obtain ⟨auto, pump⟩ := acts
  exact ⟨auto, fun f => by simp [f] at pump⟩

theorem PumpSafe.setInhibit (p : PumpSafe s) : PumpSafe (setInhibit s) := by
  have flag : PumpSafe (setDuty s { s.duty with inhibit := true }) := p
  unfold Machine.setInhibit
  dsimp only
  split
  · exact enterOutOfService_safe flag
  · exact flag

/-- The inhibit flag cleared on a pump in AUTO out of service (R84): locked off, or through to IDLE. -/
theorem clearInhibit_of_out (p : PumpSafe s) (auto : s.duty.mode = .auto)
    (out : s.duty.pump = .outOfService) : clearInhibit s = { s with
      duty := if s.duty.minOff = none ∧ loaded s = true then { s.duty with
        inhibit := false, pump := .idle
        fallbackDelay := if s.stager.localCall then
          if ownAddress s = 0 then .expired else .running 0
          else s.duty.fallbackDelay }
      else { s.duty with inhibit := false, pump := .lockedOff } } := by
  obtain ⟨closed, -⟩ := p
  have contactor : s.duty.contactor = false :=
    Bool.eq_false_iff.2 fun c => by simpa [out] using (closed c).1
  have shut := openContactor_of_open (s := setDuty s { s.duty with inhibit := false }) contactor
  have acts : clearInhibit s = enterLockedOff (setDuty s { s.duty with inhibit := false }) :=
    if_pos (by simp [setDuty, auto, out])
  rw [acts]
  obtain ⟨e, held⟩ | ⟨e, free⟩ := enterLockedOff_cases (setDuty s { s.duty with inhibit := false })
  · rw [shut] at e held
    rw [e, if_neg (fun free : s.duty.minOff = none ∧ loaded s = true => held free)]
    rfl
  · rw [shut] at e free
    rw [e, if_pos (show s.duty.minOff = none ∧ loaded s = true from free)]
    rfl

/-- Elsewhere the flag alone is cleared. -/
theorem clearInhibit_of_other (other : ¬(s.duty.mode = .auto ∧ s.duty.pump = .outOfService)) :
    clearInhibit s = setDuty s { s.duty with inhibit := false } :=
  if_neg (by simpa [setDuty] using other)

theorem PumpSafe.clearInhibit (p : PumpSafe s) : PumpSafe (clearInhibit s) := by
  have flag : PumpSafe (setDuty s { s.duty with inhibit := false }) := p
  unfold Machine.clearInhibit
  dsimp only
  split
  · exact enterLockedOff_safe flag rfl
  · exact flag

/-- An operation on the pump that leaves the mode leaves a safe rake safe. -/
theorem OnlyDuty.rakeSafe (h : OnlyDuty s t) (mode : t.duty.mode = s.duty.mode) (r : RakeSafe s) :
    RakeSafe t :=
  r.congr h.screen (rakeStop_congr h.station.isActive h.onlyPlant.line mode) h.station.loaded

/-- Settles O30: the three rows, each by the state that its flag leaves. -/
theorem commandsApplied : Obligations.CommandsApplied := by
  refine ⟨fun s p r m command => ?_, fun s p r m command => ?_, fun s code p r command one two => ?_⟩
  · unfold exec execCommandSetInhibit
    refine ⟨_, taken_of_can (fun s => answerCommand 1 0 (setInhibit s)) s (by simp [command]), ?_⟩
    have safe := p.setInhibit
    by_cases acts : s.duty.mode = .auto ∧ s.duty.pump ≠ .faulted
    · have e := setInhibit_of_auto p m acts.1 acts.2
      have rake := (setInhibit_onlyDuty s).rakeSafe (by rw [e]; dsimp only; split <;> rfl) r
      obtain ⟨duty, none, follows⟩ := answerCommand_follows 1 0 safe rake
      rw [if_pos acts, if_pos acts]
      rw [e] at duty none follows ⊢
      refine ⟨by rw [duty], none, by rw [duty], fun _ => ?_, follows⟩
      rw [duty]
      cases c : s.duty.contactor <;> simp [c]
    · have e := setInhibit_of_other acts
      have rake := (setInhibit_onlyDuty s).rakeSafe (by rw [e]; rfl) r
      obtain ⟨duty, none, follows⟩ := answerCommand_follows 1 0 safe rake
      rw [if_neg acts, if_neg acts]
      rw [e] at duty none follows ⊢
      refine ⟨by rw [duty]; rfl, none, by rw [duty]; rfl, fun auto => ?_, follows⟩
      have f : s.duty.pump = .faulted := not_not.1 fun sound => acts ⟨auto, sound⟩
      rw [duty]
      exact Bool.eq_false_iff.2 fun c => by simpa [f] using (p.1 c).1
  · unfold exec execCommandClearInhibit
    refine ⟨_, taken_of_can (fun s => answerCommand 2 0 (clearInhibit s)) s (by simp [command]), ?_⟩
    have safe := p.clearInhibit
    by_cases acts : s.duty.mode = .auto ∧ s.duty.pump = .outOfService
    · have e := clearInhibit_of_out p acts.1 acts.2
      have rake := (clearInhibit_onlyDuty s).rakeSafe (by rw [e]; dsimp only; split <;> rfl) r
      obtain ⟨duty, none, follows⟩ := answerCommand_follows 2 0 safe rake
      rw [if_pos acts, if_pos acts]
      rw [e] at duty none follows ⊢
      refine ⟨?_, none, ?_, follows⟩ <;> rw [duty] <;> split <;> rfl
    · have e := clearInhibit_of_other acts
      have rake := (clearInhibit_onlyDuty s).rakeSafe (by rw [e]; rfl) r
      obtain ⟨duty, none, follows⟩ := answerCommand_follows 2 0 safe rake
      rw [if_neg acts, if_neg acts]
      rw [e] at duty none follows ⊢
      exact ⟨by rw [duty]; rfl, none, by rw [duty]; rfl, follows⟩
  · unfold exec execCommandOtherCode
    have answered : answerCommand (s.notices.command.getD 0) 1 s = answerCommand code 1 s := by
      rw [command]
      rfl
    refine ⟨_, taken_of_can (fun s => answerCommand (s.notices.command.getD 0) 1 s) s
      (by simp [command, one, two]), ?_⟩
    rw [answered]
    exact (answerCommand_follows code 1 p r).2.2

end Sys2Proof.Machine
end

section
/-! SUPPORT. What the Duty Controller decides on the pump at a good frame end. -/

namespace Sys2Proof.Machine

open Sys2Proof

variable {s t u : State} {won : Bool} {c : CommonCells}

/-! ### The state that it decides in -/

/-- The Duty Controller's part of a good frame end leaves the books of one. -/
theorem dutyFrame_frameBooks (won : Bool) (c : CommonCells) (s : State) :
    FrameBooks c s (dutyFrame won c s) := by
  have k := dutyFrame_onlyDuty won c s
  exact ⟨k.onlyPlant.line, k.station.straps, k.onlyClosing.stager, dutyFrame_keepsBooks won c s⟩

/-- What is formed at a good frame end leaves the pump with its contactor, timers and counts. -/
theorem formed_keeps (c : CommonCells) (s : State) :
    (formed c s).duty.contactor = s.duty.contactor ∧ (formed c s).duty.minRun = s.duty.minRun
      ∧ (formed c s).duty.yielding = s.duty.yielding ∧ (formed c s).duty.window = s.duty.window
      ∧ (formed c s).duty.starts = s.duty.starts := by
  rw [formed_duty]
  exact ⟨rfl, rfl, rfl, rfl, rfl⟩

theorem formed_supplyQuiet (c : CommonCells) (s : State) : (formed c s).duty.supplyQuiet =
    if c.supplyLow then 0 else satSucc 51 s.duty.supplyQuiet := by
  rw [formed_duty]
  rfl

theorem available_of_duty (k : OnlyDuty s t) (pump : t.duty.pump = s.duty.pump)
    (window : t.duty.window = s.duty.window) (inhibit : t.duty.inhibit = s.duty.inhibit) :
    available t = available s := by
  unfold available windowFull moistureBars
  rw [pump, window, inhibit, k.onlyPlant.line, k.screen, k.station.cfg, k.station.isActive]

/-- Availability at a frame end (R68) rests on nothing that the frame end forms. -/
theorem formed_availableAtEnd (c : CommonCells) (s : State) :
    (formed c s).duty.availableAtEnd = available s := by
  obtain ⟨-, -, -, window, -⟩ := formed_keeps c s
  have inhibit : (formed c s).duty.inhibit = s.duty.inhibit := by
    rw [formed_duty]
    rfl
  have own : (formed c s).duty.availableAtEnd = available (formed c s) := by
    unfold formed
    exact (available_of_duty (setDuty_onlyDuty _ _) rfl rfl rfl).symm
  rw [own]
  exact available_of_duty (formed_onlyDuty c s) (formed_pump c s) window inhibit

theorem formed_stopHold (c : CommonCells) (s : State) : stopHold (formed c s) = stopHold s :=
  stopHold_congr (formed_onlyDuty c s).station.isActive (formed_line c s)

theorem formed_minRunExpired (c : CommonCells) (s : State) :
    minRunExpired (formed c s) = minRunExpired s := by
  obtain ⟨-, minRun, -⟩ := formed_keeps c s
  unfold minRunExpired
  rw [minRun, (formed_onlyDuty c s).station.cfg]

/-- The bay is called to start (R72): its start condition holds and it is available. -/
def called (v : State) : Bool := startCondition v && v.duty.availableAtEnd

theorem startCondition_iff (v : State) : startCondition v = true
    ↔ ∃ i, v.duty.index = some i ∧ i + v.duty.runningCount < v.stager.dEff := by
  unfold startCondition
  cases v.duty.index with
  | none => simp
  | some i =>
    simp only [Bool.and_eq_true, decide_eq_true_eq, Option.some.injEq, exists_eq_left']
    omega

theorem called_formed_iff (h : FrameBooks c s t) : called (formed c s) = true ↔ IsAvailable s
    ∧ ∃ i, t.duty.index = some i ∧ i + t.duty.runningCount < s.stager.dEff := by
  have index : t.duty.index = (formed c s).duty.index := congrArg (·.index) h.work.books
  have running : t.duty.runningCount = (formed c s).duty.runningCount :=
    congrArg (·.runningCount) h.work.books
  rw [index, running, ← (formed_onlyDuty c s).onlyClosing.stager, ← available_iff,
    ← formed_availableAtEnd c s, ← startCondition_iff, called, Bool.and_eq_true, and_comm]

/-- The cells and counts clear for a won claim (R74), in the words of the frame. -/
theorem startClear_formed_iff (c : CommonCells) (s : State) : startClear c (formed c s) = true ↔
    c.inrush = false ∧ c.supplyLow = false ∧ c.allStop = false ∧ c.dry = false
      ∧ 50 ≤ s.duty.supplyQuiet ∧ stopHold s = false := by
  have quiet : c.supplyLow = false →
      ((formed c s).duty.supplyQuiet = 51 ↔ 50 ≤ s.duty.supplyQuiet) := fun low => by
    rw [formed_supplyQuiet, low]
    simp only [Bool.false_eq_true, if_false, satSucc]
    omega
  simp only [startClear, formed_stopHold, Bool.and_eq_true, Bool.not_eq_true', beq_iff_eq, and_assoc]
  exact and_congr_right fun _ => and_congr_right fun low => by rw [quiet low]

/-! ### The decisions -/

theorem dutyFrame_duty (won : Bool) (c : CommonCells) (s : State) :
    (dutyFrame won c s).duty
      = { (decided won c (formed c s)).duty with prevBusy := busyNow (formed c s) } := by
  rw [dutyFrame_eq]
  rfl

theorem decided_of_joined (m : s.line.mode = .joined) : decided won c s = pumpWork won c (leadWork s) := by
  unfold decided
  rw [m]

theorem decided_of_listen (m : s.line.mode = .listen) : decided won c s = listenStop s := by
  unfold decided
  rw [m]

theorem decided_of_apart (m : s.line.mode = .isolated ∨ s.line.mode = .lineFault) :
    decided won c s = s := by
  unfold decided
  rcases m with m | m <;> rw [m]

/-- No decision on the pump is due: in JOINED it neither waits nor runs, in LISTEN it does not run. -/
structure Undecided (s : State) : Prop where
  joined : s.line.mode = .joined → s.duty.pump ≠ .idle ∧ s.duty.pump ≠ .startWait
    ∧ s.duty.pump ≠ .running
  listen : s.line.mode = .listen → s.duty.pump ≠ .starting ∧ s.duty.pump ≠ .running

/-- A pump that has no decision to take is left as it is. -/
theorem decided_of_undecided (h : Undecided s) : (decided won c s).duty.pump = s.duty.pump
    ∧ (decided won c s).duty.contactor = s.duty.contactor := by
  cases m : s.line.mode with
  | joined =>
    obtain ⟨idle, wait, running⟩ := h.joined m
    rw [decided_of_joined m]
    unfold pumpWork
    split
    · exact absurd ‹_› wait
    · exact absurd ‹_› idle
    · exact absurd ‹_› running
    all_goals exact ⟨rfl, rfl⟩
  | listen =>
    obtain ⟨starting, running⟩ := h.listen m
    have stops : stopAutomatic s = s := by
      obtain ⟨run, -⟩ | ⟨-, e⟩ := stopAutomatic_cases s
      · exact (run.elim starting running).elim
      · exact e
    rw [decided_of_listen m, listenStop, stops, ite_self]
    exact ⟨rfl, rfl⟩
  | isolated =>
    rw [decided_of_apart (.inl m)]
    exact ⟨rfl, rfl⟩
  | lineFault =>
    rw [decided_of_apart (.inr m)]
    exact ⟨rfl, rfl⟩

/-- An entry to LOCKED_OFF from a closed contactor (R63), before the loader's finish too. -/
theorem enterLockedOff_from_closed (shut : s.duty.contactor = true) :
    (enterLockedOff s).duty.contactor = false
      ∧ (enterLockedOff s).duty.minOff = (if s.cfg.tMinOff = 0 then none else some 0)
      ∧ (enterLockedOff s).duty.pump
        = if s.cfg.tMinOff = 0 ∧ loaded s = true then .idle else .lockedOff := by
  have opened := openContactor_of_closed shut
  have minOff : (openContactor s).duty.minOff = if s.cfg.tMinOff = 0 then none else some 0 := by
    rw [opened]
    rfl
  have none_iff : (openContactor s).duty.minOff = none ↔ s.cfg.tMinOff = 0 := by
    rw [minOff]
    split <;> simp [*]
  have contactor := openContactor_contactor s
  rcases enterLockedOff_cases s with ⟨e, held⟩ | ⟨e, free⟩
  · rw [none_iff] at held
    rw [e, if_neg held]
    exact ⟨contactor, minOff, rfl⟩
  · rw [none_iff] at free
    rw [e, if_pos free]
    exact ⟨contactor, minOff, rfl⟩

/-! ### START_WAIT and IDLE in JOINED -/

theorem decided_of_idle (m : s.line.mode = .joined) (idle : s.duty.pump = .idle) :
    (decided won c s).duty.pump = (if called s then .startWait else .idle)
      ∧ (decided won c s).duty.contactor = s.duty.contactor := by
  have work : decided won c s = if called s then setPump (leadWork s) .startWait else leadWork s := by
    rw [decided_of_joined m]
    unfold pumpWork
    rw [show (leadWork s).duty.pump = .idle from idle]
    rfl
  rw [work]
  split
  · exact ⟨rfl, rfl⟩
  · exact ⟨idle, rfl⟩

theorem decided_of_wait (m : s.line.mode = .joined) (wait : s.duty.pump = .startWait) :
    decided won c s = if called s then
      if won && startClear c s then startPump (leadWork s) else leadWork s
    else enterIdle (leadWork s) := by
  rw [decided_of_joined m]
  unfold pumpWork
  rw [show (leadWork s).duty.pump = .startWait from wait]
  rfl

/-- A pump started from `s` (R66): the contactor closed, the timers of a run started, a stamp and a start
added. -/
structure Started (s : State) (d : Duty) : Prop where
  pump : d.pump = .starting
  contactor : d.contactor = true
  inrush : d.inrush = some 0
  minRun : d.minRun = some 0
  contRun : d.contRun = 0
  confirmed : d.confirmed = isActive s .runConfirm
  confirm : d.confirm = if isActive s .runConfirm then none else some 0
  starts : d.starts = min (s.duty.starts + 1) 65535
  window : d.window = if s.cfg.startsPerHour = 0 then s.duty.window
    else s.duty.window ++ [s.time.seconds]

theorem startPump_started (s : State) : Started s (startPump s).duty :=
  ⟨rfl, rfl, rfl, rfl, rfl, rfl, rfl, rfl, rfl⟩

/-- What a start rests on beside the pump's own state. -/
theorem Started.of_same {d : Duty} (h : Started s d) (input : isActive s = isActive t)
    (duty : s.duty.starts = t.duty.starts ∧ s.duty.window = t.duty.window) (cfg : s.cfg = t.cfg)
    (time : s.time = t.time) : Started t d := by
  obtain ⟨pump, contactor, inrush, minRun, contRun, confirmed, confirm, starts, window⟩ := h
  rw [input] at confirmed confirm
  rw [duty.1] at starts
  rw [duty.2, cfg, time] at window
  exact ⟨pump, contactor, inrush, minRun, contRun, confirmed, confirm, starts, window⟩

/-- A won claim on clear cells starts a pump that is called (R74). -/
theorem dutyFrame_started (m : s.line.mode = .joined) (wait : s.duty.pump = .startWait)
    (call : called (formed c s) = true) (go : (won && startClear c (formed c s)) = true) :
    Started s (dutyFrame won c s).duty := by
  have k := formed_onlyDuty c s
  have decision := decided_of_wait (won := won) (c := c) (s := formed c s)
    (by rw [formed_line, m]) (by rw [formed_pump, wait])
  rw [if_pos call, if_pos go] at decision
  have started : Started (formed c s) (startPump (leadWork (formed c s))).duty :=
    (startPump_started (leadWork (formed c s))).of_same rfl ⟨rfl, rfl⟩ rfl rfl
  obtain ⟨-, -, -, window, starts⟩ := formed_keeps c s
  have same := started.of_same (t := s) (funext k.station.isActive) ⟨starts, window⟩ k.station.cfg
    k.onlyClosing.time
  rw [dutyFrame_duty, decision]
  exact ⟨same.pump, same.contactor, same.inrush, same.minRun, same.contRun, same.confirmed, same.confirm,
    same.starts, same.window⟩

/-- A pump called without a won claim on clear cells stays in START_WAIT; one not called goes to IDLE
(R72, R74). -/
theorem dutyFrame_waits (m : s.line.mode = .joined) (wait : s.duty.pump = .startWait)
    (no : called (formed c s) = false ∨ (won && startClear c (formed c s)) = false) :
    (dutyFrame won c s).duty.pump = (if called (formed c s) then .startWait else .idle)
      ∧ (dutyFrame won c s).duty.contactor = s.duty.contactor := by
  have pump := formed_pump c s
  obtain ⟨contactor, -⟩ := formed_keeps c s
  rw [dutyFrame_duty, decided_of_wait (by rw [formed_line, m]) (by rw [pump, wait])]
  split
  · rename_i call
    rw [if_neg (Bool.eq_false_iff.1 (no.resolve_left (by simp [call])))]
    exact ⟨pump.trans wait, contactor⟩
  · exact ⟨rfl, contactor⟩

theorem dutyFrame_idle (m : s.line.mode = .joined) (idle : s.duty.pump = .idle) :
    (dutyFrame won c s).duty.pump = (if called (formed c s) then .startWait else .idle)
      ∧ (dutyFrame won c s).duty.contactor = s.duty.contactor := by
  obtain ⟨contactor, -⟩ := formed_keeps c s
  rw [dutyFrame_duty, ← contactor]
  exact decided_of_idle (by rw [formed_line, m]) (by rw [formed_pump, idle])

/-! ### Stops -/

/-- A RUNNING pump is chosen to stop (R75), or may stop yielding (R76). -/
def chosenToStop (v : State) : Bool :=
  if v.duty.yielding then decide (v.stager.dEff ≤ v.duty.runningCount ∨ v.stager.dEff = 0)
  else ((candidates v).drop v.stager.dEff).contains (ownAddress v) && minRunExpired v

theorem stopWork_eq (v : State) :
    stopWork v = if chosenToStop v then enterLockedOff v else v := by
  unfold stopWork chosenToStop
  cases v.duty.yielding <;> simp

theorem chosenToStop_formed_iff (h : FrameBooks c s t) : chosenToStop (formed c s) = true ↔
    if s.duty.yielding then s.stager.dEff ≤ t.duty.runningCount ∨ s.stager.dEff = 0
    else ownAddress s ∈ (t.duty.dutyList.filter fun a =>
        (peer s a).running && !(peer s a).yielding).drop s.stager.dEff ∧ minRunExpired s = true := by
  obtain ⟨peers, -, own, stager, -, -, list⟩ := h.formed_sees
  have running : (formed c s).duty.runningCount = t.duty.runningCount :=
    (congrArg (·.runningCount) h.work.books).symm
  obtain ⟨-, -, yielding, -⟩ := formed_keeps c s
  rw [h.peer] at peers
  unfold chosenToStop
  rw [yielding]
  split
  · rw [decide_eq_true_eq, running, (formed_onlyDuty c s).onlyClosing.stager]
  · rw [Bool.and_eq_true, List.contains_iff_mem, formed_minRunExpired, candidates, peers, own, h.own, list,
      stager, h.stager]
    rfl

/-- The stop of a pump by a good frame end, or none. -/
def StopsOrRuns (s : State) (stops : Bool) (d : Duty) : Prop :=
  if stops then d.contactor = false
    ∧ d.pump = if s.cfg.tMinOff = 0 ∧ loaded s = true then .idle else .lockedOff
  else d.pump = s.duty.pump ∧ d.contactor = true

theorem enterLockedOff_stops (k : OnlyDuty s t) (shut : t.duty.contactor = true) :
    StopsOrRuns s true (enterLockedOff t).duty := by
  obtain ⟨contactor, -, pump⟩ := enterLockedOff_from_closed shut
  rw [k.station.cfg, k.station.loaded] at pump
  exact ⟨contactor, pump⟩

/-- A RUNNING pump stops where it is chosen to, and runs on where not (R75, R76). -/
theorem dutyFrame_running (m : s.line.mode = .joined) (running : s.duty.pump = .running)
    (shut : s.duty.contactor = true) :
    StopsOrRuns s (chosenToStop (formed c s)) (dutyFrame won c s).duty := by
  have pump := formed_pump c s
  obtain ⟨contactor, -⟩ := formed_keeps c s
  have led : OnlyDuty s (leadWork (formed c s)) := (formed_onlyDuty c s).trans (setDuty_onlyDuty _ _)
  have decision : decided won c (formed c s) = if chosenToStop (formed c s) then
      enterLockedOff (leadWork (formed c s)) else leadWork (formed c s) := by
    rw [decided_of_joined (by rw [formed_line, m])]
    unfold pumpWork
    rw [show (leadWork (formed c s)).duty.pump = .running from pump.trans running]
    exact stopWork_eq _
  rw [dutyFrame_duty, decision]
  cases chosenToStop (formed c s) with
  | true => exact enterLockedOff_stops led (contactor.trans shut)
  | false => exact ⟨pump, contactor.trans shut⟩

/-- A pump that runs in LISTEN stops once its minimum run has passed with no demand (R85). -/
theorem dutyFrame_listen (m : s.line.mode = .listen)
    (run : s.duty.pump = .starting ∨ s.duty.pump = .running) (shut : s.duty.contactor = true) :
    StopsOrRuns s (decide (s.stager.dEff = 0) && minRunExpired s) (dutyFrame won c s).duty := by
  have pump := formed_pump c s
  obtain ⟨contactor, -⟩ := formed_keeps c s
  have formedDuty := formed_onlyDuty c s
  have stops : stopAutomatic (formed c s) = enterLockedOff (formed c s) := by
    obtain ⟨-, e⟩ | ⟨rests, -⟩ := stopAutomatic_cases (formed c s)
    · exact e
    · exact absurd run (pump ▸ rests)
  rw [dutyFrame_duty, decided_of_listen (by rw [formed_line, m]), listenStop, stops, formed_minRunExpired,
    formedDuty.onlyClosing.stager]
  by_cases stop : s.stager.dEff = 0 ∧ minRunExpired s = true
  · rw [if_pos stop, stop.1, stop.2]
    exact enterLockedOff_stops formedDuty (contactor.trans shut)
  · rw [if_neg stop, show (decide (s.stager.dEff = 0) && minRunExpired s) = false from
      Bool.eq_false_iff.2 fun both => stop (by simpa using both)]
    exact ⟨pump, contactor.trans shut⟩

/-- Elsewhere a good frame end leaves the pump. -/
theorem dutyFrame_undecided (h : Undecided s) : (dutyFrame won c s).duty.pump = s.duty.pump
    ∧ (dutyFrame won c s).duty.contactor = s.duty.contactor := by
  have pump := formed_pump c s
  obtain ⟨contactor, -⟩ := formed_keeps c s
  have undecided : Undecided (formed c s) := by
    obtain ⟨joined, listen⟩ := h
    rw [← pump, ← formed_line c s] at joined listen
    exact ⟨joined, listen⟩
  rw [dutyFrame_duty, ← pump, ← contactor]
  exact decided_of_undecided undecided

end Sys2Proof.Machine
end

section
/-! O41. How a pump starts and stops. -/

namespace Sys2Proof.Machine

open Sys2Proof

variable {s p t u : State} {won : Bool} {c : CommonCells}

/-! ### The fallback start -/

/-- A pump started from rest, unheld and under no BLOCKED screen, is safe. -/
theorem PumpSafe.startPump (h : PumpSafe s) (idle : s.duty.pump = .idle) (hold : stopHold s = false)
    (clear : s.screen.condition ≠ .blocked) : PumpSafe (startPump s) := by
  obtain ⟨-, -, -, loads, yielding, blocked, -⟩ := h
  have l := loads (.inl idle)
  have unyielding : s.duty.yielding ≠ true := fun y => by simpa [idle] using yielding y
  refine ⟨fun _ => ⟨.inl rfl, hold, l⟩, fun _ => rfl, nofun, (by rintro (e | e) <;> exact nomatch e),
    fun y => absurd y unyielding, blocked, fun _ => rfl, fun _ => .inl rfl, fun n => ⟨rfl, ?_⟩,
    fun n => absurd rfl n, fun _ => .inl rfl, fun b => absurd b clear⟩
  exact Bool.eq_false_iff.2 fun confirmed => n (if_pos confirmed)

/-- Outside STARTING, RUNNING and HAND the contactor is open. -/
theorem PumpSafe.opened (p : PumpSafe s) (rest : s.duty.pump ∉ [.starting, .running, .hand]) :
    s.duty.contactor = false := by
  obtain ⟨closed, -⟩ := p
  refine Bool.eq_false_iff.2 fun shut => rest ?_
  simpa using (closed shut).1

/-- A pump that runs in a safe state has its contactor closed, the loader finished (R58). -/
theorem PumpSafe.runs (p : PumpSafe s) (run : s.duty.pump = .starting ∨ s.duty.pump = .running) :
    s.duty.contactor = true ∧ loaded s = true := by
  obtain ⟨closed, shut, -⟩ := p
  exact ⟨shut run, (closed (shut run)).2.2⟩

theorem fallbackReady_of (m : s.line.mode = .lineFault) (idle : s.duty.pump = .idle)
    (call : s.stager.localCall = true) (delay : s.duty.fallbackDelay = .expired)
    (supply : 500 ≤ s.duty.supplyInactive) (hold : stopHold s = false)
    (clear : s.screen.condition ≠ .blocked)
    (window : s.cfg.startsPerHour = 0 ∨ s.duty.window.length < s.cfg.startsPerHour)
    (inhibit : s.duty.inhibit = false)
    (moisture : s.cfg.moisturePolicy = 0 ∨ isActive s .moisture = false) (l : loaded s = true) :
    fallbackReady s = true := by
  have full : windowFull s = false := by
    rcases window with zero | room
    · simp [windowFull, zero]
    · simp [windowFull, Nat.not_le_of_lt room]
  have dry : moistureBars s = false := by
    rcases moisture with zero | quiet
    · simp [moistureBars, zero]
    · simp [moistureBars, quiet]
  simp [fallbackReady, m, idle, call, delay, supply, hold, clear, full, inhibit, dry, l]

/-! ### The unplanned stop -/

/-- The test of R71, in the words of the frame. -/
theorem FrameBooks.unplanned (h : FrameBooks c p t) : t.duty.unplanned =
    if (∃ a ∈ p.duty.prevRunning, freshAt p a = false ∨ (Machine.peer p a).running = false)
        ∧ p.duty.prevR ≤ p.duty.prevDEff
      then 600 else p.duty.unplanned - 1 := by
  have test : t.duty.unplanned = if someStopped (formDutyList p)
      && decide (p.duty.prevR ≤ p.duty.prevDEff) then 600 else p.duty.unplanned - 1 :=
    congrArg (·.unplanned) h.kept
  have stopped : someStopped (formDutyList p) = true
      ↔ ∃ a ∈ p.duty.prevRunning, freshAt p a = false ∨ (Machine.peer p a).running = false := by
    have same : someStopped (formDutyList p) = p.duty.prevRunning.any fun a =>
      !freshAt p a || !(Machine.peer p a).running := rfl
    simp [same]
  rw [test]
  refine if_congr ?_ rfl rfl
  rw [Bool.and_eq_true, decide_eq_true_eq, stopped]

theorem FrameBooks.availableAtEnd (h : FrameBooks c p t) :
    t.duty.availableAtEnd = true ↔ IsAvailable p := by
  have same : t.duty.availableAtEnd = (formed c p).duty.availableAtEnd :=
    congrArg (·.availableAtEnd) h.kept
  rw [same, formed_availableAtEnd, available_iff]

/-! ### The decisions, read off -/

theorem StopsOrRuns.stops {b : Bool} {d : Duty} (h : StopsOrRuns s b d) (yes : b = true) :
    d.contactor = false
      ∧ d.pump = if s.cfg.tMinOff = 0 ∧ loaded s = true then .idle else .lockedOff := by
  rw [yes] at h
  exact h

theorem StopsOrRuns.runs {b : Bool} {d : Duty} (h : StopsOrRuns s b d) (no : b = false) :
    d.pump = s.duty.pump ∧ d.contactor = true := by
  rw [no] at h
  exact h

/-- A claim not won, or cells not clear, start nothing (R74). -/
theorem barred_of (bar : won = false ∨ c.inrush = true ∨ c.supplyLow = true ∨ c.allStop = true
    ∨ c.dry = true ∨ s.duty.supplyQuiet < 50 ∨ stopHold s = true) :
    (won && startClear c (formed c s)) = false := by
  rw [Bool.and_eq_false_iff, Bool.eq_false_iff (b := startClear c (formed c s)), ne_eq,
    startClear_formed_iff]
  rcases bar with e | e | e | e | e | e | e
  · exact .inl e
  all_goals
    refine .inr ?_
    rintro ⟨inrush, low, stop, dry, quiet, hold⟩
  · exact nomatch inrush.symm.trans e
  · exact nomatch low.symm.trans e
  · exact nomatch stop.symm.trans e
  · exact nomatch dry.symm.trans e
  · exact absurd quiet (Nat.not_le_of_lt e)
  · exact nomatch hold.symm.trans e

/-! ### A good frame end without a hold and without a clash -/

theorem frameCounted_counted (c : Cells) (s : State) :
    Counted c (ClashAt c s.line.drive (ownAddress s)) (ownAddress s) (otherFresh (readFrame c s))
      (readFrame c s).line (frameCounted c s).line := by
  have counted := frameEnd_counted c s
  rwa [frameEnd_line_counts] at counted

theorem frameCounted_common (c : Cells) (s : State) :
    (frameCounted c s).line.common = commonOf c := by
  obtain ⟨⟨-, -, common, -⟩, -⟩ := frameCounted_counted c s
  exact common

/-- The stop hold once the frame has been read: its own cells' (R62). -/
theorem frameCounted_stopHold_iff (c : Cells) (s : State) : stopHold (frameCounted c s) = true
    ↔ isActive s .allStop = true ∨ isActive s .lowFloat = true ∨ isActive s .thermal = true
      ∨ s.line.mode ≠ .lineFault ∧ (c.getLsbD 27 = true ∨ c.getLsbD 8 = true) := by
  have input := (frameCounted_station c s).isActive
  rw [stopHold_iff, frameCounted_common, input, input, input, ne_eq, (frameCounted_keepsPlant c s).fault]
  rfl

/-- No clash, as the statement says it, in the model's words. -/
theorem not_clashAt_of {c : Cells} (agree : ∀ d, s.line.mode = .joined → s.line.drive = some d →
      ∀ i ∈ [1, 2, 3, 4, 5, 6, 7], c.getLsbD (stationCell (ownAddress s) + i) = true →
        d.cells.getLsbD (stationCell (ownAddress s) + i) = true) (m : s.line.mode = .joined) :
    ¬ClashAt c s.line.drive (ownAddress s) := by
  rw [clashAt_iff]
  rintro ⟨d, drive, i, low, high, quiet, dominant⟩
  have mem : i ∈ [1, 2, 3, 4, 5, 6, 7] := by
    simp only [List.mem_cons, List.not_mem_nil, or_false]
    omega
  exact nomatch quiet.symm.trans (agree d m drive i mem dominant)

/-- With no clash the counts of a frame leave the two controllers and the line's state. -/
theorem frameCounted_unclashed {c : Cells}
    (no : s.line.mode = .joined → ¬ClashAt c s.line.drive (ownAddress s)) :
    (frameCounted c s).duty = s.duty ∧ (frameCounted c s).screen = s.screen
      ∧ (frameCounted c s).line.mode = s.line.mode := by
  have house := emptyStale_onlyHouse s (readFrame c s)
  have own : ownAddress (emptyStale s (readFrame c s)) = ownAddress s := house.station.own
  have mode : (emptyStale s (readFrame c s)).line.mode = s.line.mode := by
    rw [house.line]
    rfl
  have counts : ∃ l, frameCounted c s = setLine (emptyStale s (readFrame c s)) l
      ∧ l.mode = s.line.mode := by
    unfold frameCounted
    cases m : s.line.mode with
    | listen => exact ⟨_, countLine_listen (mode.trans m), mode.trans m⟩
    | joined =>
      exact ⟨_, countLine_joined (mode.trans m) (by rw [own]; exact no m), mode.trans m⟩
    | lineFault => exact ⟨_, countLine_lineFault (mode.trans m), mode.trans m⟩
    | isolated => exact ⟨_, countLine_isolated (mode.trans m), mode.trans m⟩
  obtain ⟨l, e, same⟩ := counts
  rw [e]
  exact ⟨house.duty, house.screen, same⟩

theorem dutyEntry_duty (c : Cells) (s : State) :
    (dutyEntry c s).duty = (applyHold (formDemand c (frameCounted c s))).duty :=
  (applyRakeStop_onlyScreen _).duty

theorem formDemand_stopHold (c : Cells) (s : State) : stopHold (formDemand c s) = stopHold s :=
  stopHold_congr (formDemand_onlyPlant c s).station.isActive (formDemand_onlyPlant c s).line

theorem dutyEntry_stopHold (c : Cells) (s : State) :
    stopHold (dutyEntry c s) = stopHold (frameCounted c s) :=
  stopHold_congr (dutyEntry_onlyPlant c s).station.isActive (dutyEntry_onlyPlant c s).line

/-- The pump as the Duty Controller's work of a good frame end finds it, with no hold and no clash: as it
was, but closed in HAND (R61). -/
theorem dutyEntry_unheld {c : Cells} (l : loaded s = true)
    (no : s.line.mode = .joined → ¬ClashAt c s.line.drive (ownAddress s))
    (hold : stopHold (frameCounted c s) = false) :
    (s.duty.pump ≠ .hand → (dutyEntry c s).duty = s.duty)
      ∧ (s.duty.pump = .hand → (dutyEntry c s).duty.pump = .hand ∧ (dutyEntry c s).duty.contactor = true) := by
  obtain ⟨duty, -, -⟩ := frameCounted_unclashed no
  rw [← formDemand_stopHold] at hold
  have entry : (dutyEntry c s).duty = (closeInHand (formDemand c (frameCounted c s))).duty := by
    rw [dutyEntry_duty, applyHold, hold]
    rfl
  have before : (formDemand c (frameCounted c s)).duty = s.duty := (formDemand_duty _ _).trans duty
  have finished : loaded (formDemand c (frameCounted c s)) = true :=
    (formDemand_onlyPlant c _).station.loaded.trans ((frameCounted_station c s).loaded.trans l)
  rw [entry, ← before]
  generalize formDemand c (frameCounted c s) = v at hold finished
  refine ⟨fun other => ?_, fun hand => ?_⟩
  · simp [closeInHand, other]
  · cases contactor : v.duty.contactor with
    | true => simp [closeInHand, contactor, hand]
    | false => simp [closeInHand, contactor, hand, hold, finished, handClosure, setDuty]

theorem applyRakeStop_condition (s : State) :
    (applyRakeStop s).screen.condition = s.screen.condition := by
  unfold applyRakeStop
  split
  · split <;> rfl
  · rfl

theorem formDemand_screen (c : Cells) (s : State) : (formDemand c s).screen = s.screen := by
  unfold formDemand
  split
  · rfl
  · split <;> rfl

theorem dutyEntry_condition (c : Cells) (s : State) :
    (dutyEntry c s).screen.condition = (frameCounted c s).screen.condition := by
  unfold dutyEntry
  rw [applyRakeStop_condition, applyHold_screen, formDemand_screen]

end Sys2Proof.Machine
end

section
/-! O41. What stands once the Duty Controller's work of a good frame end is done. -/

namespace Sys2Proof.Machine

open Sys2Proof

variable {s p t u : State} {won : Bool} {c : CommonCells}

/-- A state whose Duty Controller is as the work of a good frame end in `p` leaves it, with the books of
that work. -/
structure DutyDone (won : Bool) (c : CommonCells) (p t : State) : Prop extends FrameBooks c p t where
  duty : t.duty = (dutyFrame won c p).duty

theorem dutyFrame_done (won : Bool) (c : CommonCells) (p : State) :
    DutyDone won c p (dutyFrame won c p) :=
  ⟨dutyFrame_frameBooks won c p, rfl⟩

/-- The bay's start condition holds and it is available (R72). -/
def Calls (p t : State) : Prop :=
  IsAvailable p ∧ ∃ i, t.duty.index = some i ∧ i + t.duty.runningCount < p.stager.dEff

/-- A RUNNING pump is to stop (R75, R76). -/
def Stops (p t : State) : Prop :=
  if p.duty.yielding then p.stager.dEff ≤ t.duty.runningCount ∨ p.stager.dEff = 0
  else ownAddress p ∈ (t.duty.dutyList.filter fun a =>
      (peer p a).running && !(peer p a).yielding).drop p.stager.dEff ∧ minRunExpired p = true

namespace DutyDone

theorem called_iff (h : DutyDone won c p t) : called (formed c p) = true ↔ Calls p t :=
  called_formed_iff h.toFrameBooks

theorem stops_iff (h : DutyDone won c p t) : chosenToStop (formed c p) = true ↔ Stops p t :=
  chosenToStop_formed_iff h.toFrameBooks

/-- IDLE in JOINED (R72). -/
theorem idle (h : DutyDone won c p t) (m : p.line.mode = .joined) (idle : p.duty.pump = .idle) :
    t.duty.contactor = p.duty.contactor ∧ (Calls p t → t.duty.pump = .startWait)
      ∧ (¬Calls p t → t.duty.pump = .idle) := by
  obtain ⟨pump, contactor⟩ := dutyFrame_idle (won := won) (c := c) m idle
  rw [h.duty, pump, contactor, ← h.called_iff]
  exact ⟨rfl, fun call => if_pos call, fun no => if_neg no⟩

/-- START_WAIT in JOINED, the start condition gone (R72). -/
theorem recalled (h : DutyDone won c p t) (m : p.line.mode = .joined)
    (wait : p.duty.pump = .startWait) (no : ¬Calls p t) :
    t.duty.pump = .idle ∧ t.duty.contactor = p.duty.contactor := by
  rw [← h.called_iff] at no
  obtain ⟨pump, contactor⟩ := dutyFrame_waits (won := won) m wait (.inl (Bool.eq_false_iff.2 no))
  rw [h.duty, pump, contactor]
  exact ⟨if_neg no, rfl⟩

/-- START_WAIT in JOINED without a won claim on clear cells (R72, R74). -/
theorem waits (h : DutyDone won c p t) (m : p.line.mode = .joined)
    (wait : p.duty.pump = .startWait) (call : Calls p t)
    (no : (won && startClear c (formed c p)) = false) :
    t.duty.pump = .startWait ∧ t.duty.contactor = p.duty.contactor := by
  rw [← h.called_iff] at call
  obtain ⟨pump, contactor⟩ := dutyFrame_waits (won := won) m wait (.inr no)
  rw [h.duty, pump, contactor]
  exact ⟨if_pos call, rfl⟩

/-- START_WAIT in JOINED with a won claim on clear cells (R74). -/
theorem starts (h : DutyDone won c p t) (m : p.line.mode = .joined)
    (wait : p.duty.pump = .startWait) (call : Calls p t)
    (go : (won && startClear c (formed c p)) = true) : Started p t.duty := by
  rw [h.duty]
  exact dutyFrame_started m wait (h.called_iff.2 call) go

/-- RUNNING in JOINED (R75, R76). -/
theorem running (h : DutyDone won c p t) (m : p.line.mode = .joined)
    (running : p.duty.pump = .running) (shut : p.duty.contactor = true) :
    (Stops p t → t.duty.contactor = false
        ∧ t.duty.pump = if p.cfg.tMinOff = 0 ∧ loaded p = true then .idle else .lockedOff)
      ∧ (¬Stops p t → t.duty.pump = .running ∧ t.duty.contactor = true) := by
  have outcome := dutyFrame_running (won := won) (c := c) m running shut
  rw [← h.stops_iff, h.duty]
  refine ⟨outcome.stops, fun no => ?_⟩
  obtain ⟨pump, contactor⟩ := outcome.runs (Bool.eq_false_iff.2 no)
  exact ⟨pump.trans running, contactor⟩

/-- STARTING or RUNNING in LISTEN (R85). -/
theorem listening (h : DutyDone won c p t) (m : p.line.mode = .listen)
    (run : p.duty.pump = .starting ∨ p.duty.pump = .running) (shut : p.duty.contactor = true) :
    (p.stager.dEff = 0 → minRunExpired p = true → t.duty.contactor = false
        ∧ t.duty.pump = if p.cfg.tMinOff = 0 ∧ loaded p = true then .idle else .lockedOff)
      ∧ (0 < p.stager.dEff ∨ minRunExpired p = false →
          t.duty.pump = p.duty.pump ∧ t.duty.contactor = true) := by
  have outcome := dutyFrame_listen (won := won) (c := c) m run shut
  rw [h.duty]
  refine ⟨fun zero expired => outcome.stops (by simp [zero, expired]), fun still => outcome.runs ?_⟩
  rcases still with demand | fresh
  · simp [Nat.ne_of_gt demand]
  · simp [fresh]

/-- A pump with no decision to take. -/
theorem rests (h : DutyDone won c p t) (undecided : Undecided p) :
    t.duty.pump = p.duty.pump ∧ t.duty.contactor = p.duty.contactor := by
  rw [h.duty]
  exact dutyFrame_undecided undecided

end DutyDone

theorem undecided_of_apart (m : p.line.mode = .isolated ∨ p.line.mode = .lineFault) : Undecided p := by
  refine ⟨fun j => ?_, fun l => ?_⟩ <;> simp_all

/-- Out of the four states of an automatic run there is nothing to decide. -/
theorem undecided_of_rest (rest : p.duty.pump ∉ [.idle, .startWait, .starting, .running]) :
    Undecided p := by
  simp only [List.mem_cons, List.not_mem_nil, or_false, not_or] at rest
  obtain ⟨idle, wait, starting, running⟩ := rest
  exact ⟨fun _ => ⟨idle, wait, running⟩, fun _ => ⟨starting, running⟩⟩

/-! ### A good frame end without a hold and without a clash -/

/-- A good frame end, the loader finished, with no stop hold in force once it is read, and no clash. -/
structure QuietEnd (c : Cells) (s : State) : Prop where
  safe : PumpSafe s
  loaded : loaded s = true
  hold : stopHold (frameCounted c s) = false
  agree : s.line.mode = .joined → ¬ClashAt c s.line.drive (ownAddress s)

/-- The pump's work takes no pump into FAULTED or HAND. -/
theorem decided_unfaulted (won : Bool) (c : CommonCells) (v : State) :
    ((decided won c v).duty.pump ≠ .faulted ∧ (decided won c v).duty.pump ≠ .hand)
      ∨ ((decided won c v).duty.pump = v.duty.pump
        ∧ (decided won c v).duty.contactor = v.duty.contactor) := by
  have lockedOff : ∀ w : State,
      (enterLockedOff w).duty.pump ≠ .faulted ∧ (enterLockedOff w).duty.pump ≠ .hand := fun w => by
    rcases enterLockedOff_cases w with ⟨e, -⟩ | ⟨e, -⟩ <;> rw [e] <;> exact ⟨nofun, nofun⟩
  cases m : v.line.mode with
  | joined =>
    rw [decided_of_joined m]
    unfold pumpWork
    split
    · unfold startWork
      split
      · split
        · exact .inl ⟨nofun, nofun⟩
        · exact .inr ⟨rfl, rfl⟩
      · exact .inl ⟨nofun, nofun⟩
    · split
      · exact .inl ⟨nofun, nofun⟩
      · exact .inr ⟨rfl, rfl⟩
    · rw [stopWork_eq]
      split
      · exact .inl (lockedOff _)
      · exact .inr ⟨rfl, rfl⟩
    all_goals exact .inr ⟨rfl, rfl⟩
  | listen =>
    rw [decided_of_listen m, listenStop]
    split
    · obtain ⟨-, e⟩ | ⟨-, e⟩ := stopAutomatic_cases v
      · exact .inl (e ▸ lockedOff v)
      · rw [e]
        exact .inr ⟨rfl, rfl⟩
    · exact .inr ⟨rfl, rfl⟩
  | isolated =>
    rw [decided_of_apart (.inl m)]
    exact .inr ⟨rfl, rfl⟩
  | lineFault =>
    rw [decided_of_apart (.inr m)]
    exact .inr ⟨rfl, rfl⟩

theorem dutyFrame_unfaulted (won : Bool) (c : CommonCells) (s : State) :
    ((dutyFrame won c s).duty.pump ≠ .faulted ∧ (dutyFrame won c s).duty.pump ≠ .hand)
      ∨ ((dutyFrame won c s).duty.pump = s.duty.pump
        ∧ (dutyFrame won c s).duty.contactor = s.duty.contactor) := by
  obtain ⟨contactor, -⟩ := formed_keeps c s
  rw [dutyFrame_duty, ← formed_pump c s, ← contactor]
  exact decided_unfaulted won c (formed c s)

/-- With no stop hold the closing work leaves a pump whose contactor is closed in HAND. -/
theorem settle_duty_of_unheld (hold : stopHold s = false)
    (hand : s.duty.pump = .hand → s.duty.contactor = true) : (settle s).duty = s.duty := by
  rw [settle_duty]
  by_cases h : s.duty.pump = .hand
  · simp [applyHold, closeInHand, hold, h, hand h]
  · simp [applyHold, closeInHand, hold, h]

theorem settled_duty {d e : Duty} (hold : stopHold s = false) (before : s.duty = d)
    (hand : d.pump = .hand → d.contactor = true) (work : d = e) : (settle s).duty = e := by
  subst before work
  exact settle_duty_of_unheld hold hand

theorem frameEnd_stopHold (c : Cells) (s : State) :
    stopHold (frameEnd c s) = stopHold (frameCounted c s) := by
  refine stopHold_congr (fun i => ?_) (frameEnd_line_counts c s)
  rw [(frameEnd_station c s).isActive, (frameCounted_station c s).isActive]

/-- The pump's claim is won, and no COMMAND that inhibits the bay is taken before it (R74, R84). -/
def frameWon (c : Cells) (s : State) : Bool :=
  ((frameCounted c s).line.mode == .joined) && startWon .duty c s.line.drive
    && !inhibitTakenFirst c (dutyEntry c s)

/-- After the plant's blocks a good frame end leaves a pump that is not FAULTED. -/
theorem frameEnd_keepsDuty (c : Cells) (s : State) :
    (plantFrame c s.line.drive (frameCounted c s)).duty.pump ≠ .faulted →
      (frameEnd c s).duty = (plantFrame c s.line.drive (frameCounted c s)).duty := by
  unfold frameCounted
  exact frameEnd_duty c s

namespace QuietEnd

variable {c : Cells}

theorem entry_hold (h : QuietEnd c s) : stopHold (dutyEntry c s) = false :=
  (dutyEntry_stopHold c s).trans h.hold

theorem entry_mode (h : QuietEnd c s) : (dutyEntry c s).line.mode = s.line.mode := by
  obtain ⟨-, -, mode⟩ := frameCounted_unclashed h.agree
  rw [(dutyEntry_onlyPlant c s).line, mode]

theorem entry_duty (h : QuietEnd c s) (hand : s.duty.pump ≠ .hand) : (dutyEntry c s).duty = s.duty :=
  (dutyEntry_unheld h.loaded h.agree h.hold).1 hand

theorem entry_hand (h : QuietEnd c s) (hand : s.duty.pump = .hand) :
    (dutyEntry c s).duty.pump = .hand ∧ (dutyEntry c s).duty.contactor = true :=
  (dutyEntry_unheld h.loaded h.agree h.hold).2 hand

theorem entry_pump (h : QuietEnd c s) : (dutyEntry c s).duty.pump = s.duty.pump := by
  by_cases hand : s.duty.pump = .hand
  · rw [(h.entry_hand hand).1, hand]
  · rw [h.entry_duty hand]

theorem entry_available (h : QuietEnd c s) : IsAvailable (dutyEntry c s) ↔ IsAvailable s := by
  have station := dutyEntry_station c s
  by_cases hand : s.duty.pump = .hand
  · have before : ¬IsAvailable s := fun a => by simpa [hand] using a.1
    have after : ¬IsAvailable (dutyEntry c s) := fun a => by simpa [h.entry_pump, hand] using a.1
    exact iff_of_false after before
  · obtain ⟨-, screen, -⟩ := frameCounted_unclashed h.agree
    unfold IsAvailable
    rw [h.entry_duty hand, h.entry_mode, dutyEntry_condition, screen, station.cfg, station.isActive]

/-- The books that the Duty Controller's work enters with are those of the state before. -/
theorem entry_books (h : QuietEnd c s) : books (dutyEntry c s).duty = books s.duty := by
  obtain ⟨duty, -⟩ := frameCounted_unclashed h.agree
  rw [(dutyEntry_keepsBooks c s).books, duty]

/-- What the Duty Controller's work leaves of a pump that is not FAULTED needs nothing of the closing
work. -/
theorem frame_steady (h : QuietEnd c s) (sound : s.duty.pump ≠ .faulted) :
    (plantFrame c s.line.drive (frameCounted c s)).duty.pump ≠ .faulted
      ∧ ((plantFrame c s.line.drive (frameCounted c s)).duty.pump = .hand →
        (plantFrame c s.line.drive (frameCounted c s)).duty.contactor = true) := by
  have outcome := dutyFrame_unfaulted (frameWon c s) (commonOf c) (dutyEntry c s)
  have work : _ = (dutyFrame (frameWon c s) (commonOf c) (dutyEntry c s)).duty :=
    plantFrame_dutyFrame c s
  rw [h.entry_pump] at outcome
  rw [work]
  generalize (dutyFrame (frameWon c s) (commonOf c) (dutyEntry c s)).duty = d at outcome
  rcases outcome with ⟨faulted, other⟩ | ⟨same, contactor⟩
  · exact ⟨faulted, fun hand => absurd hand other⟩
  · exact ⟨same ▸ sound, fun hand => contactor.trans (h.entry_hand (same.symm.trans hand)).2⟩

theorem end_duty (h : QuietEnd c s) (sound : s.duty.pump ≠ .faulted) :
    (settle (frameEnd c s)).duty = (dutyFrame (frameWon c s) (commonOf c) (dutyEntry c s)).duty := by
  obtain ⟨faulted, hand⟩ := h.frame_steady sound
  exact settled_duty ((frameEnd_stopHold c s).trans h.hold) (frameEnd_keepsDuty c s faulted) hand
    (plantFrame_dutyFrame c s)

/-- Where the pump is not FAULTED its state at the end is that of the Duty Controller's work. -/
theorem done (h : QuietEnd c s) (sound : s.duty.pump ≠ .faulted) :
    DutyDone (frameWon c s) (commonOf c) (dutyEntry c s) (settle (frameEnd c s)) :=
  ⟨frameEnd_frameBooks c s, h.end_duty sound⟩

end QuietEnd

end Sys2Proof.Machine
end

section
/-! O41. How a pump starts and stops: by fallback, and at the end of a good frame. -/

namespace Sys2Proof.Machine

open Sys2Proof

variable {s t : State} {c : Cells} {cells : CommonCells} {won : Bool}

/-! ### The words of the statement -/

/-- A COMMAND taken before the won claim is in the frame, and inhibits the bay (R84). -/
theorem told_of_inhibitTakenFirst (h : inhibitTakenFirst c s = true) :
    ∃ r, noticeOf c = some r ∧ r.kind = .command ∧ r.subject = ownAddress s ∧ r.code = 1 := by
  simp only [inhibitTakenFirst, Bool.and_eq_true, beq_iff_eq] at h
  obtain ⟨⟨⟨-, command⟩, -⟩, -⟩ := h
  unfold commandFor at command
  split at command
  · rename_i r notice
    split at command
    · rename_i mine
      exact ⟨r, notice, mine.1, mine.2, Option.some.inj command⟩
    · exact nomatch command
  · exact nomatch command

namespace QuietEnd

theorem of_statement (p : PumpSafe s) (l : Machine.loaded s = true)
    (stop : isActive s .allStop = false) (float : isActive s .lowFloat = false)
    (thermal : isActive s .thermal = false)
    (quiet : s.line.mode ≠ .lineFault → c.getLsbD 8 = false ∧ c.getLsbD 27 = false)
    (agree : ∀ d, s.line.mode = .joined → s.line.drive = some d → ∀ i ∈ [1, 2, 3, 4, 5, 6, 7],
      c.getLsbD (stationCell (ownAddress s) + i) = true →
        d.cells.getLsbD (stationCell (ownAddress s) + i) = true) : QuietEnd c s := by
  refine ⟨p, l, Bool.eq_false_iff.2 fun held => ?_, not_clashAt_of agree⟩
  rcases (frameCounted_stopHold_iff c s).1 held with on | on | on | ⟨m, dominant⟩
  · exact nomatch stop.symm.trans on
  · exact nomatch float.symm.trans on
  · exact nomatch thermal.symm.trans on
  · obtain ⟨dry, all⟩ := quiet m
    rcases dominant with on | on
    · exact nomatch all.symm.trans on
    · exact nomatch dry.symm.trans on

theorem calls_iff (h : QuietEnd c s) (b : FrameBooks cells (dutyEntry c s) t) :
    Calls (dutyEntry c s) t ↔ IsAvailable s
      ∧ ∃ i, t.duty.index = some i ∧ i + t.duty.runningCount < t.stager.dEff := by
  rw [Calls, h.entry_available, b.stager]

theorem entry_minRunExpired (h : QuietEnd c s) (hand : s.duty.pump ≠ .hand) :
    minRunExpired (dutyEntry c s) = minRunExpired s := by
  unfold minRunExpired
  rw [h.entry_duty hand, (dutyEntry_station c s).cfg]

theorem stops_iff (h : QuietEnd c s) (b : FrameBooks cells (dutyEntry c s) t)
    (hand : s.duty.pump ≠ .hand) : Stops (dutyEntry c s) t ↔
      if s.duty.yielding then t.stager.dEff ≤ t.duty.runningCount ∨ t.stager.dEff = 0
      else ownAddress s ∈ (t.duty.dutyList.filter fun a =>
          (peer t a).running && !(peer t a).yielding).drop t.stager.dEff
        ∧ minRunExpired s = true := by
  rw [Stops, h.entry_minRunExpired hand, h.entry_duty hand, b.stager, b.peer,
    (dutyEntry_station c s).own]

/-- The state that the unplanned stop is tested in. -/
theorem unplanned (h : QuietEnd c s) (b : FrameBooks cells (dutyEntry c s) t) : t.duty.unplanned =
    if (∃ a ∈ s.duty.prevRunning, freshAt t a = false ∨ (peer t a).running = false)
        ∧ s.duty.prevR ≤ s.duty.prevDEff
      then 600 else s.duty.unplanned - 1 := by
  have running : (dutyEntry c s).duty.prevRunning = s.duty.prevRunning :=
    congrArg (·.prevRunning) h.entry_books
  have count : (dutyEntry c s).duty.prevR = s.duty.prevR := congrArg (·.prevR) h.entry_books
  have demand : (dutyEntry c s).duty.prevDEff = s.duty.prevDEff := congrArg (·.prevDEff) h.entry_books
  have timer : (dutyEntry c s).duty.unplanned = s.duty.unplanned := congrArg (·.unplanned) h.entry_books
  rw [b.unplanned, running, count, demand, timer, b.fresh, b.peer]

/-- The cells and counts clear for a won claim, in the words of the statement. -/
theorem startClear_iff (h : QuietEnd c s) (dry : c.getLsbD 8 = false) (stop : c.getLsbD 27 = false) :
    startClear (commonOf c) (formed (commonOf c) (dutyEntry c s)) = true ↔
      c.getLsbD 19 = false ∧ c.getLsbD 24 = false ∧ 50 ≤ s.duty.supplyQuiet := by
  have quiet : (dutyEntry c s).duty.supplyQuiet = s.duty.supplyQuiet :=
    congrArg (·.supplyQuiet) h.entry_books
  rw [startClear_formed_iff, quiet]
  constructor
  · rintro ⟨inrush, low, -, -, long, -⟩
    exact ⟨inrush, low, long⟩
  · rintro ⟨inrush, low, long⟩
    exact ⟨inrush, low, stop, dry, long, h.entry_hold⟩

theorem frameWon_of_joined (h : QuietEnd c s) (m : s.line.mode = .joined) : frameWon c s =
    (startWon .duty c s.line.drive && !inhibitTakenFirst c (dutyEntry c s)) := by
  obtain ⟨-, -, mode⟩ := frameCounted_unclashed h.agree
  rw [frameWon, mode, m]
  rfl

/-! ### The outcomes, state by state -/

/-- START_WAIT in JOINED, called, with a won claim on clear cells: a start, or an inhibiting COMMAND taken
first (R74, R84). -/
theorem won_claim (h : QuietEnd c s)
    (d : DutyDone (frameWon c s) (commonOf c) (dutyEntry c s) t) (m : s.line.mode = .joined)
    (wait : s.duty.pump = .startWait) (call : Calls (dutyEntry c s) t)
    (won : startWon .duty c s.line.drive = true)
    (clear : startClear (commonOf c) (formed (commonOf c) (dutyEntry c s)) = true) :
    (t.duty.pump = .startWait ∧ t.duty.contactor = false ∧ ∃ r, noticeOf c = some r
        ∧ r.kind = .command ∧ r.subject = ownAddress s ∧ r.code = 1)
      ∨ Started s t.duty := by
  have hand : s.duty.pump ≠ .hand := by simp [wait]
  have entryWait := h.entry_pump.trans wait
  have entryMode := h.entry_mode.trans m
  cases told : inhibitTakenFirst c (dutyEntry c s) with
  | true =>
    have command := told_of_inhibitTakenFirst told
    rw [(dutyEntry_station c s).own] at command
    obtain ⟨pump, contactor⟩ := d.waits entryMode entryWait call (by simp [h.frameWon_of_joined m, told])
    rw [h.entry_duty hand, h.safe.opened (by simp [wait])] at contactor
    exact .inl ⟨pump, contactor, command⟩
  | false =>
    have started := d.starts entryMode entryWait call
      (by simp [h.frameWon_of_joined m, told, won, clear])
    have station := dutyEntry_station c s
    exact .inr (started.of_same (funext station.isActive) (by rw [h.entry_duty hand]; exact ⟨rfl, rfl⟩)
      station.cfg station.time)

/-- Without a won claim on clear cells nothing starts (R74). -/
theorem barred (h : QuietEnd c s) (m : s.line.mode = .joined)
    (bar : ¬(startWon .duty c s.line.drive = true
      ∧ startClear (commonOf c) (formed (commonOf c) (dutyEntry c s)) = true)) :
    (frameWon c s && startClear (commonOf c) (formed (commonOf c) (dutyEntry c s))) = false := by
  rw [h.frameWon_of_joined m]
  refine Bool.eq_false_iff.2 fun go => bar ?_
  simp only [Bool.and_eq_true] at go
  exact ⟨go.1.1, go.2⟩

/-- A pump with nothing to decide is as it was. -/
theorem rests (h : QuietEnd c s) (d : DutyDone (frameWon c s) (commonOf c) (dutyEntry c s) t)
    (hand : s.duty.pump ≠ .hand) (undecided : Undecided s) :
    t.duty.pump = s.duty.pump ∧ t.duty.contactor = s.duty.contactor := by
  have entry : Undecided (dutyEntry c s) := by
    obtain ⟨joined, listen⟩ := undecided
    rw [← h.entry_mode, ← h.entry_pump] at joined listen
    exact ⟨joined, listen⟩
  obtain ⟨pump, contactor⟩ := d.rests entry
  rw [h.entry_duty hand] at pump contactor
  exact ⟨pump, contactor⟩

/-- HAND keeps its contactor closed (R61). -/
theorem inHand (h : QuietEnd c s) (d : DutyDone (frameWon c s) (commonOf c) (dutyEntry c s) t)
    (hand : s.duty.pump = .hand) : t.duty.pump = .hand ∧ t.duty.contactor = true := by
  obtain ⟨pump, contactor⟩ := h.entry_hand hand
  obtain ⟨pump', contactor'⟩ := d.rests (undecided_of_rest (by simp [pump]))
  exact ⟨pump'.trans pump, contactor'.trans contactor⟩

/-- The state in which a stopped pump rests, the loader finished. -/
theorem entry_rest (h : QuietEnd c s) : (if (dutyEntry c s).cfg.tMinOff = 0
      ∧ Machine.loaded (dutyEntry c s) = true then PumpState.idle else .lockedOff)
    = if s.cfg.tMinOff = 0 then .idle else .lockedOff := by
  have station := dutyEntry_station c s
  simp [station.cfg, station.loaded.trans h.loaded]

/-- RUNNING in JOINED (R75, R76). -/
theorem running (h : QuietEnd c s) (d : DutyDone (frameWon c s) (commonOf c) (dutyEntry c s) t)
    (m : s.line.mode = .joined) (running : s.duty.pump = .running) :
    (Stops (dutyEntry c s) t → t.duty.contactor = false
        ∧ t.duty.pump = if s.cfg.tMinOff = 0 then .idle else .lockedOff)
      ∧ (¬Stops (dutyEntry c s) t → t.duty.pump = .running ∧ t.duty.contactor = true) := by
  have shut : (dutyEntry c s).duty.contactor = true := by
    rw [h.entry_duty (by simp [running]), (h.safe.runs (.inr running)).1]
  rw [← h.entry_rest]
  exact d.running (h.entry_mode.trans m) (h.entry_pump.trans running) shut

/-- STARTING or RUNNING in LISTEN (R85). -/
theorem listening (h : QuietEnd c s) (d : DutyDone (frameWon c s) (commonOf c) (dutyEntry c s) t)
    (m : s.line.mode = .listen) (run : s.duty.pump = .starting ∨ s.duty.pump = .running) :
    (t.stager.dEff = 0 → minRunExpired s = true → t.duty.contactor = false
        ∧ t.duty.pump = if s.cfg.tMinOff = 0 then .idle else .lockedOff)
      ∧ (0 < t.stager.dEff ∨ minRunExpired s = false →
          t.duty.pump = s.duty.pump ∧ t.duty.contactor = true) := by
  have hand : s.duty.pump ≠ .hand := fun e => by simp [e] at run
  have shut : (dutyEntry c s).duty.contactor = true := by
    rw [h.entry_duty hand, (h.safe.runs run).1]
  rw [← h.entry_rest, ← h.entry_minRunExpired hand, ← h.entry_pump, d.stager]
  exact d.listening (h.entry_mode.trans m) (by rwa [h.entry_pump]) shut

end QuietEnd

/-- Settles O41: the fallback start by its conditions; the decisions of a good frame end as `DutyDone` reads
them, in the state that the frame's counts, demand and holds leave (`QuietEnd`). -/
theorem fallbackStarts : Obligations.FallbackStarts := by
  refine ⟨?_, ?_, ?_⟩
  · intro s p r m idle call delay supply stop float thermal clear window inhibit moisture
    have hold : stopHold s = false := Bool.eq_false_iff.2 fun held => by
      simpa [stop, float, thermal, m] using (stopHold_iff s).1 held
    have l : loaded s = true := by
      obtain ⟨-, -, -, loads, -⟩ := p
      exact loads (.inl idle)
    unfold exec execFallbackStart
    exact taken_follows (f := startPump)
      (fallbackReady_of m idle call delay supply hold clear window inhibit moisture l)
      (p.startPump idle hold clear) ((startPump_onlyDuty s).rakeSafe rfl r)
  · intro won call c s t e calls
    subst e
    have d := dutyFrame_done won c s
    generalize dutyFrame won c s = t at d calls
    have called : call = true ↔ Calls s t := calls
    have uncalled : call = false ↔ ¬Calls s t := by rw [← called, Bool.not_eq_true]
    refine ⟨d.availableAtEnd, d.unplanned, d.prevR, d.prevDEff.trans (by rw [d.stager]), fun a => ?_,
      fun m => ⟨fun idle => ?_, fun wait => ⟨fun no => ?_, fun yes win inrush low all dry quiet hold => ?_,
        fun yes bar => ?_⟩, fun running shut stops stops_iff => ?_⟩, fun m run shut => d.listening m run shut,
      fun m => d.rests (undecided_of_apart m)⟩
    · rw [d.mem_prevRunning, d.own, d.fresh, d.peer]
    · obtain ⟨-, yes, no⟩ := d.idle m idle
      split
      · exact yes (called.1 ‹_›)
      · exact no (mt called.2 ‹_›)
    · exact (d.recalled m wait (uncalled.1 no)).1
    · have clear : startClear c (formed c s) = true :=
        (startClear_formed_iff c s).2 ⟨inrush, low, all, dry, quiet, hold⟩
      have started := d.starts m wait (called.1 yes) (by simp [win, clear])
      exact ⟨started.pump, started.contactor, started.inrush, started.minRun, started.contRun,
        started.confirmed, started.starts, started.window⟩
    · exact d.waits m wait (called.1 yes) (barred_of bar)
    · have same : stops ↔ Stops s t := stops_iff
      rw [same]
      exact d.running m running shut
  · intro run c s p l inside low high stop float thermal quiet agree
    have h : QuietEnd c s := .of_statement p l stop float thermal quiet agree
    have books := frameEnd_frameBooks c s
    have done : s.duty.pump ≠ .faulted → _ := h.done
    have step : exec (.goodFrameEnd run c) s = .next (settle (frameEnd c s)) := by
      unfold exec execGoodFrameEnd
      exact taken_of_can _ _ (by simp [inside, goodRun, low, high])
    generalize settle (frameEnd c s) = t at step books done
    refine ⟨t, step, ?_, h.unplanned books, fun hand => h.inHand (done (by simp [hand])) hand,
      fun rest => ?_, fun m call won clear told stops calls wins clears tells stops_iff => ?_,
      fun m => ⟨fun run => ?_, fun idle => ?_⟩, fun m sound hand => ?_⟩
    · rw [books.availableAtEnd, h.entry_available]
    · have waits : s.duty.pump ∉ [.idle, .startWait, .starting, .running] := by
        rcases rest with e | e <;> simp [e]
      have sound : s.duty.pump ∉ [.faulted, .hand] ∧ s.duty.pump ∉ [.starting, .running, .hand] := by
        rcases rest with e | e <;> simp [e]
      obtain ⟨pump, contactor⟩ := h.rests (done fun e => sound.1 (by simp [e]))
        (fun e => sound.1 (by simp [e])) (undecided_of_rest waits)
      exact ⟨pump, contactor.trans (h.safe.opened sound.2)⟩
    · have entryMode := h.entry_mode.trans m
      obtain ⟨dry, all⟩ := quiet (by simp [m])
      rw [← h.calls_iff books] at calls
      rw [← startWon_iff (b := .duty)] at wins
      rw [← h.startClear_iff dry all] at clears
      refine ⟨fun idle => ?_, fun wait => ?_, fun starting => ?_, fun running => ?_⟩
      · have d := done (by simp [idle])
        obtain ⟨contactor, yes, no⟩ := d.idle entryMode (h.entry_pump.trans idle)
        rw [h.entry_duty (by simp [idle]), h.safe.opened (by simp [idle])] at contactor
        exact ⟨contactor, fun call => yes (calls.1 call), fun off => no (mt calls.2 off)⟩
      · have d := done (by simp [wait])
        have entryWait := h.entry_pump.trans wait
        have opened : (dutyEntry c s).duty.contactor = false := by
          rw [h.entry_duty (by simp [wait]), h.safe.opened (by simp [wait])]
        rw [← opened]
        refine ⟨fun off => d.recalled entryMode entryWait (mt calls.2 off), fun call bar => ?_,
          fun call win free => ?_⟩
        · refine d.waits entryMode entryWait (calls.1 call) (h.barred m ?_)
          rwa [← wins, ← clears]
        · rw [opened, tells]
          rcases h.won_claim d m wait (calls.1 call) (wins.1 win) (clears.1 free) with first | started
          · exact .inl first
          · exact .inr ⟨started.pump, started.contactor, started.inrush, started.minRun, started.contRun,
              started.confirmed, started.confirm, started.starts, started.window⟩
      · have undecided : Undecided s :=
          ⟨fun _ => by simp [starting], fun listen => nomatch m.symm.trans listen⟩
        obtain ⟨pump, contactor⟩ := h.rests (done (by simp [starting])) (by simp [starting]) undecided
        exact ⟨pump.trans starting, contactor.trans (p.runs (.inl starting)).1⟩
      · rw [stops_iff, ← h.stops_iff books (by simp [running])]
        exact h.running (done (by simp [running])) m running
    · exact h.listening (done fun e => by simp [e] at run) m run
    · have undecided : Undecided s :=
        ⟨fun joined => (nomatch m.symm.trans joined), fun _ => by simp [idle]⟩
      obtain ⟨pump, contactor⟩ := h.rests (done (by simp [idle])) (by simp [idle]) undecided
      exact ⟨pump.trans idle, contactor.trans (h.safe.opened (by simp [idle]))⟩
    · exact h.rests (done sound) hand (undecided_of_apart m)

end Sys2Proof.Machine
end

section
/-! O11. What the stop hold and the rake stop make of the pump and the rake. -/

namespace Sys2Proof.Machine

open Sys2Proof

variable {s t u : State}

/-! ### The pump under the stop hold -/

/-- The duty record of a pump of `s` that a stop has taken out of its run (R62, R63), the loader finished. -/
structure Halted (s : State) (d : Duty) : Prop where
  contactor : d.contactor = false
  pump : d.pump = if s.cfg.tMinOff = 0 then .idle else .lockedOff
  minOff : d.minOff = if s.cfg.tMinOff = 0 then none else some 0

/-- A halted pump is in IDLE or LOCKED_OFF. -/
theorem Halted.rest {d : Duty} (h : Halted s d) : d.pump = .idle ∨ d.pump = .lockedOff := by
  rw [h.pump]
  split
  · exact .inl rfl
  · exact .inr rfl

theorem Halted.of_cfg {d : Duty} (h : Halted s d) (cfg : t.cfg = s.cfg) : Halted t d := by
  obtain ⟨contactor, pump, minOff⟩ := h
  rw [← cfg] at pump minOff
  exact ⟨contactor, pump, minOff⟩

theorem enterLockedOff_halted (shut : s.duty.contactor = true) (l : loaded s = true) :
    Halted s (enterLockedOff s).duty := by
  obtain ⟨contactor, minOff, pump⟩ := enterLockedOff_from_closed shut
  simp only [l, and_true] at pump
  exact ⟨contactor, pump, minOff⟩

/-- A pump that ran with its contactor closed in `s` runs so still, or has been halted. -/
def RunsOrHalted (s : State) (d : Duty) : Prop :=
  ((d.pump = .starting ∨ d.pump = .running) ∧ d.contactor = true) ∨ Halted s d

theorem RunsOrHalted.of_cfg {d : Duty} (h : RunsOrHalted s d) (cfg : t.cfg = s.cfg) :
    RunsOrHalted t d :=
  h.imp_right fun halted => halted.of_cfg cfg

theorem stopAutomatic_runsOrHalted (h : RunsOrHalted s s.duty) (l : loaded s = true) :
    RunsOrHalted s (stopAutomatic s).duty := by
  obtain ⟨run, e⟩ | ⟨-, e⟩ := stopAutomatic_cases s
  · rw [e]
    rcases h with ⟨-, shut⟩ | halted
    · exact .inr (enterLockedOff_halted shut l)
    · rcases halted.rest with rest | rest <;> simp [rest] at run
  · rwa [e]

/-- With no run going on the stop hold opens the contactor, and does nothing more. -/
theorem applyHold_of_rest (hold : stopHold s = true) (starting : s.duty.pump ≠ .starting)
    (running : s.duty.pump ≠ .running) : applyHold s = openContactor s := by
  simp [applyHold, hold, starting, running]

/-- The stop hold halts a pump that runs, and leaves one halted before (R62). -/
theorem applyHold_halts (hold : stopHold s = true) (l : loaded s = true)
    (h : RunsOrHalted s s.duty) : Halted s (applyHold s).duty := by
  rcases h with ⟨run, shut⟩ | halted
  · have stops : applyHold s = enterLockedOff s := by
      rcases run with e | e <;> simp [applyHold, hold, e]
    rw [stops]
    exact enterLockedOff_halted shut l
  · have open_ := openContactor_of_open halted.contactor
    rcases halted.rest with rest | rest
    all_goals rwa [applyHold_of_rest hold (by simp [rest]) (by simp [rest]), open_]

theorem applyHold_inHand (hold : stopHold s = true) (hand : s.duty.pump = .hand) :
    (applyHold s).duty.pump = .hand := by
  rw [applyHold_of_rest hold (by simp [hand]) (by simp [hand])]
  exact (openContactor_pump s).trans hand

/-- A pump whose state and contactor are those of a safe one is left as it is by the closing work. -/
theorem settle_duty_of_kept (p : PumpSafe s) (pump : t.duty.pump = s.duty.pump)
    (contactor : t.duty.contactor = s.duty.contactor) (hold : stopHold t = stopHold s)
    (l : loaded t = loaded s) : (settle t).duty = t.duty := by
  obtain ⟨closed, run, hand, -⟩ := p
  rw [← pump, ← contactor, ← hold, ← l] at closed
  rw [← pump, ← contactor] at run
  rw [← pump, ← contactor, ← hold, ← l] at hand
  cases held : stopHold t with
  | true =>
    have opened : t.duty.contactor = false := Bool.eq_false_iff.2 fun shut =>
      nomatch held.symm.trans (closed shut).2.1
    have rests : ¬(t.duty.pump = .starting ∨ t.duty.pump = .running) := fun moves =>
      nomatch opened.symm.trans (run moves)
    exact settle_duty_of_held held opened (fun e => rests (.inl e)) fun e => rests (.inr e)
  | false =>
    rw [settle_duty]
    by_cases open_ : t.duty.pump = .hand ∧ loaded t = true
    · simp [applyHold, closeInHand, held, hand open_.1 held open_.2]
    · have stays : (t.duty.pump == .hand && loaded t) = false := by simpa using open_
      simp [applyHold, closeInHand, held, Bool.and_right_comm _ _ (loaded t), stays]

/-! ### The rake under the rake stop -/

/-- The screen's record once the rake stop has been applied (R102). -/
def haltedRake (g : Screen) : Screen :=
  match g.rake with
  | .run => { motorOff g with rake := .idle }
  | .wait => { g with rake := .idle }
  | .pause => { g with rake := .idle, pause := none }
  | .idle => g
  | .locked => g

theorem applyRakeStop_of_stop (stop : rakeStop s = true) :
    (applyRakeStop s).screen = haltedRake s.screen := by
  unfold applyRakeStop haltedRake
  rw [if_pos stop]
  cases s.screen.rake <;> rfl

theorem haltedRake_rests (g : Screen) :
    (haltedRake g).rake = .idle ∨ (haltedRake g).rake = .locked := by
  unfold haltedRake
  split
  · exact .inl rfl
  · exact .inl rfl
  · exact .inl rfl
  · exact .inl ‹_›
  · exact .inr ‹_›

theorem haltedRake_of_rest {g : Screen} (rest : g.rake = .idle ∨ g.rake = .locked) :
    haltedRake g = g := by
  rcases rest with e | e <;> simp [haltedRake, e]

/-- A cycle or a wait for one ends in RK_IDLE, no cycle counted and the jam count kept (R102). -/
theorem haltedRake_of_moves {g : Screen} (moves : g.rake = .run ∨ g.rake = .wait ∨ g.rake = .pause) :
    (haltedRake g).rake = .idle
      ∧ (haltedRake g).motor = (if g.rake = .run then false else g.motor)
      ∧ (haltedRake g).jams = g.jams ∧ (haltedRake g).cycles = g.cycles := by
  rcases moves with e | e | e <;> simp [haltedRake, motorOff, e]

theorem haltedRake_motor {g : Screen} (runs : g.motor = true → g.rake = .run) :
    (haltedRake g).motor = false := by
  refine Bool.eq_false_iff.2 fun motor => ?_
  unfold haltedRake at motor
  split at motor
  · exact nomatch motor
  all_goals
    rename_i other
    exact nomatch other.symm.trans (runs motor)

/-- Under the rake stop the closing work ends the rake's cycle, and serves no request (R97, R102). -/
theorem settle_screen_of_stop (stop : rakeStop s = true) :
    (settle s).screen = haltedRake s.screen := by
  have held := applyHold_onlyDuty s
  have only := applyRakeStop_onlyScreen (applyHold s)
  have stillHeld : rakeStop (applyHold s) = true :=
    (rakeStop_congr held.station.isActive held.onlyPlant.line (applyHold_mode s)).trans stop
  have stillStopped : rakeStop (applyRakeStop (applyHold s)) = true :=
    (rakeStop_congr only.onlyPlant.station.isActive only.onlyPlant.line (by rw [only.duty])).trans
      stillHeld
  have unserved : serve s = applyRakeStop (applyHold s) := by
    rw [serve, serveRequest, stillStopped]
    simp
  rw [settle_screen, unserved, applyRakeStop_of_stop stillHeld, applyHold_screen]

/-- A rake that runs under no rake stop is left by the closing work. -/
theorem settle_screen_of_run (stop : rakeStop s = false) (run : s.screen.rake = .run) :
    (settle s).screen = s.screen := by
  have held := applyHold_onlyDuty s
  have unheld : rakeStop (applyHold s) = false :=
    (rakeStop_congr held.station.isActive held.onlyPlant.line (applyHold_mode s)).trans stop
  rw [settle_screen, serve, applyRakeStop, unheld, if_neg Bool.false_ne_true, serveRequest]
  simp [run, applyHold_screen]

/-! ### What leaves the rake -/

/-- The rake is as it was, but that an acknowledgment may have unlocked it (R101). -/
structure RakeKept (g h : Screen) : Prop where
  motor : h.motor = g.motor
  kept : g.rake ≠ .locked → h.rake = g.rake ∧ h.jams = g.jams ∧ h.cycles = g.cycles
  locked : g.rake = .locked → h.rake = .locked ∨ h.rake = .idle

theorem RakeKept.refl (g : Screen) : RakeKept g g := ⟨rfl, fun _ => ⟨rfl, rfl, rfl⟩, .inl⟩

theorem RakeKept.of_same (h : t.screen = s.screen) : RakeKept s.screen t.screen := by
  rw [h]
  exact .refl _

theorem RakeKept.trans {g h i : Screen} (a : RakeKept g h) (b : RakeKept h i) : RakeKept g i := by
  refine ⟨b.motor.trans a.motor, fun free => ?_, fun lock => ?_⟩
  · obtain ⟨rake, jams, cycles⟩ := a.kept free
    obtain ⟨rake', jams', cycles'⟩ := b.kept (rake ▸ free)
    exact ⟨rake'.trans rake, jams'.trans jams, cycles'.trans cycles⟩
  · rcases a.locked lock with e | e
    · exact b.locked e
    · exact .inr ((b.kept (by simp [e])).1.trans e)

theorem RakeKept.of_ite {p : Prop} [Decidable p] {a b : State} {g : Screen}
    (h : RakeKept g a.screen) (k : RakeKept g b.screen) :
    RakeKept g (if p then a else b).screen := by
  split <;> assumption

/-- A rake at rest stays so. -/
theorem RakeKept.rests {g h : Screen} (k : RakeKept g h) (rest : g.rake = .idle ∨ g.rake = .locked) :
    h.rake = .idle ∨ h.rake = .locked := by
  rcases rest with e | e
  · exact .inl ((k.kept (by simp [e])).1.trans e)
  · exact (k.locked e).symm

theorem acknowledge_rakeKept (s : State) : RakeKept s.screen (acknowledge s).screen := by
  by_cases l : loaded s = true
  · have pump : (if faultReleased s (acknowledged s) then leaveFaulted (acknowledged s)
        else acknowledged s).screen = s.screen := by
      rw [← acknowledged_screen s]
      split
      · exact (leaveFaulted_onlyDuty _).screen
      · rfl
    rw [acknowledge_of_loaded l, ← pump]
    unfold releaseWaiting
    generalize (if faultReleased s (acknowledged s) then leaveFaulted (acknowledged s)
        else acknowledged s) = v at pump ⊢
    cases released : rakeReleased s (acknowledged s) with
    | false =>
      rw [if_neg Bool.false_ne_true]
      exact .refl _
    | true =>
      simp only [rakeReleased, Bool.and_eq_true, beq_iff_eq, acknowledged_screen] at released
      obtain ⟨⟨lock, -⟩, -⟩ := released
      rw [← pump] at lock
      rw [if_pos rfl]
      exact ⟨rfl, fun free => absurd lock free, fun _ => .inr rfl⟩
  · rw [acknowledge, if_neg l]
    exact .refl _

theorem acknowledgeFrame_rakeKept (c : Cells) (s : State) :
    RakeKept s.screen (acknowledgeFrame c s).screen := by
  unfold acknowledgeFrame
  split
  · exact (RakeKept.of_same (takeChanges_screen _ s)).trans (acknowledge_rakeKept _)
  · exact .refl _

theorem leaveIfJoined_rakeKept (s : State) : RakeKept s.screen (leaveIfJoined s).screen := by
  have clear : RakeKept s.screen (withdrawAck s).screen := by
    unfold withdrawAck
    dsimp only
    split
    · exact acknowledge_rakeKept { s with alarms := { s.alarms with ackPress := false, ackTown := false } }
    · exact .refl _
  have leave : (leaveJoined s).screen = (dutyLeft s).screen :=
    (reporterLeaves_onlyHouse (dutyLeft s)).screen
  unfold leaveIfJoined
  split
  · rw [leave, (dutyLeft_onlyDuty s).screen]
    exact clear
  · exact .refl _

theorem enterIsolated_rakeKept (s : State) : RakeKept s.screen (enterIsolated s).screen := by
  have isolates : (isolating s).screen = (leaveIfJoined s).screen := by
    unfold isolating
    dsimp only
    split <;> rfl
  rw [enterIsolated_eq, stopAutomatic_screen, breakFrame_screen, isolates]
  exact leaveIfJoined_rakeKept s

theorem countLine_rakeKept (c : Cells) (drive : Option Drive) (s : State) :
    RakeKept s.screen (countLine c drive s).screen := by
  cases m : s.line.mode with
  | listen =>
    rw [countLine_listen m]
    exact .refl _
  | lineFault =>
    rw [countLine_lineFault m]
    exact .refl _
  | isolated =>
    rw [countLine_isolated m]
    exact .refl _
  | joined =>
    by_cases clash : ClashAt c drive (ownAddress s)
    · rw [countLine_clash m clash]
      exact enterIsolated_rakeKept (setLine s (joinedLine c s))
    · rw [countLine_joined m clash]
      exact .refl _

theorem frameCounted_rakeKept (c : Cells) (s : State) :
    RakeKept s.screen (frameCounted c s).screen :=
  (RakeKept.of_same (emptyStale_onlyHouse s (readFrame c s)).screen).trans (countLine_rakeKept c _ _)

theorem retakeFlush_rakeKept (s : State) : RakeKept s.screen (retakeFlush s).screen :=
  .of_ite ⟨rfl, fun _ => ⟨rfl, rfl, rfl⟩, .inl⟩ ⟨rfl, fun _ => ⟨rfl, rfl, rfl⟩, .inl⟩

/-- What follows the plant's blocks at a good frame end leaves the rake. -/
theorem frameEnd_rakeKept (c : Cells) (s : State) :
    RakeKept (plantFrame c s.line.drive (frameCounted c s)).screen (frameEnd c s).screen := by
  have house := houseFrame_onlyHouse s.line.noticeWon c s.line.drive
    (plantFrame c s.line.drive (frameCounted c s))
  rw [frameEnd_eq]
  exact (RakeKept.of_same house.screen).trans (acknowledgeFrame_rakeKept c _)

/-- A good frame end with no start of the rake leaves it as the Duty Controller's work finds it. -/
theorem plantFrame_rakeKept (c : Cells) (s : State) (still : (dutyEntry c s).screen.rake ≠ .wait) :
    RakeKept (dutyEntry c s).screen (plantFrame c s.line.drive (frameCounted c s)).screen := by
  rw [plantFrame_eq]
  generalize (((frameCounted c s).line.mode == .joined) && startWon .duty c s.line.drive
    && !inhibitTakenFirst c (dutyEntry c s)) = won
  have flushed := (RakeKept.of_same (dutyFrame_onlyDuty won (commonOf c) (dutyEntry c s)).screen).trans
    (retakeFlush_rakeKept _)
  have waits : (retakeFlush (dutyFrame won (commonOf c) (dutyEntry c s))).screen.rake ≠ .wait :=
    fun wait => by
      by_cases lock : (dutyEntry c s).screen.rake = .locked
      · rcases flushed.locked lock with e | e <;> simp [e] at wait
      · exact still ((flushed.kept lock).1.symm.trans wait)
  have noStart : rakeFrame (startWon .screen c s.line.drive) (commonOf c)
      (retakeFlush (dutyFrame won (commonOf c) (dutyEntry c s)))
      = retakeFlush (dutyFrame won (commonOf c) (dutyEntry c s)) := by
    simp [rakeFrame, waits]
  rw [noStart]
  exact flushed

end Sys2Proof.Machine
end

section
/-! O11. ALL_STOP, LOW_FLOAT and MODE_OFF, and the ALL_STOP and DRY cells of a good frame. -/

namespace Sys2Proof.Machine

open Sys2Proof

variable {s t u : State}

/-! ### The accepted inputs -/

theorem fallbackStop_runsOrHalted (l : loaded s = true) (h : RunsOrHalted s s.duty)
    (run : s.duty.pump = .starting ∨ s.duty.pump = .running) :
    RunsOrHalted s (fallbackStop s).duty := by
  unfold fallbackStop
  split
  · rcases h with ⟨-, shut⟩ | halted
    · exact .inr (enterLockedOff_halted shut l)
    · rcases halted.rest with rest | rest <;> simp [rest] at run
  · exact h

/-- The local values re-formed leave a run, or end it by the fallback stop (R86). -/
theorem reformLocal_runsOrHalted (shut : s.duty.contactor = true) (l : loaded s = true)
    (run : s.duty.pump = .starting ∨ s.duty.pump = .running) :
    RunsOrHalted s (reformLocal s).duty := by
  by_cases m : s.line.mode = .lineFault
  · rw [reformLocal_eq m l]
    have formed : RunsOrHalted (demandFormed s) (demandFormed s).duty := .inl ⟨run, shut⟩
    exact (fallbackStop_runsOrHalted (s := demandFormed s) l formed run).of_cfg rfl
  · rw [reformLocal, if_neg (by simp [m])]
    exact .inl ⟨run, shut⟩

theorem reformLocal_hand (hand : s.duty.pump = .hand) : (reformLocal s).duty.pump = .hand := by
  unfold reformLocal
  split
  · dsimp only
    unfold fallbackStop
    split
    · rename_i go
      simp [hand] at go
    · exact hand
  · exact hand

/-- The closing work under a stop hold: the contactor opens, HAND stays, and a run that goes on, or was
halted by the event itself, has halted (R62, R63). -/
theorem settle_halts (hold : stopHold u = true) (station : OnlyStation s u)
    (hand : s.duty.pump = .hand → u.duty.pump = .hand)
    (run : s.duty.pump = .starting ∨ s.duty.pump = .running →
      loaded s = true ∧ RunsOrHalted s u.duty) :
    (settle u).duty.contactor = false ∧ (s.duty.pump = .hand → (settle u).duty.pump = .hand)
      ∧ (s.duty.pump = .starting ∨ s.duty.pump = .running → Halted s (settle u).duty) := by
  rw [settle_duty]
  refine ⟨applyHold_contactor hold, fun h => applyHold_inHand hold (hand h), fun runs => ?_⟩
  obtain ⟨l, outcome⟩ := run runs
  exact (applyHold_halts hold (station.loaded.trans l) (outcome.of_cfg station.cfg)).of_cfg
    station.cfg.symm

/-- ALL_STOP or LOW_FLOAT accepted active stops the pump (R62, R63). -/
theorem reformLocal_stops (p : PumpSafe s) (same : t.duty = s.duty) (station : t.cfg = s.cfg)
    (l : loaded t = loaded s) (hold : stopHold t = true) :
    (settle (reformLocal t)).duty.contactor = false
      ∧ (s.duty.pump = .hand → (settle (reformLocal t)).duty.pump = .hand)
      ∧ (s.duty.pump = .starting ∨ s.duty.pump = .running → Halted s (settle (reformLocal t)).duty) := by
  have only := reformLocal_onlyPlant t
  have stays : stopHold (reformLocal t) = true :=
    (stopHold_congr only.station.isActive only.line).trans hold
  obtain ⟨contactor, hand, halts⟩ := settle_halts stays only.station reformLocal_hand fun run => by
    rw [same] at run
    obtain ⟨shut, finished⟩ := p.runs run
    exact ⟨l.trans finished, reformLocal_runsOrHalted (by rw [same]; exact shut) (l.trans finished)
      (by rwa [same])⟩
  rw [same] at hand halts
  exact ⟨contactor, hand, fun run => (halts run).of_cfg station.symm⟩

/-- MODE_OFF accepted active (R59). -/
theorem reformMode_off (p : PumpSafe s) (safe : ModeSafe s) (off : isActive s .modeOff = true) :
    (reformMode s).duty.mode = .off ∧ (reformMode s).screen = s.screen
      ∧ (settle (reformMode s)).duty.contactor = false
      ∧ (settle (reformMode s)).duty.pump
        = if s.duty.pump = .faulted then .faulted else .outOfService := by
  have mode : modeOf (isActive s .modeOff) (isActive s .modeHand) = .off := by rw [off]; rfl
  by_cases same : s.duty.mode = .off
  · have stays : reformMode s = s := by rw [reformMode, mode, if_pos same.symm]
    obtain ⟨out, -⟩ := safe
    rw [stays, settle_duty_of_safe p]
    rcases out same with e | e
    all_goals exact ⟨same, rfl, p.opened (by simp [e]), by simp [e]⟩
  · have changes : reformMode s = answerMode (withMode .off s) := by
      rw [reformMode, mode, if_neg (Ne.symm same)]
      rfl
    have p' := withMode_safe .off p
    rw [changes]
    by_cases stays : s.duty.pump = .faulted ∨ s.duty.pump = .outOfService
    · have answer : answerMode (withMode .off s) = withMode .off s := by
        rcases stays with e | e <;> simp [answerMode, withMode, e]
      rw [answer, settle_duty_of_safe p']
      rcases stays with e | e
      all_goals exact ⟨rfl, rfl, p'.opened (by simp [withMode, e]), by simp [withMode, e]⟩
    · obtain ⟨faulted, out⟩ := not_or.1 stays
      have answer : answerMode (withMode .off s) = enterOutOfService (withMode .off s) := by
        simp [answerMode, withMode, faulted, out]
      have duty := (settle_return p').1
      rw [answer, duty, if_neg faulted]
      exact ⟨openContactor_mode _, (enterOutOfService_onlyDuty _).screen, openContactor_contactor _, rfl⟩

/-- The closing work under a rake stop, of a rake that moved (R102). -/
theorem settle_rake_of_stop (stop : rakeStop u = true) (screen : u.screen = s.screen)
    (moves : s.screen.rake = .run ∨ s.screen.rake = .wait ∨ s.screen.rake = .pause) :
    (settle u).screen.rake = .idle
      ∧ (settle u).screen.motor = (if s.screen.rake = .run then false else s.screen.motor)
      ∧ (settle u).screen.jams = s.screen.jams ∧ (settle u).screen.cycles = s.screen.cycles := by
  rw [settle_screen_of_stop stop, screen]
  exact haltedRake_of_moves moves

/-! ### The cells of a good frame -/

theorem isolating_duty (faulted : s.duty.pump ≠ .faulted) (wait : s.duty.pump ≠ .startWait) :
    (isolating s).duty.pump = s.duty.pump ∧ (isolating s).duty.contactor = s.duty.contactor := by
  have acked : (withdrawAck s).duty = s.duty := by
    unfold withdrawAck
    dsimp only
    split
    · exact acknowledge_duty
        (s := { s with alarms := { s.alarms with ackPress := false, ackTown := false } }) faulted
    · rfl
  have left : (leaveIfJoined s).duty.pump = s.duty.pump
      ∧ (leaveIfJoined s).duty.contactor = s.duty.contactor := by
    unfold leaveIfJoined
    split
    · obtain ⟨-, duty, -⟩ := leaveJoined_spec s
      rw [duty, dutyLeft, acked, if_neg wait, setDuty_duty, acked]
      exact ⟨rfl, rfl⟩
    · exact ⟨rfl, rfl⟩
  unfold isolating
  dsimp only
  rw [← left.1, ← left.2]
  split <;> exact ⟨rfl, rfl⟩

/-- An entry to ISOLATED stops a run (R85). -/
theorem enterIsolated_runsOrHalted (l : loaded s = true)
    (run : s.duty.pump = .starting ∨ s.duty.pump = .running) (shut : s.duty.contactor = true) :
    RunsOrHalted s (enterIsolated s).duty := by
  obtain ⟨pump, contactor⟩ := isolating_duty (s := s) (by rcases run with e | e <;> simp [e])
    (by rcases run with e | e <;> simp [e])
  obtain ⟨duty, -⟩ := breakFrame_plant (isolating s)
  have station := (isolating_leaving s).station.trans (breakFrame_station (isolating s))
  have before : RunsOrHalted (breakFrame (isolating s)) (breakFrame (isolating s)).duty := by
    rw [duty]
    exact .inl ⟨by rwa [pump], contactor.trans shut⟩
  rw [enterIsolated_eq]
  exact (stopAutomatic_runsOrHalted before (station.loaded.trans l)).of_cfg station.cfg.symm

/-- An entry to ISOLATED leaves a pump in HAND (R85). -/
theorem enterIsolated_hand (hand : s.duty.pump = .hand) : (enterIsolated s).duty.pump = .hand := by
  obtain ⟨pump, -⟩ := isolating_duty (s := s) (by simp [hand]) (by simp [hand])
  obtain ⟨duty, -⟩ := breakFrame_plant (isolating s)
  have still : (breakFrame (isolating s)).duty.pump = .hand := by rw [duty, pump, hand]
  rw [enterIsolated_eq]
  obtain ⟨run, -⟩ | ⟨-, e⟩ := stopAutomatic_cases (breakFrame (isolating s))
  · simp [still] at run
  · rw [e, still]

end Sys2Proof.Machine
end

section
/-! O11. What a good frame whose ALL_STOP or DRY cell read dominant leaves. -/

namespace Sys2Proof.Machine

open Sys2Proof

variable {s t u : State} {c : Cells} {won : Bool} {cells : CommonCells}

/-! ### The pump -/

/-- Before the counts of the line a good frame end has changed neither the pump nor the line's state. -/
theorem emptied_same (c : Cells) (s : State) : (emptyStale s (readFrame c s)).duty = s.duty
    ∧ (emptyStale s (readFrame c s)).line.mode = s.line.mode
    ∧ ownAddress (emptyStale s (readFrame c s)) = ownAddress s := by
  have house := emptyStale_onlyHouse s (readFrame c s)
  refine ⟨house.duty, ?_, house.station.own⟩
  rw [house.line]
  rfl

theorem emptied_station (c : Cells) (s : State) : OnlyStation s (emptyStale s (readFrame c s)) :=
  (setLine_station s _).trans (emptyStale_onlyHouse _ _).station

theorem frameCounted_hand (c : Cells) (hand : s.duty.pump = .hand) :
    (frameCounted c s).duty.pump = .hand := by
  by_cases clash : s.line.mode = .joined ∧ ClashAt c s.line.drive (ownAddress s)
  · obtain ⟨joined, clash⟩ := clash
    obtain ⟨duty, line, own⟩ := emptied_same c s
    rw [frameCounted, countLine_clash (by rw [line]; exact joined) (by rw [own]; exact clash)]
    exact enterIsolated_hand (s := setLine _ _) (by rw [setLine_duty, duty, hand])
  · obtain ⟨duty, -⟩ := frameCounted_unclashed (c := c) fun joined at_ => clash ⟨joined, at_⟩
    rw [duty, hand]

/-- The counts of a frame leave a run, or stop it by a clash (R22, R85). -/
theorem frameCounted_runsOrHalted (c : Cells) (p : PumpSafe s)
    (run : s.duty.pump = .starting ∨ s.duty.pump = .running) :
    RunsOrHalted s (frameCounted c s).duty := by
  obtain ⟨shut, l⟩ := p.runs run
  by_cases clash : s.line.mode = .joined ∧ ClashAt c s.line.drive (ownAddress s)
  · obtain ⟨joined, clash⟩ := clash
    obtain ⟨duty, line, own⟩ := emptied_same c s
    have station := emptied_station c s
    rw [frameCounted, countLine_clash (by rw [line]; exact joined) (by rw [own]; exact clash)]
    generalize emptyStale s (readFrame c s) = v at duty station
    generalize e : setLine v (joinedLine c v) = w
    have same : w.duty = s.duty := by
      rw [← e, setLine_duty, duty]
    have kept : OnlyStation s w := e ▸ station.trans (setLine_station v _)
    exact (enterIsolated_runsOrHalted (kept.loaded.trans l) (by rwa [same]) (by rw [same, shut])).of_cfg
      kept.cfg.symm
  · obtain ⟨duty, -⟩ := frameCounted_unclashed (c := c) fun joined at_ => clash ⟨joined, at_⟩
    rw [duty]
    exact .inl ⟨run, shut⟩

/-- The Duty Controller's decision leaves a pump at rest that nothing calls. -/
theorem decided_of_rest {v : State} (call : called v = false)
    (rest : v.duty.pump ∉ [.startWait, .starting, .running]) :
    (decided won cells v).duty.pump = v.duty.pump
      ∧ (decided won cells v).duty.contactor = v.duty.contactor
      ∧ (decided won cells v).duty.minOff = v.duty.minOff := by
  simp only [List.mem_cons, List.not_mem_nil, or_false, not_or] at rest
  obtain ⟨wait, starting, running⟩ := rest
  cases m : v.line.mode with
  | joined =>
    rw [decided_of_joined m]
    unfold pumpWork
    split
    · exact absurd ‹_› wait
    · rw [if_neg]
      · exact ⟨rfl, rfl, rfl⟩
      · exact Bool.eq_false_iff.1 call
    · exact absurd ‹_› running
    all_goals exact ⟨rfl, rfl, rfl⟩
  | listen =>
    have stops : stopAutomatic v = v := by
      obtain ⟨run, -⟩ | ⟨-, e⟩ := stopAutomatic_cases v
      · exact (run.elim starting running).elim
      · exact e
    rw [decided_of_listen m, listenStop, stops, ite_self]
    exact ⟨rfl, rfl, rfl⟩
  | isolated =>
    rw [decided_of_apart (.inl m)]
    exact ⟨rfl, rfl, rfl⟩
  | lineFault =>
    rw [decided_of_apart (.inr m)]
    exact ⟨rfl, rfl, rfl⟩

theorem called_of_noDemand {v : State} (zero : v.stager.dEff = 0) : called v = false := by
  have no : startCondition v = false := by
    refine Bool.eq_false_iff.2 fun start => ?_
    obtain ⟨i, -, lt⟩ := (startCondition_iff v).1 start
    omega
  rw [called, no, Bool.false_and]

theorem dutyFrame_halted (h : Halted s u.duty) (zero : u.stager.dEff = 0) :
    Halted s (dutyFrame won cells u).duty := by
  obtain ⟨keptContactor, -⟩ := formed_keeps cells u
  have keptMinOff : (formed cells u).duty.minOff = u.duty.minOff := by
    rw [formed_duty]
    rfl
  have call := called_of_noDemand (v := formed cells u)
    (by rw [(formed_onlyDuty cells u).onlyClosing.stager, zero])
  have rest : (formed cells u).duty.pump ∉ [.startWait, .starting, .running] := by
    rw [formed_pump]
    rcases h.rest with e | e <;> simp [e]
  obtain ⟨pump, contactor, minOff⟩ := decided_of_rest (won := won) (cells := cells) call rest
  obtain ⟨halted, stopped, timer⟩ := h
  rw [dutyFrame_duty]
  exact ⟨contactor.trans (keptContactor.trans halted), pump.trans ((formed_pump _ _).trans stopped),
    minOff.trans (keptMinOff.trans timer)⟩

/-- A pump that the Duty Controller's work leaves out of STARTING, RUNNING and FAULTED, its contactor
open, is so left by a frame end under the stop hold. -/
theorem settle_frameEnd_duty (hold : stopHold (frameCounted c s) = true)
    (open_ : (plantFrame c s.line.drive (frameCounted c s)).duty.contactor = false)
    (rest : (plantFrame c s.line.drive (frameCounted c s)).duty.pump ∉ [.starting, .running, .faulted]) :
    (settle (frameEnd c s)).duty = (plantFrame c s.line.drive (frameCounted c s)).duty := by
  simp only [List.mem_cons, List.not_mem_nil, or_false, not_or] at rest
  obtain ⟨starting, running, faulted⟩ := rest
  have same := frameEnd_keepsDuty c s faulted
  rw [← same] at open_ starting running
  exact (settle_duty_of_held ((frameEnd_stopHold c s).trans hold) open_ starting running).trans same

/-- A frame end whose ALL_STOP or DRY cell read dominant, outside LINE_FAULT, stops the pump. -/
theorem frameEnd_stops (p : PumpSafe s) (m : s.line.mode ≠ .lineFault)
    (dominant : c.getLsbD 27 = true ∨ c.getLsbD 8 = true) :
    (settle (frameEnd c s)).duty.contactor = false
      ∧ (s.duty.pump = .hand → (settle (frameEnd c s)).duty.pump = .hand)
      ∧ (s.duty.pump = .starting ∨ s.duty.pump = .running → Halted s (settle (frameEnd c s)).duty) := by
  have hold : stopHold (frameCounted c s) = true :=
    (frameCounted_stopHold_iff c s).2 (.inr (.inr (.inr ⟨m, dominant⟩)))
  have before := (formDemand_duty c (frameCounted c s))
  have heldBefore := (formDemand_stopHold c (frameCounted c s)).trans hold
  have work := plantFrame_dutyFrame c s
  refine ⟨?_, fun hand => ?_, fun run => ?_⟩
  · rw [settle_duty]
    exact applyHold_contactor ((frameEnd_stopHold c s).trans hold)
  · have entry : (dutyEntry c s).duty.pump = .hand := by
      rw [dutyEntry_duty]
      exact applyHold_inHand heldBefore (by rw [before, frameCounted_hand c hand])
    have open_ : (dutyEntry c s).duty.contactor = false := by
      rw [dutyEntry_duty]
      exact applyHold_contactor heldBefore
    obtain ⟨pump, contactor⟩ := dutyFrame_undecided (won := frameWon c s) (c := commonOf c)
      (undecided_of_rest (p := dutyEntry c s) (by simp [entry]))
    replace pump : (plantFrame c s.line.drive (frameCounted c s)).duty.pump = .hand := by
      rw [work]
      exact pump.trans entry
    replace contactor : (plantFrame c s.line.drive (frameCounted c s)).duty.contactor = false := by
      rw [work]
      exact contactor.trans open_
    rw [settle_frameEnd_duty hold contactor (by simp [pump]), pump]
  · obtain ⟨-, l⟩ := p.runs run
    have station := frameCounted_station c s
    have finished : loaded (formDemand c (frameCounted c s)) = true :=
      (formDemand_onlyPlant c _).station.loaded.trans (station.loaded.trans l)
    have runs := frameCounted_runsOrHalted c p run
    have entry : Halted s (dutyEntry c s).duty := by
      have cfg := (formDemand_onlyPlant c (frameCounted c s)).station.cfg.trans station.cfg
      rw [dutyEntry_duty]
      exact (applyHold_halts heldBefore finished (by rw [before]; exact runs.of_cfg cfg)).of_cfg cfg.symm
    have zero : (dutyEntry c s).stager.dEff = 0 := by
      rw [dutyEntry_demand c m l]
      rcases dominant with e | e <;> simp [e]
    have halted : Halted s (plantFrame c s.line.drive (frameCounted c s)).duty := by
      rw [work]
      exact dutyFrame_halted entry zero
    rw [settle_frameEnd_duty hold halted.contactor (by rcases halted.rest with e | e <;> simp [e])]
    exact halted

/-! ### The rake -/

theorem frameEnd_line_counted (c : Cells) (s : State) :
    (frameEnd c s).line = (frameCounted c s).line := frameEnd_line_counts c s

/-- The rake stop while a frame whose ALL_STOP cell read dominant is in force, outside LINE_FAULT (R97). -/
theorem rakeStop_of_cell (m : s.line.mode ≠ .lineFault) (dominant : c.getLsbD 27 = true)
    (line : u.line = (frameCounted c s).line) : rakeStop u = true := by
  have fault := mt (frameCounted_keepsPlant c s).fault.1 m
  rw [rakeStop_iff, line, frameCounted_common]
  exact .inr (.inr ⟨fault, dominant⟩)

/-- A frame end whose ALL_STOP cell read dominant, outside LINE_FAULT, stops the rake (R102). -/
theorem frameEnd_stopsRake (r : RakeSafe s) (m : s.line.mode ≠ .lineFault)
    (dominant : c.getLsbD 27 = true) :
    ((settle (frameEnd c s)).screen.rake = .idle ∨ (settle (frameEnd c s)).screen.rake = .locked)
      ∧ (settle (frameEnd c s)).screen.motor = false
      ∧ (s.screen.rake = .run ∨ s.screen.rake = .wait ∨ s.screen.rake = .pause →
          (settle (frameEnd c s)).screen.rake = .idle
          ∧ (settle (frameEnd c s)).screen.jams = s.screen.jams
          ∧ (settle (frameEnd c s)).screen.cycles = s.screen.cycles) := by
  have counted := frameCounted_rakeKept c s
  have line : (applyHold (formDemand c (frameCounted c s))).line = (frameCounted c s).line :=
    (applyHold_onlyDuty _).onlyPlant.line.trans (formDemand_onlyPlant c _).line
  have entry : (dutyEntry c s).screen = haltedRake (frameCounted c s).screen := by
    unfold dutyEntry
    rw [applyRakeStop_of_stop (rakeStop_of_cell m dominant line), applyHold_screen, formDemand_screen]
  have rests := haltedRake_rests (frameCounted c s).screen
  have motor : (haltedRake (frameCounted c s).screen).motor = false := haltedRake_motor fun on => by
    obtain ⟨runs, -⟩ := r
    have run := runs.1 (counted.motor.symm.trans on)
    exact (counted.kept (by simp [run])).1.trans run
  have kept := (plantFrame_rakeKept c s (by rw [entry]; rcases rests with e | e <;> simp [e])).trans
    (frameEnd_rakeKept c s)
  rw [entry] at kept
  have restsAfter := kept.rests rests
  rw [settle_screen_of_stop (rakeStop_of_cell m dominant (frameEnd_line_counted c s)),
    haltedRake_of_rest restsAfter]
  refine ⟨restsAfter, kept.motor.trans motor, fun moves => ?_⟩
  have unlocked : s.screen.rake ≠ .locked := by rcases moves with e | e | e <;> simp [e]
  obtain ⟨rake, jams, cycles⟩ := counted.kept unlocked
  rw [← rake] at moves
  obtain ⟨idle, -, haltedJams, haltedCycles⟩ := haltedRake_of_moves moves
  obtain ⟨rake', jams', cycles'⟩ := kept.kept (by simp [idle])
  exact ⟨rake'.trans idle, jams'.trans (haltedJams.trans jams), cycles'.trans (haltedCycles.trans cycles)⟩

/-! ### LINE_FAULT -/

/-- The cells in force in LINE_FAULT, where neither hold heeds them (R56, R97). -/
theorem stopHold_of_lineFault (m : s.line.mode = .lineFault) (mode : u.line.mode = .lineFault)
    (station : OnlyStation s u) : stopHold u = stopHold s := by
  rw [Bool.eq_iff_iff, stopHold_iff, stopHold_iff, station.isActive, station.isActive, station.isActive,
    m, mode]
  simp

theorem rakeStop_of_lineFault (m : s.line.mode = .lineFault) (mode : u.line.mode = .lineFault)
    (station : OnlyStation s u) (pump : u.duty.mode = s.duty.mode) : rakeStop u = rakeStop s := by
  rw [Bool.eq_iff_iff, rakeStop_iff, rakeStop_iff, station.isActive, pump, m, mode]
  simp

/-- In LINE_FAULT the Duty Controller's work of a good frame end begins in the state that the counts have
left. -/
theorem dutyEntry_of_lineFault (p : PumpSafe s) (r : RakeSafe s) (m : s.line.mode = .lineFault) :
    dutyEntry c s = frameCounted c s ∧ (frameCounted c s).duty = s.duty
      ∧ (frameCounted c s).screen = s.screen ∧ (frameCounted c s).line.mode = .lineFault := by
  obtain ⟨duty, screen, mode⟩ := frameCounted_unclashed (c := c)
    fun joined => nomatch m.symm.trans joined
  have station := frameCounted_station c s
  have fault := mode.trans m
  have safe : PumpSafe (frameCounted c s) :=
    p.congr duty (by rw [screen]) (stopHold_of_lineFault m fault station) station.loaded
  have safeRake : RakeSafe (frameCounted c s) :=
    r.congr screen (rakeStop_of_lineFault m fault station (by rw [duty])) station.loaded
  refine ⟨?_, duty, screen, fault⟩
  unfold dutyEntry
  rw [formDemand_of_lineFault c fault, applyHold_of_safe safe, applyRakeStop_of_safe safeRake]

/-- A good frame end in LINE_FAULT takes no acknowledgment (R124). -/
theorem acknowledgeFrame_of_lineFault (m : s.line.mode = .lineFault) : acknowledgeFrame c s = s := by
  simp [acknowledgeFrame, readsHouse, m]

theorem acknowledged_house_duty (won : Bool) (drive : Option Drive) (m : s.line.mode = .lineFault) :
    (acknowledgeFrame c (houseFrame won c drive s)).duty = s.duty := by
  have house := houseFrame_onlyHouse won c drive s
  rw [acknowledgeFrame_of_lineFault (by rw [house.line, m])]
  exact house.duty

theorem plantFrame_mode (c : Cells) (drive : Option Drive) {m : LineMode} (h : s.line.mode = m) :
    (plantFrame c drive s).line.mode = m := by
  rw [(plantFrame_onlyPlant c drive s).line, h]

theorem frameEnd_duty_of_lineFault (m : (frameCounted c s).line.mode = .lineFault) :
    (frameEnd c s).duty = (plantFrame c s.line.drive (frameCounted c s)).duty := by
  have mode : (plantFrame c s.line.drive (frameCounted c s)).line.mode = .lineFault :=
    plantFrame_mode c s.line.drive m
  have ended := acknowledged_house_duty (c := c) s.line.noticeWon s.line.drive mode
  rw [frameEnd_eq]
  exact ended

theorem FrameBooks.mode {p : State} (h : FrameBooks cells p t) : t.duty.mode = p.duty.mode :=
  congrArg (·.mode) h.kept

theorem frameEnd_mode (c : Cells) (s : State) :
    (frameEnd c s).duty.mode = (dutyEntry c s).duty.mode := by
  rw [← settle_mode, (frameEnd_frameBooks c s).mode]

/-- A good frame end in LINE_FAULT leaves the pump, and a rake that runs. -/
theorem frameEnd_of_lineFault (p : PumpSafe s) (r : RakeSafe s) (m : s.line.mode = .lineFault) :
    (settle (frameEnd c s)).duty.pump = s.duty.pump
      ∧ (settle (frameEnd c s)).duty.contactor = s.duty.contactor
      ∧ (s.screen.rake = .run → (settle (frameEnd c s)).screen.rake = .run
        ∧ (settle (frameEnd c s)).screen.motor = true) := by
  obtain ⟨entry, duty, screen, fault⟩ := dutyEntry_of_lineFault (c := c) p r m
  have station := frameEnd_station c s
  have mode : (frameEnd c s).line.mode = .lineFault := by rw [frameEnd_line_counted, fault]
  have undecided : Undecided (dutyEntry c s) := undecided_of_apart (.inr (by rw [entry, fault]))
  obtain ⟨pump, contactor⟩ := dutyFrame_undecided (won := frameWon c s) (c := commonOf c) undecided
  have work : (frameEnd c s).duty = (dutyFrame (frameWon c s) (commonOf c) (dutyEntry c s)).duty :=
    (frameEnd_duty_of_lineFault fault).trans (plantFrame_dutyFrame c s)
  rw [← work, entry, duty] at pump contactor
  have stays := settle_duty_of_kept p pump contactor (stopHold_of_lineFault m mode station) station.loaded
  rw [stays]
  refine ⟨pump, contactor, fun run => ?_⟩
  obtain ⟨motor, -, -, -, stopped, -⟩ := r
  have free : rakeStop s = false := Bool.eq_false_iff.2 fun stop => by
    rcases stopped stop with e | e <;> simp [run] at e
  have unstopped : rakeStop (frameEnd c s) = false := by
    rw [rakeStop_of_lineFault m mode station (by rw [frameEnd_mode, entry, duty]), free]
  have entryScreen : (dutyEntry c s).screen = s.screen := by rw [entry, screen]
  have kept := (plantFrame_rakeKept c s (by simp [entryScreen, run])).trans (frameEnd_rakeKept c s)
  rw [entryScreen] at kept
  have runs := (kept.kept (by simp [run])).1.trans run
  rw [settle_screen_of_run unstopped runs]
  exact ⟨runs, kept.motor.trans (motor.2 run)⟩

/-! ### The whole -/

/-- ALL_STOP or LOW_FLOAT accepted active stops the pump (R62, R63), and ALL_STOP the rake (R102). -/
theorem settle_reformLocal_stops (p : PumpSafe s) (same : t.duty = s.duty) (cfg : t.cfg = s.cfg)
    (l : loaded t = loaded s) (hold : stopHold t = true) :
    (settle (reformLocal t)).duty.contactor = false
      ∧ (s.duty.pump = .hand → (settle (reformLocal t)).duty.pump = .hand)
      ∧ (s.duty.pump = .starting ∨ s.duty.pump = .running →
          (settle (reformLocal t)).duty.pump = if s.cfg.tMinOff = 0 then .idle else .lockedOff) := by
  obtain ⟨contactor, hand, halts⟩ := reformLocal_stops p same cfg l hold
  exact ⟨contactor, hand, fun run => (halts run).pump⟩

theorem stopHold_of_active (active : isActive s .allStop = true ∨ isActive s .lowFloat = true) :
    stopHold s = true :=
  (stopHold_iff s).2 (active.imp_right .inl)

theorem answerInput_modeOff (s : State) : answerInput .modeOff s = reformMode s := rfl

theorem accepted_step {i : Input} {f : State → State} (due : (inputState s i).due = true)
    (answer : answerInput i (accept i s) = f (accept i s)) :
    exec (.inputAcceptedChange i) s = .next (settle (f (accept i s))) := by
  unfold exec execInputAcceptedChange
  rw [← answer]
  exact taken_of_can (fun s => answerInput i (accept i s)) s due

/-- ALL_STOP or MODE_OFF in force after an accepted change: the rake stops (R97, R102). -/
theorem reformLocal_stopsRake (same : t.screen = s.screen) (active : isActive t .allStop = true)
    (moves : s.screen.rake = .run ∨ s.screen.rake = .wait ∨ s.screen.rake = .pause) :
    (settle (reformLocal t)).screen.rake = .idle
      ∧ (settle (reformLocal t)).screen.motor = (if s.screen.rake = .run then false else s.screen.motor)
      ∧ (settle (reformLocal t)).screen.jams = s.screen.jams
      ∧ (settle (reformLocal t)).screen.cycles = s.screen.cycles := by
  obtain ⟨screen, -⟩ := reformLocal_keeps t
  exact settle_rake_of_stop
    ((rakeStop_iff _).2 (.inl (((reformLocal_onlyPlant t).station.isActive _).trans active)))
    (screen.trans same) moves

theorem reformMode_stopsRake (same : (reformMode t).screen = s.screen)
    (mode : (reformMode t).duty.mode = .off)
    (moves : s.screen.rake = .run ∨ s.screen.rake = .wait ∨ s.screen.rake = .pause) :
    (settle (reformMode t)).screen.rake = .idle
      ∧ (settle (reformMode t)).screen.motor = (if s.screen.rake = .run then false else s.screen.motor)
      ∧ (settle (reformMode t)).screen.jams = s.screen.jams
      ∧ (settle (reformMode t)).screen.cycles = s.screen.cycles :=
  settle_rake_of_stop ((rakeStop_iff _).2 (.inr (.inl mode))) same moves

/-- Settles O11: an input's stop is the closing work's under its hold; a frame's cells form the hold before
the Duty Controller decides, and the demand of 0 that they give calls no pump again. -/
theorem stopsAreTaken : Obligations.StopsAreTaken := by
  refine ⟨?_, fun s => ⟨stopHold_iff s, rakeStop_iff s⟩, ?_⟩
  · rintro i s ⟨n, -⟩ p safe due quiet which
    have active : isActive (accept i s) i = true := by
      rw [isActive_accept_same n, quiet]
      rfl
    rcases which with e | e | e
    · subst e
      refine ⟨_, accepted_step due (answerInput_demand (.inr (.inr rfl)) _), ?_⟩
      generalize made : accept .allStop s = v at active
      obtain ⟨duty, cfg, l, screen⟩ : v.duty = s.duty ∧ v.cfg = s.cfg ∧ loaded v = loaded s
          ∧ v.screen = s.screen := by
        rw [← made]
        exact ⟨rfl, rfl, rfl, rfl⟩
      obtain ⟨contactor, hand, run⟩ := settle_reformLocal_stops p duty cfg l
        (stopHold_of_active (.inl active))
      exact ⟨contactor, fun _ => ⟨hand, run⟩, nofun, fun _ => reformLocal_stopsRake screen active⟩
    · subst e
      refine ⟨_, accepted_step due (answerInput_demand (.inl rfl) _), ?_⟩
      generalize made : accept .lowFloat s = v at active
      obtain ⟨duty, cfg, l⟩ : v.duty = s.duty ∧ v.cfg = s.cfg ∧ loaded v = loaded s := by
        rw [← made]
        exact ⟨rfl, rfl, rfl⟩
      obtain ⟨contactor, hand, run⟩ := settle_reformLocal_stops p duty cfg l
        (stopHold_of_active (.inr active))
      exact ⟨contactor, fun _ => ⟨hand, run⟩, nofun, fun no => absurd rfl no⟩
    · subst e
      have safePump : PumpSafe (accept .modeOff s) := p.accept n nofun nofun nofun
      have safeMode : ModeSafe (accept .modeOff s) := safe
      obtain ⟨mode, same, contactor, pump⟩ := reformMode_off safePump safeMode active
      refine ⟨_, accepted_step due (answerInput_modeOff _), contactor, fun no => absurd rfl no, fun _ => ⟨?_, pump⟩,
        fun _ => reformMode_stopsRake same mode⟩
      exact (settle_mode _).trans mode
  · intro run c s p r inside low high
    have line : (settle (frameEnd c s)).line.common = commonOf c := by
      rw [settle_line, frameEnd_line_counted, frameCounted_common]
    refine ⟨settle (frameEnd c s), ?_, by rw [line]; rfl, by rw [line]; rfl, fun m dominant => ?_,
      fun m dominant => frameEnd_stopsRake r m dominant, fun m => frameEnd_of_lineFault p r m⟩
    · unfold exec execGoodFrameEnd
      exact taken_of_can _ _ (by simp [inside, goodRun, low, high])
    · obtain ⟨contactor, hand, halts⟩ := frameEnd_stops p m dominant
      exact ⟨contactor, hand, fun run => ⟨(halts run).pump, (halts run).minOff⟩⟩

end Sys2Proof.Machine
end

section
/-! O42. The four screen timers. -/

namespace Sys2Proof.Machine

open Sys2Proof

variable {s t u : State}

/-! ### A safe rake under a changed screen -/

/-- A rake that is as it was, with no request that was not there before, is safe still. -/
theorem RakeSafe.calmed (r : RakeSafe s) (rake : SameRake s.screen t.screen)
    (stop : rakeStop t = rakeStop s) (l : loaded t = loaded s)
    (fewer : rakeRequested t = true → rakeRequested s = true) : RakeSafe t := by
  obtain ⟨motor, run, inrush, pause, stopped, before, request, jams⟩ := r
  obtain ⟨sameMotor, sameRake, sameRun, sameInrush, samePause, sameJams⟩ := rake
  unfold RakeSafe
  rw [sameMotor, sameRake, sameRun, sameInrush, samePause, sameJams, stop, l]
  exact ⟨motor, run, inrush, pause, stopped, before, fun idle asks => request idle (fewer asks), jams⟩

/-- A change to another condition, beside BLOCKED, changes the screen's record alone (R94). -/
theorem setCondition_of_other {c : ScreenCondition} (other : s.screen.condition ≠ c)
    (free : c ≠ .blocked) : setCondition c s = setScreen s { s.screen with
      condition := c, highAlarm := if c = .high then some 0 else none, screenHigh := false } := by
  unfold setCondition
  rw [if_neg other]
  exact if_neg free

theorem setCondition_of_same {c : ScreenCondition} (same : s.screen.condition = c) :
    setCondition c s = s := if_pos same

/-- The condition BLOCKED leaves no automatic run of a safe pump (R80). -/
theorem PumpSafe.of_blocked (p : PumpSafe s) (blocked : s.screen.condition = .blocked) :
    s.duty.pump ≠ .starting ∧ s.duty.pump ≠ .running := by
  obtain ⟨-, -, -, -, -, -, -, -, -, -, -, screen⟩ := p
  exact screen blocked

/-- A safe pump stays safe under any condition but BLOCKED. -/
theorem PumpSafe.setScreen {g : Screen} (p : PumpSafe s)
    (condition : g.condition = s.screen.condition ∨ g.condition ≠ .blocked) :
    PumpSafe (setScreen s g) := by
  obtain ⟨closed, run, hand, idle, yielding, blocked, inrush, minRun, confirm, runLoss, confirmed,
    screen⟩ := p
  refine ⟨closed, run, hand, idle, yielding, blocked, inrush, minRun, confirm, runLoss, confirmed,
    fun b => ?_⟩
  rcases condition with same | free
  · exact screen (same.symm.trans b)
  · exact absurd b free

/-! ### The expiries -/

/-- SWITCH_CLEAR_EXPIRY (R92). -/
theorem switchClear_expires (p : PumpSafe s) (r : RakeSafe s) {n : Nat}
    (timer : s.screen.switchClear = some n) (long : s.cfg.dwell * 100 ≤ n) :
    ∃ t, exec .switchClearExpiry s = .next t
      ∧ (s.screen.condition ≠ .clear → Follows { s with screen := { s.screen with
          switchClear := none, condition := .clear, highAlarm := none, screenHigh := false } } t)
      ∧ (s.screen.condition = .clear →
          Follows { s with screen := { s.screen with switchClear := none } } t) := by
  have can : reached s.screen.switchClear (dwellTicks s) = true := (reached_iff _ _).2 ⟨n, timer, long⟩
  unfold exec execSwitchClearExpiry
  refine ⟨_, taken_of_can (fun s => setCondition .clear
    (setScreen s { s.screen with switchClear := none })) s can, fun other => ?_, fun same => ?_⟩
  · have cleared : setCondition .clear (setScreen s { s.screen with switchClear := none })
        = setScreen s { s.screen with
          switchClear := none, condition := .clear, highAlarm := none, screenHigh := false } :=
      setCondition_of_other (s := setScreen s { s.screen with switchClear := none }) other nofun
    rw [cleared]
    refine settle_follows (s := setScreen s _) (p.setScreen (.inr nofun))
      (r.calmed ⟨rfl, rfl, rfl, rfl, rfl, rfl⟩ rfl rfl fun asks => ?_)
    have due : s.screen.intervalDue = true := by
      simpa [rakeRequested] using asks
    simp [rakeRequested, due]
  · have kept : setCondition .clear (setScreen s { s.screen with switchClear := none })
        = setScreen s { s.screen with switchClear := none } :=
      setCondition_of_same (s := setScreen s { s.screen with switchClear := none }) same
    rw [kept]
    exact settle_follows (s := setScreen s _) (p.setScreen (.inl rfl))
      (r.calmed ⟨rfl, rfl, rfl, rfl, rfl, rfl⟩ rfl rfl id)

/-- POST_RAKE_EXPIRY (R80, R92). -/
theorem postRake_expires (p : PumpSafe s) (r : RakeSafe s) {n : Nat}
    (timer : s.screen.postRake = some n) (long : s.cfg.dwell * 100 ≤ n) :
    ∃ t, exec .postRakeExpiry s = .next t
      ∧ (s.screen.condition = .high → t.screen.condition = .blocked ∧ t.screen.postRake = none
          ∧ t.screen.highAlarm = none ∧ t.screen.screenHigh = false
          ∧ t.screen.rake = s.screen.rake
          ∧ t.duty.pump ≠ .starting ∧ t.duty.pump ≠ .running)
      ∧ (s.screen.condition ≠ .high →
          Follows { s with screen := { s.screen with postRake := none } } t) := by
  have can : reached s.screen.postRake (dwellTicks s) = true := (reached_iff _ _).2 ⟨n, timer, long⟩
  have p' : PumpSafe (setScreen s { s.screen with postRake := none }) := p.setScreen (.inl rfl)
  have r' : RakeSafe (setScreen s { s.screen with postRake := none }) :=
    r.calmed ⟨rfl, rfl, rfl, rfl, rfl, rfl⟩ rfl rfl id
  unfold exec execPostRakeExpiry
  refine ⟨_, taken_of_can postRakeStep s can, fun high => ?_, fun other => ?_⟩
  · have step : postRakeStep s = setCondition .blocked (setScreen s { s.screen with postRake := none }) :=
      if_pos high
    have screen : (postRakeStep s).screen = { s.screen with
        postRake := none, condition := .blocked, highAlarm := none, screenHigh := false } := by
      rw [step, setCondition_screen]
      simp [conditioned, high]
    have judged := setCondition_judged .blocked (setScreen s { s.screen with postRake := none })
    have safe := setCondition_safe .blocked p'
    have stop : rakeStop (postRakeStep s) = rakeStop s := by
      rw [step]
      exact rakeStop_congr judged.only.station.isActive judged.only.line judged.mode
    have finished : loaded (postRakeStep s) = loaded s := by
      rw [step]
      exact judged.only.loaded
    rw [← step] at safe
    have safeRake : RakeSafe (postRakeStep s) := by
      refine r.calmed ?_ stop finished fun _ => by simp [rakeRequested, high]
      rw [screen]
      exact ⟨rfl, rfl, rfl, rfl, rfl, rfl⟩
    have blocked : (postRakeStep s).screen.condition = .blocked := by rw [screen]
    rw [settle_screen, serve_of_safe safe safeRake, settle_duty_of_safe safe, screen]
    exact ⟨rfl, rfl, rfl, rfl, rfl, safe.of_blocked blocked⟩
  · have step : postRakeStep s = setScreen s { s.screen with postRake := none } := if_neg other
    rw [step]
    exact settle_follows p' r'

/-- HIGH_ALARM_EXPIRY (R94). -/
theorem highAlarm_expires (p : PumpSafe s) (r : RakeSafe s) {n : Nat}
    (timer : s.screen.highAlarm = some n) (long : s.cfg.dwell * 100 ≤ n) :
    ∃ t, exec .highAlarmExpiry s = .next t
      ∧ Follows { s with screen := { s.screen with highAlarm := none, screenHigh := true } } t := by
  have can : reached s.screen.highAlarm (dwellTicks s) = true := (reached_iff _ _).2 ⟨n, timer, long⟩
  unfold exec execHighAlarmExpiry
  exact taken_follows (f := fun s => setScreen s { s.screen with highAlarm := none, screenHigh := true })
    can (p.setScreen (.inl rfl)) (r.calmed ⟨rfl, rfl, rfl, rfl, rfl, rfl⟩ rfl rfl id)

/-- The interval timer's expiry, in the words of R96. -/
theorem intervalReached_iff {limit : Nat} (e : limit = if s.screen.flush ∧ 0 < s.cfg.flushInterval then
      s.cfg.flushInterval * 6000 else s.cfg.rakeInterval * 6000) : intervalReached s = true ↔
    s.screen.intervalDue = false ∧ 0 < limit ∧ limit ≤ s.screen.interval := by
  unfold intervalReached intervalInUse minutesTicks
  by_cases flush : s.screen.flush = true ∧ 0 < s.cfg.flushInterval
  · rw [if_pos flush] at e
    have positive : 0 < limit := by omega
    simp [flush, ← e, positive]
  · rw [if_neg flush] at e
    have unflushed : (s.screen.flush && decide (0 < s.cfg.flushInterval)) = false := by simpa using flush
    by_cases rakes : 0 < s.cfg.rakeInterval
    · have positive : 0 < limit := by omega
      simp [unflushed, rakes, ← e, positive]
    · have zero : limit = 0 := by omega
      simp [unflushed, rakes, zero]

/-- A request that stands is served where the rake is idle and no rake stop is in force (R97). -/
theorem serveRequest_of_due (due : s.screen.intervalDue = true) :
    (serveRequest s).screen = { s.screen with
      rake := if s.screen.rake = .idle ∧ rakeStop s = false ∧ loaded s = true then .wait
        else s.screen.rake } := by
  have asked : (s.screen.rake == .idle && rakeRequested s && !rakeStop s && loaded s) = true
      ↔ s.screen.rake = .idle ∧ rakeStop s = false ∧ loaded s = true := by
    simp [rakeRequested, due, and_assoc]
  simp only [serveRequest, asked]
  split <;> rfl

/-- INTERVAL_TIMER_EXPIRY (R96, R97). -/
theorem interval_expires (p : PumpSafe s) (r : RakeSafe s) (undue : s.screen.intervalDue = false)
    {limit : Nat} (e : limit = if s.screen.flush ∧ 0 < s.cfg.flushInterval then
      s.cfg.flushInterval * 6000 else s.cfg.rakeInterval * 6000) (positive : 0 < limit)
    (long : limit ≤ s.screen.interval) :
    ∃ t, exec .intervalTimerExpiry s = .next t ∧ Follows { s with screen := { s.screen with
      intervalDue := true
      rake := if s.screen.rake = .idle ∧ rakeStop s = false ∧ loaded s = true then .wait
        else s.screen.rake } } t := by
  have can : intervalReached s = true := (intervalReached_iff e).2 ⟨undue, positive, long⟩
  have step : expireInterval s = setScreen s { s.screen with intervalDue := true } := if_pos can
  have safe : PumpSafe (setScreen s { s.screen with intervalDue := true }) := p.setScreen (.inl rfl)
  obtain ⟨stop, served⟩ := r.served (t := setScreen s { s.screen with intervalDue := true })
    ⟨rfl, rfl, rfl, rfl, rfl, rfl⟩ rfl rfl
  have follows := settle_follows_served safe stop served
  have screen : (settle (setScreen s { s.screen with intervalDue := true })).screen
      = (serveRequest (setScreen s { s.screen with intervalDue := true })).screen := by
    rw [settle_screen, serve, applyHold_of_safe safe, stop]
  rw [screen, serveRequest_of_due rfl] at follows
  unfold exec execIntervalTimerExpiry
  refine ⟨_, taken_of_can expireInterval s can, ?_⟩
  rw [step]
  exact follows

end Sys2Proof.Machine
end

section
/-! O42. The screen at a gate end, and in DIFF. -/

namespace Sys2Proof.Machine

open Sys2Proof

variable {s t u v : State}

/-! ### A change of condition -/

/-- The screen's record at a change of its condition, whether it changes or not (R94). -/
theorem conditioned_eq (c : ScreenCondition) (g : Screen) : conditioned c g = { g with
    condition := c
    highAlarm := if g.condition = c then g.highAlarm else if c = .high then some 0 else none
    screenHigh := if g.condition = c then g.screenHigh else false } := by
  unfold conditioned
  by_cases same : g.condition = c
  · subst same
    simp
  · simp [same]

theorem setCondition_screen_eq (c : ScreenCondition) (s : State) :
    (setCondition c s).screen = { s.screen with
      condition := c
      highAlarm := if s.screen.condition = c then s.screen.highAlarm else if c = .high then some 0 else none
      screenHigh := if s.screen.condition = c then s.screen.screenHigh else false } := by
  rw [setCondition_screen, conditioned_eq]

/-! ### DIFF (R90, R91) -/

/-- Δ and the three runs brought up to date at a gate end in DIFF. -/
def diffFormed (s : State) : State :=
  setScreen s { s.screen with
    delta := s.chanB.e - s.chanA.e
    aboveBlocked := if s.cfg.deltaB ≤ s.chanB.e - s.chanA.e then s.screen.aboveBlocked + 1 else 0
    belowRake := if s.chanB.e - s.chanA.e < s.cfg.deltaR then s.screen.belowRake + 1 else 0
    belowBlocked := if s.chanB.e - s.chanA.e < s.cfg.deltaB then s.screen.belowBlocked + 1 else 0 }

theorem diffGate_eq (s : State) :
    diffGate s = setCondition (diffCondition (diffFormed s)) (diffFormed s) := rfl

theorem diffGate_screen (s : State) : (diffGate s).screen = { (diffFormed s).screen with
    condition := diffCondition (diffFormed s)
    highAlarm := if s.screen.condition = diffCondition (diffFormed s) then s.screen.highAlarm
      else if diffCondition (diffFormed s) = .high then some 0 else none
    screenHigh := if s.screen.condition = diffCondition (diffFormed s) then s.screen.screenHigh
      else false } := by
  rw [diffGate_eq, setCondition_screen_eq]
  rfl

/-- The condition of DIFF, in the words of R91. -/
theorem diffCondition_eq (s : State) : diffCondition s =
    if s.screen.rake = .locked ∧ s.cfg.deltaR ≤ s.screen.delta then .blocked
    else if 2 * s.cfg.dwell ≤ s.screen.belowRake then .clear
    else if s.screen.condition = .unknown ∨ s.screen.condition = .clear then
      if s.cfg.deltaR ≤ s.screen.delta then .high else s.screen.condition
    else if s.screen.condition = .high then
      if 2 * s.cfg.dwell ≤ s.screen.aboveBlocked then .blocked else .high
    else if 2 * s.cfg.dwell ≤ s.screen.belowBlocked ∧ s.screen.rake ≠ .locked then .high
    else .blocked := by
  unfold diffCondition dwellGates
  cases condition : s.screen.condition <;> simp [condition]

/-- A gate end in DIFF: its differential, its runs, its condition, and the pump that a BLOCKED screen
stops. -/
theorem diffGate_spec (h : t = diffGate s) :
    t.screen.delta = s.chanB.e - s.chanA.e
    ∧ t.screen.aboveBlocked
        = (if s.cfg.deltaB ≤ t.screen.delta then s.screen.aboveBlocked + 1 else 0)
    ∧ t.screen.belowRake = (if t.screen.delta < s.cfg.deltaR then s.screen.belowRake + 1 else 0)
    ∧ t.screen.belowBlocked
        = (if t.screen.delta < s.cfg.deltaB then s.screen.belowBlocked + 1 else 0)
    ∧ t.screen.condition =
        (if s.screen.rake = .locked ∧ s.cfg.deltaR ≤ t.screen.delta then .blocked
        else if 2 * s.cfg.dwell ≤ t.screen.belowRake then .clear
        else if s.screen.condition = .unknown ∨ s.screen.condition = .clear then
          if s.cfg.deltaR ≤ t.screen.delta then .high else s.screen.condition
        else if s.screen.condition = .high then
          if 2 * s.cfg.dwell ≤ t.screen.aboveBlocked then .blocked else .high
        else if 2 * s.cfg.dwell ≤ t.screen.belowBlocked ∧ s.screen.rake ≠ .locked then .high
        else .blocked)
    ∧ (s.screen.condition ≠ .blocked → t.screen.condition = .blocked →
        t.duty.pump ≠ .starting ∧ t.duty.pump ≠ .running) := by
  have screen := diffGate_screen s
  rw [← h] at screen
  rw [screen]
  refine ⟨rfl, rfl, rfl, rfl, diffCondition_eq (diffFormed s), fun free blocked => ?_⟩
  replace blocked : diffCondition (diffFormed s) = .blocked := blocked
  have other : (diffFormed s).screen.condition ≠ .blocked := free
  rw [h, diffGate_eq, blocked, setCondition, if_neg other]
  exact stopAutomatic_rests _

/-! ### The sensing mode chosen again (R89) -/

theorem leaveSensing_screen (s : State) : (leaveSensing s).screen = { s.screen with
    condition := .unknown, aboveBlocked := 0, belowRake := 0, belowBlocked := 0
    switchClear := none, postRake := none, highAlarm := none, screenHigh := false } := by
  unfold leaveSensing
  dsimp only
  rw [setCondition_screen_eq]
  rfl

/-- SCREEN_SW as found by a screen of UNKNOWN condition (R92). -/
theorem findSwitch_screen_of_unknown (h : s.screen.condition = .unknown)
    (post : s.screen.postRake = none)
    (alarm : s.screen.highAlarm = none ∧ s.screen.screenHigh = false) :
    (findSwitch s).screen = { s.screen with
      condition := if isActive s .screenSw = true then .high else .unknown
      switchClear := if isActive s .screenSw = false then some 0 else none
      highAlarm := if isActive s .screenSw = true then some 0 else none } := by
  obtain ⟨highAlarm, screenHigh⟩ := alarm
  unfold findSwitch
  cases active : isActive s .screenSw with
  | true =>
    simp only [if_true]
    rw [if_pos (.inl h), setCondition_screen_eq]
    simp [h, screenHigh]
  | false =>
    simp [h, post, highAlarm]

/-- The state in which a mode has been chosen anew, once left. -/
def chosen (s : State) : State := enterSensing (sensingOf s) (handOn (leaveSensing s))

theorem chosen_screen (s : State) : (chosen s).screen = { s.screen with
    sensing := some (sensingOf s)
    condition := if sensingOf s = .switch ∧ isActive s .screenSw = true then .high else .unknown
    aboveBlocked := 0, belowRake := 0, belowBlocked := 0, postRake := none
    switchClear := if sensingOf s = .switch ∧ isActive s .screenSw = false then some 0 else none
    highAlarm := if sensingOf s = .switch ∧ isActive s .screenSw = true then some 0 else none
    screenHigh := false } := by
  have left : (handOn (leaveSensing s)).screen = _ := (handOn_screen _).trans (leaveSensing_screen s)
  have active : isActive (handOn (leaveSensing s)) .screenSw = isActive s .screenSw :=
    ((handOn_onlyClosing _).station.isActive _).trans ((leaveSensing_onlyPlant s).station.isActive _)
  unfold chosen enterSensing
  generalize handOn (leaveSensing s) = v at left active
  dsimp only
  by_cases m : sensingOf s = .switch
  · rw [if_pos m, findSwitch_screen_of_unknown]
    · have same : isActive (setScreen v { v.screen with sensing := some (sensingOf s) }) .screenSw
          = isActive s .screenSw := active
      rw [same, setScreen_screen, left]
      simp [m]
    all_goals
      rw [setScreen_screen, left]
    exact ⟨rfl, rfl⟩
  · rw [if_neg m, setScreen_screen, left]
    simp [m]

/-- The sensing mode that a gate end leaves. -/
def nextSensing (s : State) : Option SensingMode :=
  if s.chanA.changed = true ∨ s.chanB.changed = true then some (sensingOf s) else s.screen.sensing

/-- The screen's mode and condition at a gate end, before the flush state is taken. -/
def measured (s : State) : State :=
  let v := if s.chanA.changed || s.chanB.changed then chooseSensing s else s
  if v.screen.sensing = some .diff then diffGate v else v

theorem screenGate_eq (s : State) : screenGate s = retakeFlush (measured s) := rfl

theorem measured_of_same (same : nextSensing s = s.screen.sensing) :
    measured s = if s.screen.sensing = some .diff then diffGate s else s := by
  have stays : (if s.chanA.changed || s.chanB.changed then chooseSensing s else s) = s := by
    unfold nextSensing at same
    by_cases changed : s.chanA.changed = true ∨ s.chanB.changed = true
    · rw [if_pos changed] at same
      rw [if_pos (by simpa using changed)]
      exact if_pos same.symm
    · rw [if_neg (by simpa using changed)]
  unfold measured
  rw [stays]

theorem measured_of_other (other : nextSensing s ≠ s.screen.sensing) :
    nextSensing s = some (sensingOf s)
      ∧ measured s = if sensingOf s = .diff then diffGate (chosen s) else chosen s := by
  unfold nextSensing at other ⊢
  by_cases changed : s.chanA.changed = true ∨ s.chanB.changed = true
  · rw [if_pos changed] at other ⊢
    have chooses : (if s.chanA.changed || s.chanB.changed then chooseSensing s else s) = chosen s := by
      rw [if_pos (by simpa using changed)]
      exact if_neg (Ne.symm other)
    have sensing : (chosen s).screen.sensing = some (sensingOf s) := by rw [chosen_screen]
    unfold measured
    rw [chooses]
    dsimp only
    rw [sensing]
    exact ⟨rfl, by simp⟩
  · rw [if_neg changed] at other
    exact absurd rfl other

/-! ### The flush state (R95, R96) -/

theorem retakeFlush_screen (s : State) : (retakeFlush s).screen = { s.screen with
    flush := inFlush s
    intervalDue := s.screen.intervalDue
      || intervalReached (setScreen s { s.screen with flush := inFlush s }) } := by
  unfold retakeFlush expireInterval
  cases reached : intervalReached (setScreen s { s.screen with flush := inFlush s }) <;> simp

theorem retakeFlush_duty (s : State) : (retakeFlush s).duty = s.duty := by
  unfold retakeFlush expireInterval
  split <;> rfl

/-- In flush, in the words of R95. -/
theorem inFlush_iff (s : State) : inFlush s = true ↔
    (0 < s.cfg.flushThreshold ∧ offersLevel s.chanA = true
        ∧ (s.cfg.flushThreshold : Int) ≤ s.chanA.rate)
      ∨ (s.line.mode ≠ .lineFault ∧ s.line.common.overflow = true) := by
  simp [inFlush, cellUsed, and_assoc]

theorem screenGate_screen (s : State) : (screenGate s).screen = { (measured s).screen with
    flush := inFlush (measured s)
    intervalDue := (measured s).screen.intervalDue || intervalReached
      (setScreen (measured s) { (measured s).screen with flush := inFlush (measured s) }) } := by
  rw [screenGate_eq, retakeFlush_screen]

/-! ### What a gate end leaves of the screen -/

/-- What the mode and the condition judged leave: the rake's cycle and the interval timer. -/
def SameCycle (g h : Screen) : Prop :=
  h.rake = g.rake ∧ h.motor = g.motor ∧ h.jams = g.jams ∧ h.cycles = g.cycles
    ∧ h.interval = g.interval ∧ h.pause = g.pause ∧ h.intervalDue = g.intervalDue

theorem SameCycle.trans {g h i : Screen} (a : SameCycle g h) (b : SameCycle h i) : SameCycle g i := by
  obtain ⟨rake, motor, jams, cycles, interval, pause, due⟩ := a
  obtain ⟨rake', motor', jams', cycles', interval', pause', due'⟩ := b
  exact ⟨rake'.trans rake, motor'.trans motor, jams'.trans jams, cycles'.trans cycles,
    interval'.trans interval, pause'.trans pause, due'.trans due⟩

theorem diffGate_sameCycle (s : State) : SameCycle s.screen (diffGate s).screen := by
  rw [diffGate_screen]
  exact ⟨rfl, rfl, rfl, rfl, rfl, rfl, rfl⟩

theorem chosen_sameCycle (s : State) : SameCycle s.screen (chosen s).screen := by
  rw [chosen_screen]
  exact ⟨rfl, rfl, rfl, rfl, rfl, rfl, rfl⟩

theorem measured_sameCycle (s : State) : SameCycle s.screen (measured s).screen := by
  by_cases same : nextSensing s = s.screen.sensing
  · rw [measured_of_same same]
    split
    · exact diffGate_sameCycle s
    · exact ⟨rfl, rfl, rfl, rfl, rfl, rfl, rfl⟩
  · rw [(measured_of_other same).2]
    split
    · exact (chosen_sameCycle s).trans (diffGate_sameCycle _)
    · exact chosen_sameCycle s

theorem diffGate_sensing (s : State) : (diffGate s).screen.sensing = s.screen.sensing := by
  rw [diffGate_screen]
  rfl

theorem measured_sensing (s : State) : (measured s).screen.sensing = nextSensing s := by
  by_cases same : nextSensing s = s.screen.sensing
  · rw [measured_of_same same, same]
    split
    · exact diffGate_sensing s
    · rfl
  · obtain ⟨next, e⟩ := measured_of_other same
    have sensing : (chosen s).screen.sensing = some (sensingOf s) := by rw [chosen_screen]
    rw [e, next, ← sensing]
    split
    · exact diffGate_sensing _
    · rfl

/-- The gate end's measurements see the settings, the line and the channels as they were. -/
theorem measured_onlyClosing (s : State) : OnlyClosing s (measured s) := by
  by_cases same : nextSensing s = s.screen.sensing
  · rw [measured_of_same same]
    split
    · exact (diffGate_judged s).only
    · rfl
  · have choose : OnlyClosing s (chosen s) :=
      (leaveSensing_judged s).only.trans ((handOn_judged _).only.trans (enterSensing_judged _ _).only)
    rw [(measured_of_other same).2]
    split
    · exact choose.trans (diffGate_judged _).only
    · exact choose

/-! ### The clauses of a gate end -/

/-- A new mode beside DIFF: the condition as SCREEN_SW gives it, nothing counted (R89, R92). -/
theorem measured_of_switch (other : (measured s).screen.sensing ≠ s.screen.sensing)
    (undiff : (measured s).screen.sensing ≠ some .diff) :
    (measured s).screen = (chosen s).screen ∧ (measured s).screen.sensing = some (sensingOf s) := by
  rw [measured_sensing] at other undiff ⊢
  obtain ⟨next, e⟩ := measured_of_other other
  rw [next] at undiff
  rw [e, if_neg fun diff => undiff (congrArg some diff)]
  exact ⟨rfl, next⟩

theorem measured_of_diff (other : (measured s).screen.sensing ≠ s.screen.sensing)
    (diff : (measured s).screen.sensing = some .diff) : measured s = diffGate (chosen s) := by
  rw [measured_sensing] at other diff
  obtain ⟨next, e⟩ := measured_of_other other
  rw [e, if_pos (Option.some.inj (next.symm.trans diff))]

theorem measured_of_still (same : (measured s).screen.sensing = s.screen.sensing) :
    measured s = if s.screen.sensing = some .diff then diffGate s else s :=
  measured_of_same ((measured_sensing s).symm.trans same)

/-- DIFF newly chosen (R89 to R91). -/
theorem diffGate_chosen (s : State) : (diffGate (chosen s)).screen.delta = s.chanB.e - s.chanA.e
    ∧ (diffGate (chosen s)).screen.aboveBlocked
        = (if s.cfg.deltaB ≤ (diffGate (chosen s)).screen.delta then 1 else 0)
    ∧ (diffGate (chosen s)).screen.belowRake
        = (if (diffGate (chosen s)).screen.delta < s.cfg.deltaR then 1 else 0)
    ∧ (diffGate (chosen s)).screen.belowBlocked
        = (if (diffGate (chosen s)).screen.delta < s.cfg.deltaB then 1 else 0)
    ∧ (sensingOf s = .diff → (diffGate (chosen s)).screen.switchClear = none
      ∧ (diffGate (chosen s)).screen.postRake = none
      ∧ (diffGate (chosen s)).screen.condition =
        (if s.screen.rake = .locked ∧ s.cfg.deltaR ≤ (diffGate (chosen s)).screen.delta then .blocked
        else if 2 * s.cfg.dwell ≤ (diffGate (chosen s)).screen.belowRake then .clear
        else if s.cfg.deltaR ≤ (diffGate (chosen s)).screen.delta then .high else .unknown)) := by
  obtain ⟨delta, above, rake, blocked, condition, -⟩ := diffGate_spec (s := chosen s) rfl
  have kept := (leaveSensing_judged s).only.trans
    ((handOn_judged _).only.trans (enterSensing_judged (sensingOf s) _).only)
  have cfg : (chosen s).cfg = s.cfg := kept.cfg
  have chanA : (chosen s).chanA = s.chanA := kept.chanA
  have chanB : (chosen s).chanB = s.chanB := kept.chanB
  have screen := chosen_screen s
  rw [chanA, chanB] at delta
  rw [cfg, screen] at above rake blocked condition
  refine ⟨delta, above, rake, blocked, fun diff => ?_⟩
  have timers : (diffGate (chosen s)).screen.switchClear = (chosen s).screen.switchClear
      ∧ (diffGate (chosen s)).screen.postRake = (chosen s).screen.postRake := by
    rw [diffGate_screen]
    exact ⟨rfl, rfl⟩
  rw [condition, timers.1, timers.2, screen]
  simp [diff]

end Sys2Proof.Machine
end

section
/-! O42. The screen at a gate end, whole; SCREEN_SW and RAKE_LIMIT. -/

namespace Sys2Proof.Machine

open Sys2Proof

variable {s t u v : State}

/-! ### The high alarm at a gate end (R94) -/

theorem measured_alarm_kept (condition : (measured s).screen.condition = s.screen.condition)
    (sensing : (measured s).screen.sensing = s.screen.sensing) :
    (measured s).screen.highAlarm = s.screen.highAlarm
      ∧ (measured s).screen.screenHigh = s.screen.screenHigh := by
  rw [measured_of_still sensing] at condition ⊢
  split
  · rename_i diff
    rw [if_pos diff, diffGate_screen] at condition
    rw [diffGate_screen]
    exact ⟨if_pos condition.symm, if_pos condition.symm⟩
  · exact ⟨rfl, rfl⟩

theorem diffGate_alarm (s : State) (other : s.screen.condition ≠ (diffGate s).screen.condition
      ∨ s.screen.condition = .unknown ∧ s.screen.highAlarm = none ∧ s.screen.screenHigh = false) :
    (diffGate s).screen.highAlarm = (if (diffGate s).screen.condition = .high then some 0 else none)
      ∧ (diffGate s).screen.screenHigh = false := by
  rw [diffGate_screen] at other ⊢
  by_cases same : s.screen.condition = diffCondition (diffFormed s)
  · rcases other with differs | ⟨unknown, alarm, high⟩
    · exact absurd same differs
    · have calm : diffCondition (diffFormed s) ≠ .high := fun e => by
        simp [unknown, e] at same
      simp [same, alarm, high, calm]
  · simp [same]

theorem measured_alarm_new (other : (measured s).screen.condition ≠ s.screen.condition
      ∨ (measured s).screen.sensing ≠ s.screen.sensing) :
    (measured s).screen.highAlarm
        = (if (measured s).screen.condition = .high then some 0 else none)
      ∧ (measured s).screen.screenHigh = false := by
  by_cases sensing : (measured s).screen.sensing = s.screen.sensing
  · have condition := other.resolve_right (not_not.2 sensing)
    rw [measured_of_still sensing] at condition ⊢
    split
    · rename_i diff
      rw [if_pos diff] at condition
      exact diffGate_alarm s (.inl condition.symm)
    · rename_i diff
      rw [if_neg diff] at condition
      exact absurd rfl condition
  · by_cases diff : (measured s).screen.sensing = some .diff
    · rw [measured_sensing] at sensing diff
      obtain ⟨next, e⟩ := measured_of_other sensing
      have mode : sensingOf s = .diff := Option.some.inj (next.symm.trans diff)
      rw [e, if_pos mode]
      refine diffGate_alarm _ (.inr ?_)
      rw [chosen_screen]
      simp [mode]
    · rw [(measured_of_switch sensing diff).1, chosen_screen]
      by_cases high : sensingOf s = .switch ∧ isActive s .screenSw = true
      · simp [high]
      · simp [high]

/-! ### The gate end, whole -/

/-- The sensing mode of a gate end, in the words of R89. -/
theorem nextSensing_eq (s : State) : nextSensing s =
    if s.chanA.changed = true ∨ s.chanB.changed = true then
      some (if offersLevel s.chanA = true ∧ offersLevel s.chanB = true then .diff
        else if s.cfg.screenSwitchFitted then .switch else .none)
    else s.screen.sensing := by
  simp [nextSensing, sensingOf]

/-- The fields that the flush state leaves. -/
theorem screenGate_measured (s : State) : (screenGate s).screen.sensing = (measured s).screen.sensing
    ∧ (screenGate s).screen.delta = (measured s).screen.delta
    ∧ (screenGate s).screen.condition = (measured s).screen.condition
    ∧ (screenGate s).screen.aboveBlocked = (measured s).screen.aboveBlocked
    ∧ (screenGate s).screen.belowRake = (measured s).screen.belowRake
    ∧ (screenGate s).screen.belowBlocked = (measured s).screen.belowBlocked
    ∧ (screenGate s).screen.switchClear = (measured s).screen.switchClear
    ∧ (screenGate s).screen.postRake = (measured s).screen.postRake
    ∧ (screenGate s).screen.highAlarm = (measured s).screen.highAlarm
    ∧ (screenGate s).screen.screenHigh = (measured s).screen.screenHigh := by
  rw [screenGate_screen]
  exact ⟨rfl, rfl, rfl, rfl, rfl, rfl, rfl, rfl, rfl, rfl⟩

theorem screenGate_cycle (s : State) : (screenGate s).screen.rake = s.screen.rake
    ∧ (screenGate s).screen.motor = s.screen.motor ∧ (screenGate s).screen.jams = s.screen.jams
    ∧ (screenGate s).screen.cycles = s.screen.cycles
    ∧ (screenGate s).screen.interval = s.screen.interval
    ∧ (screenGate s).screen.pause = s.screen.pause := by
  obtain ⟨rake, motor, jams, cycles, interval, pause, -⟩ := measured_sameCycle s
  rw [screenGate_screen]
  exact ⟨rake, motor, jams, cycles, interval, pause⟩

theorem screenGate_flush (s : State) : (screenGate s).screen.flush = true ↔
    (0 < s.cfg.flushThreshold ∧ offersLevel s.chanA = true
        ∧ (s.cfg.flushThreshold : Int) ≤ s.chanA.rate)
      ∨ (s.line.mode ≠ .lineFault ∧ s.line.common.overflow = true) := by
  have only := measured_onlyClosing s
  have flush : (screenGate s).screen.flush = inFlush (measured s) := by rw [screenGate_screen]
  rw [flush, inFlush_iff, only.cfg, only.chanA, only.line]

theorem screenGate_intervalDue {limit : Nat}
    (e : limit = if (screenGate s).screen.flush ∧ 0 < s.cfg.flushInterval then
      s.cfg.flushInterval * 6000 else s.cfg.rakeInterval * 6000) :
    (screenGate s).screen.intervalDue = true ↔ s.screen.intervalDue = true
      ∨ 0 < limit ∧ limit ≤ s.screen.interval := by
  obtain ⟨-, -, -, -, interval, -, due⟩ := measured_sameCycle s
  have only := measured_onlyClosing s
  rw [screenGate_screen] at e ⊢
  rw [← only.cfg] at e
  have reached := intervalReached_iff
    (s := setScreen (measured s) { (measured s).screen with flush := inFlush (measured s) }) e
  rw [setScreen_screen] at reached
  dsimp only at reached ⊢
  rw [Bool.or_eq_true, reached, due, interval]
  cases s.screen.intervalDue <;> simp

/-! ### SCREEN_SW (R92) -/

/-- The closing work leaves the screen's condition and its timers. -/
theorem settle_timers (s : State) : (settle s).screen.switchClear = s.screen.switchClear
    ∧ (settle s).screen.postRake = s.screen.postRake
    ∧ (settle s).screen.condition = s.screen.condition := by
  have stop : ∀ v : State, (applyRakeStop v).screen.switchClear = v.screen.switchClear
      ∧ (applyRakeStop v).screen.postRake = v.screen.postRake := fun v => by
    unfold applyRakeStop
    split
    · split <;> exact ⟨rfl, rfl⟩
    · exact ⟨rfl, rfl⟩
  have request : ∀ v : State, (serveRequest v).screen.switchClear = v.screen.switchClear
      ∧ (serveRequest v).screen.postRake = v.screen.postRake := fun v => by
    unfold serveRequest
    split <;> exact ⟨rfl, rfl⟩
  obtain ⟨clear, post⟩ := stop (applyHold s)
  obtain ⟨clear', post'⟩ := request (applyRakeStop (applyHold s))
  rw [applyHold_screen] at clear post
  rw [settle_screen]
  exact ⟨clear'.trans clear, post'.trans post, (serve_screen s).2⟩

theorem findSwitch_of_active (active : isActive s .screenSw = true) : findSwitch s =
    if s.screen.condition = .unknown ∨ s.screen.condition = .clear then
      setCondition .high (setScreen s { s.screen with switchClear := none })
    else setScreen s { s.screen with switchClear := none } := if_pos active

/-- SCREEN_SW accepted active in SWITCH (R92). -/
theorem takeSwitch_of_active (active : isActive s .screenSw = true) :
    (takeSwitch s).screen.switchClear = none
      ∧ (takeSwitch s).screen.postRake = s.screen.postRake
      ∧ (takeSwitch s).screen.condition = (if s.screen.rake = .locked then .blocked
        else if s.screen.condition = .unknown ∨ s.screen.condition = .clear then .high
        else s.screen.condition) := by
  unfold takeSwitch
  by_cases lock : s.screen.rake = .locked
  · rw [if_pos ⟨active, lock⟩, setCondition_screen_eq, if_pos lock]
    exact ⟨rfl, rfl, rfl⟩
  · rw [if_neg fun both => lock both.2, if_neg lock, findSwitch_of_active active]
    by_cases calm : s.screen.condition = .unknown ∨ s.screen.condition = .clear
    · rw [if_pos calm, if_pos calm, setCondition_screen_eq]
      exact ⟨rfl, rfl, rfl⟩
    · rw [if_neg calm, if_neg calm]
      exact ⟨rfl, rfl, rfl⟩

/-- SCREEN_SW accepted inactive in SWITCH (R92). -/
theorem takeSwitch_of_inactive (inactive : isActive s .screenSw = false) :
    (takeSwitch s).screen.switchClear = some 0 ∧ (takeSwitch s).screen.postRake = none
      ∧ (takeSwitch s).screen.condition = s.screen.condition := by
  have found : takeSwitch s = setScreen s { s.screen with switchClear := some 0, postRake := none } := by
    simp [takeSwitch, findSwitch, inactive]
  rw [found]
  exact ⟨rfl, rfl, rfl⟩

theorem answerInput_screenSw (sensing : s.screen.sensing = some .switch) :
    answerInput .screenSw s = takeSwitch s := if_pos sensing

/-! ### RAKE_LIMIT (R99) -/

/-- The closing work of a rake in RK_IDLE: a standing request is served (R97). -/
theorem settle_screen_of_idle (idle : s.screen.rake = .idle) : (settle s).screen = { s.screen with
    rake := if (s.screen.condition = .high ∨ s.screen.condition = .blocked
        ∨ s.screen.intervalDue = true) ∧ rakeStop s = false ∧ loaded s = true then .wait
      else .idle } := by
  have held := applyHold_onlyDuty s
  have screen := applyHold_screen s
  have stop : applyRakeStop (applyHold s) = applyHold s := by
    unfold applyRakeStop
    split
    · rw [screen, idle]
    · rfl
  have free : rakeStop (applyHold s) = rakeStop s :=
    rakeStop_congr held.station.isActive held.onlyPlant.line (applyHold_mode s)
  have asked : ((applyHold s).screen.rake == .idle && rakeRequested (applyHold s)
        && !rakeStop (applyHold s) && loaded (applyHold s)) = true
      ↔ (s.screen.condition = .high ∨ s.screen.condition = .blocked ∨ s.screen.intervalDue = true)
        ∧ rakeStop s = false ∧ loaded s = true := by
    simp [rakeRequested, screen, idle, free, held.station.loaded, and_assoc, or_assoc]
  rw [settle_screen, serve, stop, serveRequest]
  simp only [asked]
  split
  · rw [setScreen_screen, screen]
  · rw [screen, ← idle]

theorem answerInput_rakeLimit (active : isActive s .rakeLimit = true) (run : s.screen.rake = .run) :
    answerInput .rakeLimit s = completeCycle s := by
  have answer : answerInput .rakeLimit s = limitActivated s := if_pos active
  rw [answer]
  exact if_pos run

/-- A completed cycle, and the request that follows it (R97, R99). -/
theorem settle_completeCycle (s : State) :
    (settle (completeCycle s)).screen = { (completeCycle s).screen with
      rake := if (s.screen.condition = .high ∨ s.screen.condition = .blocked) ∧ rakeStop s = false
        ∧ loaded s = true then .wait else .idle } := by
  have stop : rakeStop (completeCycle s) = rakeStop s := rakeStop_congr (fun _ => rfl) rfl rfl
  have finished : loaded (completeCycle s) = loaded s := rfl
  have undue : (completeCycle s).screen.intervalDue = false := rfl
  have condition : (completeCycle s).screen.condition = s.screen.condition := rfl
  rw [settle_screen_of_idle rfl, stop, finished, undue, condition]
  simp

/-! ### The whole -/

/-- Settles O42: the expiries one by one; a gate end by whether it keeps its sensing mode and whether that is
DIFF; the two accepted inputs by what the closing work leaves of the screen. -/
theorem screenTimersExpire : Obligations.ScreenTimersExpire := by
  refine ⟨fun s n p r => switchClear_expires p r, fun s n p r => postRake_expires p r,
    fun s n p r => highAlarm_expires p r,
    fun s limit p r undue e positive long => interval_expires p r undue e positive long,
    fun s t made => ?_, fun s t => diffGate_spec, fun s ⟨n, _⟩ due sensing => ?_,
    fun s ⟨n, _⟩ due quiet run => ?_⟩
  · obtain ⟨sensing, delta, condition, above, rake, blocked, clear, post, alarm, high⟩ :=
      screenGate_measured s
    have cycle := screenGate_cycle s
    have due := fun limit => screenGate_intervalDue (s := s) (limit := limit)
    have flush := screenGate_flush s
    have duty : (screenGate s).duty = (measured s).duty := retakeFlush_duty (measured s)
    rw [← made] at sensing delta condition above rake blocked clear post alarm high cycle due flush duty
    obtain ⟨sameRake, motor, jams, cycles, interval, pause⟩ := cycle
    rw [sensing, delta, condition, above, rake, blocked, clear, post, alarm, high, duty]
    refine ⟨(measured_sensing s).trans (nextSensing_eq s), fun other undiff => ?_, fun same undiff => ?_, fun same diff => ?_,
      fun other diff => ?_, measured_alarm_kept, measured_alarm_new, sameRake, motor, jams, cycles,
      interval, pause, due, flush⟩
    · obtain ⟨screen, mode⟩ := measured_of_switch other undiff
      rw [mode, screen, chosen_screen]
      simp
    · rw [measured_of_still same, if_neg (same ▸ undiff)]
      exact ⟨rfl, rfl, rfl, rfl⟩
    · rw [measured_of_still same, if_pos (same ▸ diff)]
      refine ⟨fun g e => ?_, rfl⟩
      subst e
      exact ⟨rfl, rfl, rfl, rfl, rfl⟩
    · obtain ⟨formed, runAbove, runRake, runBlocked, decided⟩ := diffGate_chosen s
      have mode : sensingOf s = .diff := by
        rw [measured_sensing] at other diff
        exact Option.some.inj ((measured_of_other other).1.symm.trans diff)
      rw [measured_of_diff other diff]
      exact ⟨formed, runAbove, runRake, runBlocked, decided mode⟩
  · have answer : answerInput .screenSw (accept .screenSw s) = takeSwitch (accept .screenSw s) :=
      answerInput_screenSw sensing
    have accepted := isActive_accept_same n .screenSw
    refine ⟨_, accepted_step due answer, ?_⟩
    obtain ⟨clear, post, condition⟩ := settle_timers (takeSwitch (accept .screenSw s))
    rw [clear, post, condition]
    exact ⟨fun was => takeSwitch_of_active (accepted.trans (by rw [was]; rfl)),
      fun was => takeSwitch_of_inactive (accepted.trans (by rw [was]; rfl))⟩
  · have active : isActive (accept .rakeLimit s) .rakeLimit = true := by
      rw [isActive_accept_same n, quiet]
      rfl
    have allStop : isActive (accept .rakeLimit s) .allStop = isActive s .allStop :=
      isActive_accept_other n nofun
    have stop : rakeStop (accept .rakeLimit s) = rakeStop s := by
      rw [Bool.eq_iff_iff, rakeStop_iff, rakeStop_iff, allStop]
      rfl
    have switch : isActive (accept .rakeLimit s) .screenSw = isActive s .screenSw :=
      isActive_accept_other n nofun
    refine ⟨_, accepted_step due (answerInput_rakeLimit active run), ?_⟩
    rw [settle_completeCycle, stop, completeCycle, switch]
    exact ⟨rfl, rfl, rfl, rfl, rfl, rfl, rfl, rfl, rfl, rfl⟩

end Sys2Proof.Machine
end

section
/-! O43. The rake's timers: the end of its inrush, a jam, and the end of its pause. -/

namespace Sys2Proof.Machine

open Sys2Proof

variable {s t : State}

/-! ### A rake out of RK_IDLE -/

theorem RakeSafe.fits (r : RakeSafe s) : RakeFits (loaded s) s.screen := by
  obtain ⟨motor, run, inrush, pause, -, before, -, jams⟩ := r
  exact ⟨motor, run, inrush, pause, before, jams⟩

/-- Out of RK_IDLE and RK_LOCKED a safe rake is under no rake stop (R102). -/
theorem RakeSafe.unstopped (r : RakeSafe s) (moves : s.screen.rake ≠ .idle)
    (free : s.screen.rake ≠ .locked) : rakeStop s = false := by
  obtain ⟨-, -, -, -, stopped, -⟩ := r
  exact Bool.eq_false_iff.2 fun stop => (stopped stop).elim moves free

/-- Out of RK_IDLE no request is there to be served: what fits the rake and the rake stop is safe. -/
theorem RakeFits.safe (f : RakeFits (loaded s) s.screen) (stopped : RakeStopped s)
    (moves : s.screen.rake ≠ .idle) : RakeSafe s := by
  obtain ⟨motor, run, inrush, pause, before, jams⟩ := f
  exact ⟨motor, run, inrush, pause, stopped, before, fun idle => absurd idle moves, jams⟩

/-- Judging the screen leaves a safe rake safe out of RK_IDLE, where it brings no request to serve. -/
theorem RakeSafe.judged (r : RakeSafe s) (k : Judged s t) (moves : s.screen.rake ≠ .idle) :
    RakeSafe t := by
  have fits : RakeFits (loaded t) t.screen := k.only.loaded ▸ r.fits.same k.rake
  have stop : rakeStop t = rakeStop s := rakeStop_congr k.only.station.isActive k.only.line k.mode
  obtain ⟨-, rake, -⟩ := k.rake
  obtain ⟨-, -, -, -, stopped, -⟩ := r
  exact fits.safe (fun h => rake ▸ stopped (stop.symm.trans h)) (rake ▸ moves)

/-- The closing work of a safe pump and rake leaves the screen. -/
theorem settle_screen_of_safe (p : PumpSafe s) (r : RakeSafe s) : (settle s).screen = s.screen := by
  rw [settle_screen, serve_of_safe p r]

/-! ### The inrush and the pause (R99, R100) -/

/-- RAKE_INRUSH_EXPIRY (R99). -/
theorem rakeInrush_expires (p : PumpSafe s) (r : RakeSafe s) {n : Nat}
    (timer : s.screen.rakeInrush = some n) (long : 200 ≤ n) :
    ∃ t, exec .rakeInrushExpiry s = .next t
      ∧ Follows { s with screen := { s.screen with rakeInrush := none } } t := by
  have can : reached s.screen.rakeInrush (secondsTicks 2) = true := (reached_iff _ _).2 ⟨n, timer, long⟩
  obtain ⟨motor, run, -, rest⟩ := r
  unfold exec execRakeInrushExpiry
  exact taken_follows (f := fun s => setScreen s { s.screen with rakeInrush := none })
    can (p.setScreen (.inl rfl)) ⟨motor, run, nofun, rest⟩

/-- PAUSE_TIMER_EXPIRY (R100): the rake waits to run. -/
theorem pause_expires (p : PumpSafe s) (r : RakeSafe s) {n : Nat}
    (timer : s.screen.pause = some n) (long : 3000 ≤ n) :
    ∃ t, exec .pauseTimerExpiry s = .next t
      ∧ Follows { s with screen := { s.screen with rake := .wait, pause := none } } t := by
  obtain ⟨motor, run, inrush, pause, before, bound, jams⟩ := r.fits
  have paused : s.screen.rake = .pause := pause.1 (by rw [timer]; rfl)
  have can : (s.screen.rake == .pause && reached s.screen.pause (secondsTicks 30)) = true := by
    rw [(reached_iff _ (secondsTicks 30)).2 ⟨n, timer, long⟩, paused]
    rfl
  have finished : loaded s = true := r.fits.loaded_of (by simp [paused])
  have free : rakeStop s = false := r.unstopped (by simp [paused]) (by simp [paused])
  rw [paused] at motor run inrush jams
  have fits : RakeFits (loaded s) { s.screen with rake := .wait, pause := none } :=
    ⟨by simpa using motor, by simpa using run, by simpa using inrush, by simp,
      fun early => absurd (finished.symm.trans early) nofun, bound, by simpa using jams⟩
  unfold exec execPauseTimerExpiry
  exact taken_follows (f := fun s => setScreen s { s.screen with rake := .wait, pause := none })
    can (p.setScreen (.inl rfl))
    (RakeFits.safe (s := setScreen s _) fits (fun stop => absurd (free.symm.trans stop) nofun) nofun)

/-! ### A jam (R100, R101) -/

/-- What every jam does (R100): the pulse of RAKE_JAM begins and the motor is off, its timers stopped; the
rake rests in `rake` with its jams counted and its pause timer. -/
def jammed (s : State) (jams : Nat) (rake : RakeState) (pause : Timer) : State :=
  { s with
    alarms := { s.alarms with rakeJam := some 0 }
    screen := { s.screen with
      motor := false, rakeRun := none, rakeInrush := none, jams := jams, rake := rake, pause := pause } }

theorem jamRake_of_first (first : s.screen.jams = 0) : jamRake s = jammed s 1 .pause (some 0) := by
  simp [jamRake, motorOff, first, jammed, setScreen]

theorem jamRake_of_second (second : s.screen.jams = 1) :
    jamRake s = judgeLocked (jammed s 2 .locked s.screen.pause) := by
  simp [jamRake, motorOff, second, jammed, setScreen]

/-- A jam of a running rake is safe before the screen is judged, in RK_PAUSE after the first and in
RK_LOCKED after the second. -/
theorem jammed_safe (p : PumpSafe s) (r : RakeSafe s) (run : s.screen.rake = .run) {jams : Nat}
    {rake : RakeState} {pause : Timer} (moves : rake ≠ .idle) (rests : rake ≠ .run)
    (bound : jams ≤ 2) (lock : jams = 2 ↔ rake = .locked) (rest : pause.isSome = true ↔ rake = .pause) :
    PumpSafe (jammed s jams rake pause) ∧ RakeSafe (jammed s jams rake pause) := by
  have finished : loaded s = true := r.fits.loaded_of (by simp [run])
  have free : rakeStop s = false := r.unstopped (by simp [run]) (by simp [run])
  refine ⟨p.congr rfl rfl rfl rfl, RakeFits.safe ?_ (fun stop => absurd (free.symm.trans stop) nofun) moves⟩
  exact ⟨iff_of_false nofun rests, iff_of_false nofun rests, nofun, rest,
    fun early => absurd (finished.symm.trans early) nofun, bound, lock⟩

theorem judgeLocked_judged (s : State) : Judged s (judgeLocked s) := by
  unfold judgeLocked
  split
  · exact .of_ite (setCondition_judged _ s) (.refl s)
  · exact .of_ite (setCondition_judged _ s) (.refl s)
  · exact .refl s
  · exact .refl s

/-- The screen judged as the rake locks: BLOCKED in DIFF at Δ_R or more, and in SWITCH with SCREEN_SW active
(R91, R92). -/
theorem judgeLocked_blocked (h : s.screen.sensing = some .diff ∧ s.cfg.deltaR ≤ s.screen.delta
      ∨ s.screen.sensing = some .switch ∧ isActive s .screenSw = true) :
    (judgeLocked s).screen.condition = .blocked := by
  unfold judgeLocked
  rcases h with ⟨sensing, high⟩ | ⟨sensing, active⟩
  · simp only [sensing, high, if_true]
    exact setCondition_condition _ s
  · simp only [sensing, active, if_true]
    exact setCondition_condition _ s

/-- The first jam rests the rake in RK_PAUSE (R100). -/
theorem first_jam (p : PumpSafe s) (r : RakeSafe s) (run : s.screen.rake = .run)
    (first : s.screen.jams = 0) :
    Follows (jammed s 1 .pause (some 0)) (settle (jamRake s))
      ∧ (settle (jamRake s)).alarms.rakeJam = some 0 ∧ (settle (jamRake s)).screen.motor = false := by
  obtain ⟨safe, safeRake⟩ := jammed_safe (jams := 1) (rake := .pause) (pause := some 0) p r run
    nofun nofun (by decide) (by decide) (by decide)
  rw [jamRake_of_first first, settle_screen_of_safe safe safeRake, settle_rakeJam]
  exact ⟨settle_follows safe safeRake, rfl, rfl⟩

/-- The second jam locks the rake, and the screen is judged at once (R91, R92, R101). -/
theorem second_jam (p : PumpSafe s) (r : RakeSafe s) (run : s.screen.rake = .run)
    (second : s.screen.jams = 1) :
    (settle (jamRake s)).alarms.rakeJam = some 0
      ∧ SameRake (jammed s 2 .locked s.screen.pause).screen (settle (jamRake s)).screen
      ∧ (s.screen.sensing = some .diff ∧ s.cfg.deltaR ≤ s.screen.delta
          ∨ s.screen.sensing = some .switch ∧ isActive s .screenSw = true →
        (settle (jamRake s)).screen.condition = .blocked
          ∧ (settle (jamRake s)).duty.pump ≠ .starting ∧ (settle (jamRake s)).duty.pump ≠ .running) := by
  obtain ⟨-, -, -, pause, -⟩ := r.fits
  have unpaused : ¬s.screen.pause.isSome = true := fun on => nomatch run.symm.trans (pause.1 on)
  obtain ⟨safe, safeRake⟩ := jammed_safe (jams := 2) (rake := .locked) p r run
    nofun nofun (by decide) (by decide) (iff_of_false unpaused nofun)
  have judged := judgeLocked_judged (jammed s 2 .locked s.screen.pause)
  rw [jamRake_of_second second, settle_rakeJam, settle_screen_of_safe (judged.safe safe)
    (safeRake.judged judged nofun), settle_duty_of_safe (judged.safe safe)]
  refine ⟨judged.only.rakeJam, judged.rake, fun reason => ?_⟩
  have blocked := judgeLocked_blocked (s := jammed s 2 .locked s.screen.pause) reason
  exact ⟨blocked, (judged.safe safe).of_blocked blocked⟩

/-- RAKE_JAM (R100, R101). -/
theorem rakeJam_taken (p : PumpSafe s) (r : RakeSafe s) {n : Nat} (timer : s.screen.rakeRun = some n)
    (long : s.cfg.tRake * 100 ≤ n) :
    ∃ t, exec .rakeJam s = .next t ∧ t.alarms.rakeJam = some 0 ∧ t.screen.motor = false
      ∧ (s.screen.jams = 0 → Follows { s with
          alarms := { s.alarms with rakeJam := some 0 }
          screen := { s.screen with
            motor := false, rakeRun := none, rakeInrush := none, jams := 1, rake := .pause
            pause := some 0 } } t)
      ∧ (s.screen.jams = 1 → t.screen.rake = .locked ∧ t.screen.jams = 2
          ∧ t.screen.rakeRun = none
          ∧ (s.screen.sensing = some .diff → s.cfg.deltaR ≤ s.screen.delta →
              t.screen.condition = .blocked ∧ t.duty.pump ≠ .starting ∧ t.duty.pump ≠ .running)
          ∧ (s.screen.sensing = some .switch → isActive s .screenSw = true →
              t.screen.condition = .blocked ∧ t.duty.pump ≠ .starting ∧ t.duty.pump ≠ .running)) := by
  obtain ⟨-, runs, -, -, -, bound, lock⟩ := r.fits
  have run : s.screen.rake = .run := runs.1 (by rw [timer]; rfl)
  have can : (s.screen.rake == .run && reached s.screen.rakeRun (secondsTicks s.cfg.tRake)) = true := by
    rw [(reached_iff _ (secondsTicks s.cfg.tRake)).2 ⟨n, timer, long⟩, run]
    rfl
  have unlocked : s.screen.jams ≠ 2 := fun two => nomatch run.symm.trans (lock.1 two)
  refine ⟨_, taken_of_can jamRake s can, ?_⟩
  obtain first | second : s.screen.jams = 0 ∨ s.screen.jams = 1 := by omega
  · obtain ⟨follows, pulse, motor⟩ := first_jam p r run first
    exact ⟨pulse, motor, fun _ => follows, fun second => nomatch first.symm.trans second⟩
  · obtain ⟨pulse, ⟨motor, rake, rakeRun, -, -, jams⟩, judged⟩ := second_jam p r run second
    exact ⟨pulse, motor, fun first => (nomatch second.symm.trans first),
      fun _ => ⟨rake, jams, rakeRun, fun sensing high => judged (.inl ⟨sensing, high⟩),
        fun sensing active => judged (.inr ⟨sensing, active⟩)⟩⟩

end Sys2Proof.Machine
end

section
/-! O43. The start of the rake at a won claim. -/

namespace Sys2Proof.Machine

open Sys2Proof

variable {s u : State} {c : Cells}

/-! ### What follows the rake's start at a good frame end -/

theorem releaseWaiting_screen (b : State) (free : s.screen.rake ≠ .locked) :
    (releaseWaiting b s).screen = s.screen := by
  have released : rakeReleased b s = false := by simp [rakeReleased, free]
  simp only [releaseWaiting, released, Bool.false_eq_true, if_false]
  split
  · exact (leaveFaulted_onlyDuty s).screen
  · rfl

/-- An acknowledgment reaches the screen's record only where the rake is locked (R101). -/
theorem acknowledge_screen (free : s.screen.rake ≠ .locked) : (acknowledge s).screen = s.screen := by
  have acked := acknowledged_screen s
  by_cases l : loaded s = true
  · rw [acknowledge_of_loaded l, releaseWaiting_screen s (by rwa [acked]), acked]
  · rw [acknowledge, if_neg l]

theorem acknowledgeFrame_screen (free : s.screen.rake ≠ .locked) :
    (acknowledgeFrame c s).screen = s.screen := by
  have changed := takeChanges_screen (changeFirst s) s
  unfold acknowledgeFrame
  split
  · exact (acknowledge_screen (by rwa [changed])).trans changed
  · rfl

/-- What follows the plant's blocks at a good frame end leaves the screen of a rake that is not locked. -/
theorem frameEnd_screen (free : (plantFrame c s.line.drive (frameCounted c s)).screen.rake ≠ .locked) :
    (frameEnd c s).screen = (plantFrame c s.line.drive (frameCounted c s)).screen := by
  have house := (houseFrame_onlyHouse s.line.noticeWon c s.line.drive
    (plantFrame c s.line.drive (frameCounted c s))).screen
  rw [frameEnd_eq]
  exact (acknowledgeFrame_screen (by rwa [house])).trans house

theorem rakeFrame_of_clear {cells : CommonCells} (wait : s.screen.rake = .wait)
    (joined : s.line.mode = .joined) (inrush : cells.inrush = false) (supply : cells.supplyLow = false)
    (stop : cells.allStop = false) (quiet : s.duty.supplyQuiet = 51) (free : rakeStop s = false) :
    rakeFrame true cells s = startRake s := by
  simp [rakeFrame, wait, joined, inrush, supply, stop, quiet, free]

/-! ### A won claim of the rake -/

/-- A good frame end with nothing in the way of the rake's start (R98). -/
structure RakeClaim (c : Cells) (s : State) : Prop where
  joined : s.line.mode = .joined
  agree : ¬ClashAt c s.line.drive (ownAddress s)
  won : startWon .screen c s.line.drive = true
  wait : s.screen.rake = .wait
  inrush : c.getLsbD 19 = false
  supply : c.getLsbD 24 = false
  stop : c.getLsbD 27 = false
  quiet : 50 ≤ s.duty.supplyQuiet
  allStop : isActive s .allStop = false
  mode : s.duty.mode ≠ .off

namespace RakeClaim

/-- No rake stop is in force from the reading of the frame on (R97). -/
theorem unstopped (h : RakeClaim c s) (station : OnlyStation s u)
    (line : u.line = (frameCounted c s).line) (mode : u.duty.mode = s.duty.mode) :
    rakeStop u = false := by
  have cell : (commonOf c).allStop = false := h.stop
  simp [rakeStop, cellUsed, station.isActive, h.allStop, line, frameCounted_common, cell, mode, h.mode]

theorem counted (h : RakeClaim c s) : (frameCounted c s).duty = s.duty
    ∧ (frameCounted c s).screen = s.screen ∧ (frameCounted c s).line.mode = .joined := by
  obtain ⟨duty, screen, mode⟩ := frameCounted_unclashed fun _ => h.agree
  exact ⟨duty, screen, mode.trans h.joined⟩

theorem entry_mode (h : RakeClaim c s) : (dutyEntry c s).duty.mode = s.duty.mode := by
  obtain ⟨duty, -⟩ := h.counted
  have books := congrArg (·.mode) (dutyEntry_keepsBooks c s).books
  exact books.trans (congrArg (·.mode) duty)

theorem entry_screen (h : RakeClaim c s) : (dutyEntry c s).screen = s.screen := by
  obtain ⟨duty, screen, -⟩ := h.counted
  have held := (formDemand_onlyPlant c (frameCounted c s)).trans
    (applyHold_onlyDuty (formDemand c (frameCounted c s))).onlyPlant
  have free : rakeStop (applyHold (formDemand c (frameCounted c s))) = false :=
    h.unstopped ((frameCounted_station c s).trans held.station) held.line
      (by rw [applyHold_mode, formDemand_duty, duty])
  rw [dutyEntry, applyRakeStop, free, if_neg Bool.false_ne_true, applyHold_screen, formDemand_screen,
    screen]

/-- The rake's claim is taken, and its run begins (R98, R99). -/
theorem starts (h : RakeClaim c s) : ∃ v, plantFrame c s.line.drive (frameCounted c s) = startRake v
    ∧ v.screen.cycles = s.screen.cycles ∧ v.screen.condition = s.screen.condition := by
  obtain ⟨-, -, joined⟩ := h.counted
  have entry := dutyEntry_onlyPlant c s
  rw [plantFrame_eq, h.won]
  generalize (((frameCounted c s).line.mode == .joined) && startWon .duty c s.line.drive
    && !inhibitTakenFirst c (dutyEntry c s)) = won
  have books := dutyFrame_frameBooks won (commonOf c) (dutyEntry c s)
  have work := dutyFrame_onlyDuty won (commonOf c) (dutyEntry c s)
  have flush := retakeFlush_onlyPlant (dutyFrame won (commonOf c) (dutyEntry c s))
  have duty := retakeFlush_duty (dutyFrame won (commonOf c) (dutyEntry c s))
  have screen := retakeFlush_screen (dutyFrame won (commonOf c) (dutyEntry c s))
  have line := flush.line.trans (books.line.trans entry.line)
  have station := (dutyEntry_station c s).trans (work.station.trans flush.station)
  have quiet : (dutyFrame won (commonOf c) (dutyEntry c s)).duty.supplyQuiet = 51 := by
    have cell : (commonOf c).supplyLow = false := h.supply
    have long := h.quiet
    rw [books.supplyQuiet, cell, (dutyEntry_keepsCounts c s).supplyQuiet]
    simp only [Bool.false_eq_true, if_false, satSucc]
    omega
  rw [work.screen, h.entry_screen] at screen
  have free := h.unstopped station line (by rw [duty, books.mode, h.entry_mode])
  exact ⟨_, rakeFrame_of_clear (by rw [screen]; exact h.wait) (by rw [line, joined]) h.inrush h.supply
    h.stop (by rw [duty, quiet]) free, by rw [screen], by rw [screen]⟩

/-- The run stands at the end of the frame's work, and the closing work leaves it (R99). -/
theorem settled (h : RakeClaim c s) : ∃ v, (settle (frameEnd c s)).screen = (startRake v).screen
    ∧ v.screen.cycles = s.screen.cycles ∧ v.screen.condition = s.screen.condition := by
  obtain ⟨v, start, kept⟩ := h.starts
  have screen : (frameEnd c s).screen = (startRake v).screen := by
    rw [frameEnd_screen (by rw [start]; nofun), start]
  have free : rakeStop (frameEnd c s) = false := h.unstopped (frameEnd_station c s)
    (frameEnd_line_counted c s) (by rw [frameEnd_mode, h.entry_mode])
  exact ⟨v, by rw [settle_screen_of_run free (by rw [screen]; rfl), screen], kept⟩

end RakeClaim

/-! ### The whole -/

/-- Settles O43: the three timers one by one, a jam by whether it is the first; the start by what a won claim
passes through on its way to the closing work. -/
theorem rakeTimersExpire : Obligations.RakeTimersExpire := by
  refine ⟨fun s n p r => rakeInrush_expires p r, fun s n p r => rakeJam_taken p r,
    fun s n p r => pause_expires p r, ?_⟩
  intro run c s d joined inside low high drive key wait agree inrush supply stop quiet allStop mode
  have same : ∀ e, s.line.mode = .joined → s.line.drive = some e → ∀ i ∈ [1, 2, 3, 4, 5, 6, 7],
      c.getLsbD (stationCell (ownAddress s) + i) = true →
        e.cells.getLsbD (stationCell (ownAddress s) + i) = true := fun e _ own =>
    Option.some.inj (drive.symm.trans own) ▸ agree
  have claim : RakeClaim c s := ⟨joined, not_clashAt_of same joined, startWon_iff.2 ⟨d, drive, key⟩, wait,
    inrush, supply, stop, quiet, allStop, mode⟩
  obtain ⟨v, screen, cycles, condition⟩ := claim.settled
  refine ⟨settle (frameEnd c s), ?_, ?_⟩
  · unfold exec execGoodFrameEnd
    exact taken_of_can _ _ (by simp [inside, goodRun, low, high])
  · rw [screen]
    exact ⟨rfl, rfl, rfl, rfl, cycles, condition⟩

end Sys2Proof.Machine
end

section
/-! O45. The spill rate of a head, along the points of the spill table. -/

namespace Sys2Proof.Machine

open Sys2Proof

variable {h b : Nat} {heads rates : List Nat}

/-! ### A table that climbs -/

/-- Neighbours related by a relation that passes on are what Mathlib calls a pairwise related list. -/
theorem climbs_iff_pairwise {r : Nat → Nat → Prop} [DecidableRel r] [IsTrans Nat r] (l : List Nat) :
    climbs (fun a b => decide (r a b)) l = true ↔ l.Pairwise r := by
  rw [← List.isChain_iff_pairwise]
  induction l with
  | nil => simp [climbs]
  | cons a l ih =>
    cases l with
    | nil => simp [climbs]
    | cons b l => rw [climbs, Bool.and_eq_true, ih, decide_eq_true_iff, List.isChain_cons_cons]

/-- A usable table begins at a head and a rate of 0, its heads rise and its rates do not fall (R104). -/
theorem spillUsable_iff (c : Settings) : spillUsable c = true ↔
    c.spillHeads.headD 1 = 0 ∧ c.spillRates.headD 1 = 0
      ∧ c.spillHeads.Pairwise (· < ·) ∧ c.spillRates.Pairwise (· ≤ ·) := by
  simp only [spillUsable, Bool.and_eq_true, beq_iff_eq, climbs_iff_pairwise, and_assoc]

/-! ### The rate between two points, and from the last on -/

/-- The line between two points stays within their rates. -/
theorem line_le {q₀ q₁ x y : Nat} (rates : q₀ ≤ b) (rates' : q₁ ≤ b) (le : x ≤ y) :
    q₀ + (q₁ - q₀) * x / y ≤ b := by
  have part : (q₁ - q₀) * x / y ≤ q₁ - q₀ :=
    Nat.div_le_of_le_mul (by rw [Nat.mul_comm y]; exact Nat.mul_le_mul_left _ le)
  omega

theorem spillRate_of_lt {h₀ h₁ q₀ q₁ : Nat} {hs qs : List Nat} (below : h < h₁) :
    spillRate h (h₀ :: h₁ :: hs) (q₀ :: q₁ :: qs)
      = (q₀ + (q₁ - q₀) * (h - h₀) / (h₁ - h₀), false) := by
  rw [spillRate, if_pos below]

theorem spillRate_of_le {h₀ h₁ q₀ q₁ : Nat} {hs qs : List Nat} (above : h₁ ≤ h) :
    spillRate h (h₀ :: h₁ :: hs) (q₀ :: q₁ :: qs) = spillRate h (h₁ :: hs) (q₁ :: qs) := by
  rw [spillRate, if_neg (Nat.not_lt.2 above)]

/-- A point of a rising list is no lower than the first. -/
theorem le_getD_of_pairwise {a i : Nat} {l : List Nat} (rises : (a :: l).Pairwise (· < ·))
    (lt : i < (a :: l).length) : a ≤ (a :: l).getD i 0 := by
  rw [List.getD_eq_getElem _ _ lt]
  cases i with
  | zero => exact Nat.le_refl a
  | succ i => exact (List.rel_of_pairwise_cons rises (List.getElem_mem _)).le

/-- Between two points the rate lies on the line between theirs, truncated. -/
theorem spillRate_between {i : Nat} (rises : heads.Pairwise (· < ·)) (same : heads.length = rates.length)
    (lt : i + 1 < heads.length) (low : heads.getD i 0 ≤ h) (high : h < heads.getD (i + 1) 0) :
    spillRate h heads rates =
      (rates.getD i 0 + (rates.getD (i + 1) 0 - rates.getD i 0) * (h - heads.getD i 0)
        / (heads.getD (i + 1) 0 - heads.getD i 0), false) := by
  induction i generalizing heads rates with
  | zero =>
    match heads, rates, same, lt with
    | h₀ :: h₁ :: hs, q₀ :: q₁ :: qs, _, _ => exact spillRate_of_lt high
  | succ i ih =>
    match heads, rates, same, lt with
    | h₀ :: h₁ :: hs, q₀ :: q₁ :: qs, same, lt =>
      have rest := rises.of_cons
      have lt' : i + 1 < (h₁ :: hs).length := Nat.lt_of_succ_lt_succ lt
      have above : h₁ ≤ h := (le_getD_of_pairwise rest (Nat.lt_of_succ_lt lt')).trans low
      rw [spillRate_of_le above]
      exact ih rest (Nat.succ.inj same) lt' low high

/-- From the last point on the rate is its rate, above the table. -/
theorem spillRate_above {n : Nat} (rises : heads.Pairwise (· < ·)) (length : heads.length = n + 1)
    (same : heads.length = rates.length) (low : heads.getD n 0 ≤ h) :
    spillRate h heads rates = (rates.getD n 0, true) := by
  induction n generalizing heads rates with
  | zero =>
    match heads, rates, length, same with
    | [h₀], [q₀], _, _ => rfl
  | succ n ih =>
    match heads, rates, length, same with
    | h₀ :: h₁ :: hs, q₀ :: q₁ :: qs, length, same =>
      have rest := rises.of_cons
      have length' : (h₁ :: hs).length = n + 1 := Nat.succ.inj length
      have above : h₁ ≤ h := (le_getD_of_pairwise rest (by omega)).trans low
      rw [spillRate_of_le above]
      exact ih rest length' (Nat.succ.inj same) low

/-! ### Its bounds, and its rise with the head -/

/-- No head gives a rate above every rate of the table. -/
theorem spillRate_le (rises : heads.Pairwise (· < ·)) (bound : ∀ q ∈ rates, q ≤ b) :
    (spillRate h heads rates).1 ≤ b := by
  fun_induction spillRate h heads rates with
  | case1 h₀ h₁ hs q₀ q₁ qs below =>
    exact line_le (bound q₀ (by simp)) (bound q₁ (by simp)) (by omega)
  | case2 h₀ h₁ hs q₀ q₁ qs above ih =>
    exact ih rises.of_cons fun q m => bound q (List.mem_cons_of_mem _ m)
  | case3 heads q qs => exact bound q List.mem_cons_self
  | case4 => exact Nat.zero_le b

/-- No head gives a rate below the first. -/
theorem le_spillRate {q : Nat} {qs : List Nat} (falls : (q :: qs).Pairwise (· ≤ ·)) :
    q ≤ (spillRate h heads (q :: qs)).1 := by
  induction qs generalizing q heads with
  | nil =>
    unfold spillRate
    split <;> simp_all
  | cons q₁ qs ih =>
    match heads with
    | [] => exact Nat.le_refl q
    | [_] => exact Nat.le_refl q
    | h₀ :: h₁ :: hs =>
      by_cases below : h < h₁
      · rw [spillRate_of_lt below]
        exact Nat.le_add_right ..
      · rw [spillRate_of_le (Nat.le_of_not_lt below)]
        exact (List.rel_of_pairwise_cons falls List.mem_cons_self).trans (ih falls.of_cons)

/-- The rate never falls as the head rises. -/
theorem spillRate_mono {h' : Nat} (le : h' ≤ h) (rises : heads.Pairwise (· < ·))
    (falls : rates.Pairwise (· ≤ ·)) : (spillRate h' heads rates).1 ≤ (spillRate h heads rates).1 := by
  fun_induction spillRate h heads rates with
  | case1 h₀ h₁ hs q₀ q₁ qs below =>
    rw [spillRate_of_lt (Nat.lt_of_le_of_lt le below)]
    exact Nat.add_le_add_left (Nat.div_le_div_right (Nat.mul_le_mul_left _ (by omega))) _
  | case2 h₀ h₁ hs q₀ q₁ qs above ih =>
    by_cases below : h' < h₁
    · have first : q₀ ≤ q₁ := List.rel_of_pairwise_cons falls List.mem_cons_self
      rw [spillRate_of_lt below]
      exact (line_le first le_rfl (by omega)).trans (le_spillRate falls.of_cons)
    · rw [spillRate_of_le (Nat.le_of_not_lt below)]
      exact ih rises.of_cons falls.of_cons
  | case3 heads q qs short =>
    rw [spillRate]
    exact short
  | case4 heads => rw [spillRate]

/-! ### The whole -/

/-- Settles O45: each clause by its own lemma, the points of the table in order. -/
theorem spillRateOfHead : Obligations.SpillRateOfHead := by
  refine ⟨fun c h usable nine nine' => ?_, fun s none => ?_⟩
  · obtain ⟨-, -, rises, falls⟩ := (spillUsable_iff c).1 usable
    have same := nine.trans nine'.symm
    have last : ∀ q ∈ c.spillRates, q ≤ c.spillRates.getD 8 0 := fun q m => by
      obtain ⟨i, lt, rfl⟩ := List.getElem_of_mem m
      rw [List.getD_eq_getElem _ _ (by omega)]
      exact falls.rel_get_of_le (by simpa using (by omega : i ≤ 8))
    exact ⟨fun i lt => spillRate_between rises same (by omega), spillRate_above rises nine same,
      spillRate_le rises last, fun h' le => spillRate_mono le rises falls⟩
  · simp [integrate, none, setOvf]

end Sys2Proof.Machine
end

section
/-! SUPPORT. What an acknowledgment and the closing work leave of the raw conditions, and what a good frame
end leaves of the alarm records before its acknowledgment. -/

namespace Sys2Proof.Machine

open Sys2Proof

variable {s t u : State} {c : AlarmCode}

/-! ### CHANGEOVER_BLOCKED does not begin (R77) -/

/-- The condition of CHANGEOVER_BLOCKED does not begin. -/
def Unblocks (s t : State) : Prop :=
  t.duty.changeoverBlocked = true → s.duty.changeoverBlocked = true

theorem Unblocks.trans (h : Unblocks s t) (k : Unblocks t u) : Unblocks s u := h ∘ k

theorem Unblocks.of_duty (same : t.duty = s.duty) : Unblocks s t := fun b => same ▸ b

theorem Unblocks.of_ite {p : Prop} [Decidable p] {a b : State} (h : Unblocks s a) (k : Unblocks s b) :
    Unblocks s (if p then a else b) := by
  split <;> assumption

theorem openContactor_unblocks (s : State) : Unblocks s (openContactor s) :=
  .of_ite (fun b => nomatch b) id

theorem enterIdle_unblocks (s : State) : Unblocks s (enterIdle s) := id

theorem setPump_unblocks (s : State) (p : PumpState) : Unblocks s (setPump s p) := id

theorem enterLockedOff_unblocks (s : State) : Unblocks s (enterLockedOff s) :=
  (openContactor_unblocks s).trans (.of_ite (enterIdle_unblocks _) (setPump_unblocks _ _))

theorem enterOutOfService_unblocks (s : State) : Unblocks s (enterOutOfService s) :=
  (openContactor_unblocks s).trans (setPump_unblocks _ _)

theorem closeInHand_unblocks (s : State) : Unblocks s (closeInHand s) := .of_ite id id

theorem enterHand_unblocks (s : State) : Unblocks s (enterHand s) :=
  .of_ite (fun b => nomatch b) ((setPump_unblocks s _).trans (closeInHand_unblocks _))

theorem stopAutomatic_unblocks (s : State) : Unblocks s (stopAutomatic s) :=
  .of_ite (enterLockedOff_unblocks s) id

theorem applyHold_unblocks (s : State) : Unblocks s (applyHold s) :=
  .of_ite (.of_ite (enterLockedOff_unblocks s) (openContactor_unblocks s)) (closeInHand_unblocks s)

theorem takeUp_unblocks (s : State) : Unblocks s (takeUp s) := by
  unfold takeUp
  split
  · exact enterOutOfService_unblocks s
  · exact enterHand_unblocks s
  · exact .of_ite (enterOutOfService_unblocks s) (enterLockedOff_unblocks s)

theorem pumpWork_unblocks (won : Bool) (cells : CommonCells) (s : State) :
    Unblocks s (pumpWork won cells s) := by
  unfold pumpWork
  split
  · exact .of_ite (.of_ite id id) (enterIdle_unblocks s)
  · exact .of_ite (setPump_unblocks s _) id
  · exact .of_ite (.of_ite (enterLockedOff_unblocks s) id) (.of_ite (enterLockedOff_unblocks s) id)
  all_goals exact id

theorem dutyFrame_unblocks (won : Bool) (cells : CommonCells) (s : State) :
    Unblocks s (dutyFrame won cells s) := by
  have formed : Unblocks s (formed cells s) := fun b => by
    rw [formed_duty] at b
    exact b
  rw [dutyFrame_eq]
  refine formed.trans (Unblocks.trans (t := decided won cells (Machine.formed cells s)) ?_ id)
  unfold decided
  split
  · exact Unblocks.trans (t := leadWork _) id (pumpWork_unblocks won cells _)
  · exact .of_ite (stopAutomatic_unblocks _) id
  · exact id
  · exact id

/-! ### The raw conditions -/

/-- The codes whose raw condition neither a notice handed nor a pump let out of FAULTED touches. -/
def Untouched (c : AlarmCode) : Prop := c ≠ .queueLoss ∧ c ≠ .outOfService ∧ c ≠ .handMode

/-- The raw conditions of the untouched codes stay, but CHANGEOVER_BLOCKED's may end. -/
structure KeepsConditions (s t : State) : Prop where
  raw : ∀ c, Untouched c → c ≠ .changeoverBlocked → rawCondition t c = rawCondition s c
  blocked : Unblocks s t

theorem KeepsConditions.refl (s : State) : KeepsConditions s s := ⟨fun _ _ _ => rfl, id⟩

theorem KeepsConditions.trans (h : KeepsConditions s t) (k : KeepsConditions t u) :
    KeepsConditions s u :=
  ⟨fun c own other => (k.raw c own other).trans (h.raw c own other), h.blocked.trans k.blocked⟩

theorem KeepsConditions.of_ite {p : Prop} [Decidable p] {a b : State} (h : KeepsConditions s a)
    (k : KeepsConditions s b) : KeepsConditions s (if p then a else b) := by
  split <;> assumption

/-- What reaches no further than the closing work keeps the conditions where it leaves the starts window
and what the screen reports. -/
theorem OnlyClosing.keepsConditions (h : OnlyClosing s t) (window : t.duty.window = s.duty.window)
    (condition : t.screen.condition = s.screen.condition)
    (screenHigh : t.screen.screenHigh = s.screen.screenHigh) (blocked : Unblocks s t) :
    KeepsConditions s t := by
  have input := h.station.isActive
  refine ⟨fun c ⟨loss, out, hand⟩ other => ?_, blocked⟩
  cases c with
  | changeoverBlocked => exact absurd rfl other
  | queueLoss => exact absurd rfl loss
  | outOfService => exact absurd rfl out
  | handMode => exact absurd rfl hand
  | thermalTrip => exact input _
  | moisture => exact input _
  | highFloat => exact input _
  | supplyLow => exact input _
  | startFail => exact congrArg Option.isSome h.startFail
  | runLost => exact congrArg Option.isSome h.runLost
  | rakeJam => exact congrArg Option.isSome h.rakeJam
  | startsLimit => simp only [rawCondition, windowFull, window, h.cfg]
  | screenHigh => exact screenHigh
  | screenBlocked => exact congrArg (· == ScreenCondition.blocked) condition
  | levelAFault => exact congrArg (fun x => x.mode == ChannelMode.faulted) h.chanA
  | levelBFault => exact congrArg (fun x => x.mode == ChannelMode.faulted) h.chanB
  | dryRun => simp only [rawCondition, input, h.stager]
  | overflow => exact congrArg overflowOpen h.ovf
  | lineFault => exact congrArg (fun x => x.mode == LineMode.lineFault) h.line
  | isolated => exact congrArg (fun x => x.mode == LineMode.isolated) h.line
  | alone => exact congrArg (·.alone) h.line
  | config =>
    simp only [rawCondition, configActive, loaderRaises, h.loaded, h.loader, h.straps,
      h.causeCfg]
  | telemetryDown =>
    simp only [rawCondition]
    rw [h.reporter]

theorem OnlyClosing.keepsConditions_of_blocks (h : OnlyClosing s t) (duty : t.duty = s.duty)
    (screen : t.screen = s.screen) : KeepsConditions s t :=
  h.keepsConditions (by rw [duty]) (by rw [screen]) (by rw [screen]) (.of_duty duty)

/-! ### An acknowledgment, and the closing work -/

theorem serve_screenHigh (s : State) : (serve s).screen.screenHigh = s.screen.screenHigh := by
  have stop : ∀ v : State, (applyRakeStop v).screen.screenHigh = v.screen.screenHigh := fun v => by
    unfold applyRakeStop
    split
    · split <;> rfl
    · rfl
  have request : ∀ v : State, (serveRequest v).screen.screenHigh = v.screen.screenHigh := fun v => by
    unfold serveRequest
    split <;> rfl
  exact (request _).trans ((stop _).trans (congrArg (·.screenHigh) (applyHold_screen s)))

theorem settle_keepsConditions (s : State) : KeepsConditions s (settle s) :=
  (settle_onlyClosing s).keepsConditions
    ((congrArg (·.window) (settle_duty s)).trans (applyHold_eases s).quiet.window)
    (settle_condition s) ((congrArg (·.screenHigh) (settle_screen s)).trans (serve_screenHigh s))
    ((applyHold_unblocks s).trans (.of_duty (settle_duty s)))

theorem takeChanges_keepsConditions (take : AlarmCode → Bool) (s : State) :
    KeepsConditions s (takeChanges take s) :=
  (takeChanges_onlyClosing take s).keepsConditions_of_blocks (takeChanges_duty take s)
    (takeChanges_screen take s)

theorem leaveFaulted_keepsConditions (s : State) : KeepsConditions s (leaveFaulted s) := by
  have taken : leaveFaulted s = takeUp (setDuty s { s.duty with causes := [] }) := rfl
  have only := leaveFaulted_onlyDuty s
  refine only.onlyClosing.keepsConditions ?_ (by rw [only.screen]) (by rw [only.screen]) ?_
  · rw [taken]
    exact (takeUp_quiet _).window
  · rw [taken]
    exact takeUp_unblocks _

theorem acknowledge_keepsConditions (s : State) : KeepsConditions s (acknowledge s) := by
  have acked : KeepsConditions s (acknowledged s) :=
    ((OnlyAlarms.foldl acknowledgeCode_onlyAlarms _ s).onlyClosing.trans
      (settlePanel_onlyClosing _)).keepsConditions_of_blocks (acknowledged_duty s) (acknowledged_screen s)
  have unlock : ∀ v : State, KeepsConditions v (unlockRake v) := fun v =>
    OnlyClosing.keepsConditions (s := v) rfl rfl rfl rfl id
  have release : ∀ b v : State, KeepsConditions v (releaseWaiting b v) := fun b v =>
    (KeepsConditions.of_ite (leaveFaulted_keepsConditions v) (.refl v)).trans
      (.of_ite (unlock _) (.refl _))
  unfold acknowledge
  split
  · exact acked.trans (release _ _)
  · exact .refl s

theorem acknowledgeFrame_keepsConditions (cells : Cells) (s : State) :
    KeepsConditions s (acknowledgeFrame cells s) :=
  .of_ite ((takeChanges_keepsConditions _ s).trans (acknowledge_keepsConditions _)) (.refl s)

/-! ### The records that an acknowledgment meets -/

theorem AlarmSafe.agrees (a : AlarmSafe s) (c : AlarmCode) : (recordOf s c).raw = rawCondition s c := by
  obtain ⟨-, records⟩ := a
  exact (records c (by cases c <;> decide)).1

/-- The closing work leaves a record that agrees with the condition that its code then has. -/
theorem recordOf_settle_of_agrees (length : s.alarms.records.length = 23)
    (agrees : rawCondition (settle s) c = (recordOf s c).raw) :
    recordOf (settle s) c = recordOf s c := by
  rw [recordOf_settle length, recordAfter, if_pos agrees]

/-- Records acknowledged, the closing work after it: one whose condition has not changed has taken the two
steps alone (R122). -/
theorem recordOf_settle_acknowledge (l : loaded s = true) (length : s.alarms.records.length = 23)
    (agrees : rawCondition (settle (acknowledge s)) c = (recordOf s c).raw) :
    recordOf (settle (acknowledge s)) c = recordAcknowledged (latching c) (recordOf s c) := by
  obtain ⟨length', records⟩ := acknowledge_records l length
  rw [recordOf_settle_of_agrees length' (by rw [agrees, records, recordAcknowledged_raw]), records]

/-- Changes taken leave the number of records, and each that agrees with its condition. -/
theorem takeChanges_length (take : AlarmCode → Bool) (s : State) :
    (takeChanges take s).alarms.records.length = s.alarms.records.length := by
  simp only [takeChanges, takeCodes, settlePanel_alarms, foldl_settleCode_length]

theorem recordOf_takeChanges {take : AlarmCode → Bool} (own : Untouched c)
    (agrees : rawCondition s c = (recordOf s c).raw) :
    recordOf (takeChanges take s) c = recordOf s c := by
  have first := recordOf_takeCodes own.1 ((otherCodes s).filter take) agrees
  have raw : rawCondition (takeCodes ((otherCodes s).filter take) s) c = rawCondition s c :=
    (OnlyAlarms.foldl settleCode_onlyAlarms _ s).raw own.1 |> (rawCondition_settlePanel _ c).trans
  rw [takeChanges, recordOf_takeCodes own.1 _ (by rw [raw, first, agrees]), first]

end Sys2Proof.Machine
end

section
/-! O46. The moves of a record, its acknowledgment, and where an acknowledgment is taken. -/

namespace Sys2Proof.Machine

open Sys2Proof

variable {s u : State} {c : AlarmCode} {cells : Cells} {r : AlarmRecord}

/-! ### An acknowledge press outside JOINED (R125) -/

theorem rawCondition_accept_ackBtn (length : s.inputs.length = 15) (c : AlarmCode) :
    rawCondition (accept .ackBtn s) c = rawCondition s c := by
  have input : ∀ i : Input, i ≠ .ackBtn → isActive (accept .ackBtn s) i = isActive s i := fun i other =>
    isActive_accept_other length other.symm
  cases c with
  | thermalTrip => exact input _ nofun
  | moisture => exact input _ nofun
  | highFloat => exact input _ nofun
  | supplyLow => exact input _ nofun
  | dryRun => exact congrArg (· && _) (input .lowFloat nofun)
  | _ => rfl

/-- On a safe pump an acknowledgment and the closing work leave CHANGEOVER_BLOCKED: it stands on a RUNNING
pump alone, and one that is not FAULTED is not let go. -/
theorem settle_acknowledge_blocked (p : PumpSafe s) :
    rawCondition (settle (acknowledge s)) .changeoverBlocked = rawCondition s .changeoverBlocked := by
  have unblocks := (acknowledge_keepsConditions s).trans (settle_keepsConditions _)
  show (settle (acknowledge s)).duty.changeoverBlocked = s.duty.changeoverBlocked
  cases blocked : s.duty.changeoverBlocked with
  | false => exact Bool.eq_false_iff.2 fun b => nomatch blocked.symm.trans (unblocks.blocked b)
  | true =>
    obtain ⟨closed, run, -, -, yields, yielding, -⟩ := p
    have running := yields (yielding blocked)
    have duty := acknowledge_duty (s := s) (by rw [running]; nofun)
    have only := acknowledge_onlyClosing s
    have hold : stopHold (acknowledge s) = false :=
      (stopHold_congr only.station.isActive only.line).trans (closed (run (.inr running))).2.1
    rw [settle_duty_of_unheld hold (by rw [duty, running]; nofun), duty, blocked]

/-- A press accepted outside JOINED is an acknowledgment (R125). -/
theorem answer_ackBtn (inputs : s.inputs.length = 15) (l : loaded s = true)
    (apart : s.line.mode ≠ .joined) (was : isActive s .ackBtn = false) :
    answerInput .ackBtn (accept .ackBtn s) = acknowledge (accept .ackBtn s) := by
  have on : isActive (accept .ackBtn s) .ackBtn = true := by
    rw [isActive_accept_same inputs, was]
    rfl
  have l' : loaded (accept .ackBtn s) = true := l
  exact (if_pos on).trans ((if_neg (by simp [l'])).trans (if_neg apart))

/-- It takes every record through its two steps, and the closing work leaves each (R122). -/
theorem press_acknowledges (inputs : s.inputs.length = 15) (p : PumpSafe s) (a : AlarmSafe s)
    (l : loaded s = true) (own : Untouched c) : recordOf (settle (acknowledge (accept .ackBtn s))) c
      = recordAcknowledged (latching c) (recordOf s c) := by
  have raw : rawCondition (settle (acknowledge (accept .ackBtn s))) c = rawCondition s c := by
    rw [← rawCondition_accept_ackBtn inputs]
    by_cases changeover : c = .changeoverBlocked
    · subst changeover
      exact settle_acknowledge_blocked (p.accept inputs nofun nofun nofun)
    · exact ((acknowledge_keepsConditions _).trans (settle_keepsConditions _)).raw c own changeover
  exact recordOf_settle_acknowledge (s := accept .ackBtn s) l a.1 (raw.trans (a.agrees c).symm)

/-! ### An ACK at a good frame end (R124) -/

/-- A good frame end up to its acknowledgment. -/
def frameHoused (cells : Cells) (s : State) : State :=
  houseFrame s.line.noticeWon cells s.line.drive (plantFrame cells s.line.drive (frameCounted cells s))

/-- With no clash the counts of a frame leave the alarms. -/
theorem frameCounted_alarms (no : s.line.mode = .joined → ¬ClashAt cells s.line.drive (ownAddress s)) :
    (frameCounted cells s).alarms = s.alarms := by
  have house := emptyStale_onlyHouse s (readFrame cells s)
  have mode : (emptyStale s (readFrame cells s)).line.mode = s.line.mode := by
    rw [house.line]
    rfl
  have own : ownAddress (emptyStale s (readFrame cells s)) = ownAddress s := house.station.own
  refine Eq.trans ?_ (emptyStale_alarms s (readFrame cells s))
  unfold frameCounted
  cases m : s.line.mode with
  | listen => rw [countLine_listen (mode.trans m)]; rfl
  | joined => rw [countLine_joined (mode.trans m) (by rw [own]; exact no m)]; rfl
  | lineFault => rw [countLine_lineFault (mode.trans m)]; rfl
  | isolated => rw [countLine_isolated (mode.trans m)]

/-- With no clash every alarm record comes to the acknowledgment of a good frame end as it was. -/
theorem frameHoused_records (no : s.line.mode = .joined → ¬ClashAt cells s.line.drive (ownAddress s)) :
    (frameHoused cells s).alarms.records = s.alarms.records := by
  have house := houseFrame_onlyLoss s.line.noticeWon cells s.line.drive
    (plantFrame cells s.line.drive (frameCounted cells s))
  rw [frameHoused, congrArg (·.records) house, (plantFrame_onlyPlant cells _ _).alarms,
    frameCounted_alarms no]

/-- Up to its acknowledgment a good frame end without a clash lets CHANGEOVER_BLOCKED not begin. -/
theorem frameHoused_unblocks (no : s.line.mode = .joined → ¬ClashAt cells s.line.drive (ownAddress s)) :
    Unblocks s (frameHoused cells s) := by
  have counted : Unblocks s (frameCounted cells s) := .of_duty (frameCounted_unclashed no).1
  have entry : Unblocks (frameCounted cells s) (dutyEntry cells s) :=
    (Unblocks.of_duty (formDemand_duty cells _)).trans <|
      (applyHold_unblocks _).trans (.of_duty (applyRakeStop_onlyScreen _).duty)
  exact (counted.trans entry).trans <| (dutyFrame_unblocks _ _ _).trans <|
    (Unblocks.of_duty (plantFrame_dutyFrame cells s)).trans (.of_duty (houseFrame_onlyHouse _ _ _ _).duty)

/-- A condition that a good frame end leaves is the one that its acknowledgment met. -/
theorem rawCondition_frameHoused (own : Untouched c)
    (no : s.line.mode = .joined → ¬ClashAt cells s.line.drive (ownAddress s))
    (k : KeepsConditions (frameHoused cells s) u) (raw : rawCondition u c = rawCondition s c) :
    rawCondition (frameHoused cells s) c = rawCondition s c := by
  by_cases changeover : c = .changeoverBlocked
  · subst changeover
    have before : rawCondition (frameHoused cells s) .changeoverBlocked = true
      → rawCondition s .changeoverBlocked = true := frameHoused_unblocks no
    have after : rawCondition u .changeoverBlocked = true
      → rawCondition (frameHoused cells s) .changeoverBlocked = true := k.blocked
    rw [raw] at after
    exact Bool.eq_iff_iff.2 ⟨before, after⟩
  · exact (k.raw c own changeover).symm.trans raw

/-- What stands at the end of a good frame's work once its acknowledgment is taken: every record that came to
it in agreement with its condition has taken the two steps, and no other (R122, R124). -/
theorem recordOf_frameEnd (length : (frameHoused cells s).alarms.records.length = 23)
    (l : loaded (frameHoused cells s) = true) (sound : (frameHoused cells s).line.mode ≠ .lineFault)
    (ack : cells.getLsbD 11 = true) (own : Untouched c)
    (agrees : rawCondition (frameHoused cells s) c = (recordOf (frameHoused cells s) c).raw) :
    (frameEnd cells s).alarms.records.length = 23
      ∧ recordOf (frameEnd cells s) c
        = recordAcknowledged (latching c) (recordOf (frameHoused cells s) c) := by
  generalize moved : takeChanges (changeFirst (frameHoused cells s)) (frameHoused cells s) = v
  have taken : acknowledgeFrame cells (frameHoused cells s) = acknowledge v :=
    (if_pos (by simp [ack, readsHouse, sound])).trans (by rw [moved])
  have alarms : (frameEnd cells s).alarms = (acknowledge v).alarms := congrArg (·.alarms) taken
  obtain ⟨length', records⟩ := acknowledge_records (s := v)
    (by rw [← moved, (takeChanges_onlyClosing _ _).loaded, l])
    (by rw [← moved, takeChanges_length, length])
  refine ⟨by rw [alarms, length'], ?_⟩
  unfold recordOf at records ⊢
  rw [alarms, records]
  exact congrArg _ (moved ▸ recordOf_takeChanges own agrees)

/-- What follows the blocks of the house at a good frame end keeps the raw conditions. -/
theorem settle_frameEnd_keepsConditions (cells : Cells) (s : State) :
    KeepsConditions (frameHoused cells s) (settle (frameEnd cells s)) := by
  have counted : ∀ v : State, KeepsConditions v { v with free := v.free + 1 } := fun _ =>
    ⟨fun c _ _ => by cases c <;> rfl, id⟩
  exact (acknowledgeFrame_keepsConditions cells _).trans
    ((counted _).trans (settle_keepsConditions (frameEnd cells s)))

/-- The ACK cell of a good frame, read outside LINE_FAULT, acknowledges every record whose condition the
frame end leaves (R124), the changes of the others taken before or after. -/
theorem frameEnd_acknowledges (a : AlarmSafe s) (l : loaded s = true)
    (sound : s.line.mode ≠ .lineFault) (ack : cells.getLsbD 11 = true)
    (mode : (settle (frameEnd cells s)).line.mode = s.line.mode) (own : Untouched c)
    (raw : rawCondition (settle (frameEnd cells s)) c = rawCondition s c) :
    recordOf (settle (frameEnd cells s)) c = recordAcknowledged (latching c) (recordOf s c) := by
  rw [settle_line, frameEnd_line_counted] at mode
  have no : s.line.mode = .joined → ¬ClashAt cells s.line.drive (ownAddress s) := fun joined clash => by
    obtain ⟨isolated, -⟩ := (frameCounted_counted cells s).clashing joined clash
    exact nomatch isolated.symm.trans (mode.trans joined)
  have plant := plantFrame_onlyPlant cells s.line.drive (frameCounted cells s)
  have house := houseFrame_onlyHouse s.line.noticeWon cells s.line.drive
    (plantFrame cells s.line.drive (frameCounted cells s))
  have records := frameHoused_records no
  have same : recordOf (frameHoused cells s) c = recordOf s c := by rw [recordOf, records, recordOf]
  have before := rawCondition_frameHoused own no (settle_frameEnd_keepsConditions cells s) raw
  obtain ⟨length, acked⟩ := recordOf_frameEnd (by rw [records, a.1])
    ((house.station.loaded.trans plant.station.loaded).trans ((frameCounted_station cells s).loaded.trans l))
    (by rwa [frameHoused, house.line, plant.line, mode]) ack own (by rw [before, same, a.agrees])
  rw [same] at acked
  rw [recordOf_settle_of_agrees length (by rw [raw, acked, recordAcknowledged_raw, a.agrees]), acked]

/-! ### What each raw condition is (7.1, R117, R119, R173) -/

theorem rawCondition_startsLimit (s : State) : rawCondition s .startsLimit = true ↔
    0 < s.cfg.startsPerHour ∧ s.cfg.startsPerHour ≤ s.duty.window.length := by
  simp [rawCondition, windowFull]

theorem rawCondition_config (s : State) : rawCondition s .config = true ↔ s.causeCfg = true
    ∨ s.loader.phase = .done ∧ s.loader.causeFound = true
      ∧ (s.straps.weirEn = true ∨ s.loader.overflowOnly = false) := by
  simp only [rawCondition, configActive, loaderRaises, loaded, Bool.or_eq_true, Bool.and_eq_true,
    beq_iff_eq, Bool.not_eq_true']
  exact Or.comm

theorem rawCondition_dryRun (s : State) : rawCondition s .dryRun = true ↔
    isActive s .lowFloat = true ∧ 1 ≤ s.stager.dPre := by
  simp [rawCondition]

theorem rawCondition_overflow (s : State) : rawCondition s .overflow = true ↔
    s.ovf.state = .active ∨ s.ovf.state = .tail := by
  simp [rawCondition, overflowOpen]

theorem rawCondition_telemetryDown (s : State) : rawCondition s .telemetryDown = true ↔
    s.reporter.mode = .active ∧ s.reporter.linkUp = false := by
  simp [rawCondition]

/-! ### The moves of a record (R118, R120, R121, R122) -/

/-- A disabled record only keeps its raw condition (R118). -/
theorem record_of_disabled (disabled : r.enabled = false) (latches : Bool) (minute : Nat) (raw : Bool) :
    recordRaw latches minute raw r = { r with raw := raw } ∧ recordAcknowledged latches r = r := by
  simp [recordRaw, recordAcknowledged, disabled]

/-- A latched record is not moved by its raw condition (R120). -/
theorem recordRaw_of_latched (latched : r.latched = true) (minute : Nat) (raw : Bool) :
    recordRaw true minute raw r = { r with raw := raw } := by
  simp [recordRaw, latched]

/-- Both steps of an acknowledgment on an enabled record (R122). -/
theorem recordAcknowledged_of_enabled {latches : Bool} (enabled : r.enabled = true) :
    (latches = true → r.latched = true → r.raw = false →
      recordAcknowledged latches r = { r with state := .normal, latched := false })
    ∧ (latches = false ∨ r.latched = false ∨ r.raw = true →
      recordAcknowledged latches r = { r with state :=
        if r.state = .activeUnack ∨ r.state = .activeAck then .activeAck else .normal }) := by
  obtain ⟨_, state, raw, latched, count, minute⟩ := r
  simp only at enabled
  subst enabled
  refine ⟨fun latches latched raw => ?_, fun kept => ?_⟩
  · simp only at latched raw
    subst latches latched raw
    cases state <;> rfl
  · have release : (latches && latched && !raw) = false := by
      rcases kept with rfl | rfl | rfl <;> simp
    cases state <;> simp [recordAcknowledged, release]

/-! ### The whole -/

/-- Settles O46: the conditions and the moves by the cases of their definitions, an acknowledgment at a press
and at a good frame end by what it meets and what follows it. -/
theorem recordMoves : Obligations.RecordMoves := by
  have timer : ∀ x : Timer, x.isSome = true ↔ x ≠ none := fun x => Option.isSome_iff_ne_none
  refine ⟨fun s => ⟨rfl, rfl, timer _, timer _, rawCondition_startsLimit s, rfl, rfl, beq_iff_eq, timer _,
    beq_iff_eq, beq_iff_eq, rawCondition_dryRun s, rfl, rawCondition_overflow s, beq_iff_eq, beq_iff_eq,
    rawCondition_config s, rfl, rfl, rawCondition_telemetryDown s, timer _, beq_iff_eq, beq_iff_eq⟩,
    fun minute r => ⟨fun state => ?_, fun state => ?_, fun state => ?_, fun state => ?_, fun state => ?_,
    fun state => ?_, fun latches raw disabled => record_of_disabled disabled latches minute raw,
    fun raw _ latched => recordRaw_of_latched latched minute raw,
    fun s c d other => recordOf_settleCode_other s other,
    fun _ enabled => recordAcknowledged_of_enabled enabled, ?press, ?frame⟩⟩
  case press =>
    intro s inputs p a l apart due was
    exact ⟨_, accepted_step due (answer_ackBtn inputs.1 l apart was), fun c loss out hand =>
      press_acknowledges inputs.1 p a l ⟨loss, out, hand⟩⟩
  case frame =>
    intro run cells s _ a l inside low high sound ack
    refine ⟨settle (frameEnd cells s), ?_, fun mode c loss out hand raw =>
      frameEnd_acknowledges a l sound ack mode ⟨loss, out, hand⟩ raw⟩
    unfold exec execGoodFrameEnd
    exact taken_of_can _ _ (by simp [inside, goodRun, low, high])
  · simp only [recordActivated, state, satSucc]
  · simp only [recordActivated, state, satSucc]
  · rcases state with state | state <;> simp only [recordActivated, state]
  · simp only [recordCleared, state]
  · simp only [recordCleared, state]
  · rcases state with state | state <;> simp only [recordCleared, state]

end Sys2Proof.Machine
end

section
/-! O44. The opening and the close of an overflow event. -/

namespace Sys2Proof.Machine

open Sys2Proof

variable {s : State}

/-! ### Notices handed beside the monitor -/

theorem endCommand_setOvf (k : AnswerKind) (s : State) (o : Overflow) :
    endCommand k (setOvf s o) = setOvf (endCommand k s) o := by
  simp only [endCommand, setOvf_reporter]
  cases s.reporter.command <;> rfl

theorem loseEntry_setOvf (e : NoticeEntry) (s : State) (o : Overflow) :
    loseEntry e (setOvf s o) = setOvf (loseEntry e s) o := by
  unfold loseEntry
  dsimp only
  split
  · exact endCommand_setOvf _ (countLoss s) o
  · rfl

theorem makeRoom_setOvf (s : State) (o : Overflow) :
    makeRoom (setOvf s o) = setOvf (makeRoom s) o := by
  have lost : (match discarded s.notices.queue with
      | none => setOvf s o
      | some e => loseEntry e (setQueue (setOvf s o) (afterDiscard s.notices.queue))) =
      setOvf (match discarded s.notices.queue with
        | none => s
        | some e => loseEntry e (setQueue s (afterDiscard s.notices.queue))) o := by
    cases discarded s.notices.queue with
    | none => rfl
    | some e => exact loseEntry_setOvf e (setQueue s (afterDiscard s.notices.queue)) o
  by_cases room : s.notices.queue.length < 16
  · exact (if_pos room).trans (congrArg (setOvf · o) (if_pos room).symm)
  · exact (if_neg room).trans (lost.trans (congrArg (setOvf · o) (if_neg room).symm))

/-- Handing a notice reads nothing of the Overflow Monitor. -/
theorem handNotice_setOvf (s : State) (o : Overflow) (e : NoticeEntry) :
    handNotice (setOvf s o) e = setOvf (handNotice s e) o := by
  simp only [handNotice, setOvf_notices, makeRoom_setOvf]
  split <;> rfl

/-! ### The monitor's own record beside the pump and the rake -/

theorem PumpSafe.setOvf (p : PumpSafe s) (o : Overflow) : PumpSafe (setOvf s o) := p

theorem RakeSafe.setOvf (r : RakeSafe s) (o : Overflow) : RakeSafe (setOvf s o) := r

theorem OnlyNotices.pumpSafe {t : State} (h : OnlyNotices s t) (p : PumpSafe s) : PumpSafe t :=
  h.onlyHouse.pumpSafe p

theorem OnlyNotices.rakeSafe {t : State} (h : OnlyNotices s t) (r : RakeSafe s) : RakeSafe t :=
  h.onlyHouse.rakeSafe r

/-! ### The opening (R109) -/

theorem pendingTimer_opens (p : PumpSafe s) (r : RakeSafe s) {n : Nat} (pending : s.ovf.state = .pending)
    (seeing : s.ovf.blind = false) (timer : s.ovf.pending = some n) (long : s.cfg.tOd * 100 ≤ n) :
    ∃ t, exec .pendingTimerExpiry s = .next t ∧ Follows (openEvent s) t := by
  have due : reached s.ovf.pending (secondsTicks s.cfg.tOd) = true := (reached_iff _ _).2 ⟨n, timer, long⟩
  unfold exec execPendingTimerExpiry
  exact taken_follows (by simp [pending, seeing, due])
    ((handNotice_onlyNotices _ _).pumpSafe (p.setOvf _)) ((handNotice_onlyNotices _ _).rakeSafe (r.setOvf _))

/-! ### The close (R111, R114) -/

/-- The volume of a closing event before it saturates (R114). -/
def spilt (o : Overflow) : Nat := if o.volumeEnabled then o.accumulator / 2000 else 0

theorem eventVolume_eq (o : Overflow) :
    eventVolume o = (min 65535 (spilt o), decide (65535 < spilt o)) := by
  unfold eventVolume
  change (if 65535 < spilt o then _ else (spilt o, false)) = _
  split
  · rename_i excess
    rw [Nat.min_eq_left (Nat.le_of_lt excess), decide_eq_true excess]
  · rename_i within
    rw [Nat.min_eq_right (Nat.le_of_not_lt within), decide_eq_false within]

theorem eventFlags_eq (o : Overflow) : eventFlags o =
    (if o.incomplete then 1 else 0) + (if o.aboveTable then 2 else 0)
      + (if 65535 < spilt o then 4 else 0) := by
  simp only [eventFlags, eventVolume_eq, decide_eq_true_eq]

/-- The close of an event: the monitor idle again, and the two notices handed in their order. -/
theorem closeEvent_eq (s : State) : closeEvent s = handAll (setOvf s { s.ovf with
      state := .idle, tail := none, prevGateOpen := false })
    [newEntry .overflowEnd (ownAddress s) 0 (eventFlags s.ovf) (eventVolume s.ovf).1 true,
     newEntry .overflowTime (ownAddress s) (min 31 (s.ovf.peak / 100)) 0 (eventDuration s.ovf) true] := by
  have own : ∀ e, ownAddress (handNotice s e) = ownAddress s := fun e =>
    (handNotice_onlyNotices s e).onlyHouse.station.own
  have ovf : ∀ (v : State) e, (handNotice v e).ovf = v.ovf := fun v e =>
    (handNotice_onlyNotices v e).onlyHouse.station.ovf
  simp only [closeEvent, handAll, List.foldl_cons, List.foldl_nil, handNotice_setOvf, own, ovf]

theorem tailTimer_closes (p : PumpSafe s) (r : RakeSafe s) {n : Nat} (closing : s.ovf.state = .tail)
    (seeing : s.ovf.blind = false) (timer : s.ovf.tail = some n) (long : s.cfg.tOt * 6000 ≤ n) :
    ∃ t, exec .tailTimerExpiry s = .next t ∧ Follows (closeEvent s) t := by
  have due : reached s.ovf.tail (minutesTicks s.cfg.tOt) = true := (reached_iff _ _).2 ⟨n, timer, long⟩
  unfold exec execTailTimerExpiry
  refine taken_follows (by simp [closing, seeing, due]) ?_ ?_ <;> rw [closeEvent_eq]
  · exact (handAll_onlyNotices _ _).pumpSafe (p.setOvf _)
  · exact (handAll_onlyNotices _ _).rakeSafe (r.setOvf _)

end Sys2Proof.Machine
end

section
/-! O44. The monitor of a weir bay at a gate end. -/

namespace Sys2Proof.Machine

open Sys2Proof

variable {s v : State}

/-! ### What the monitor sees (R105, R107) -/

/-- The head formed and blindness re-taken, before the head source answers. -/
def sighted (s : State) : State := setOvf (formHead s) { (formHead s).ovf with
  blind := blindNow s
  incomplete := s.ovf.incomplete || (blindNow s && !s.ovf.blind && overflowOpen s.ovf) }

/-- The monitor's record once the source has answered and the event is up to date (R106 to R113). -/
def watched (s : State) : State :=
  if blindNow s then sighted s else updateEvent (retakeSource (sighted s))

/-- Forming the head writes the head and the level indication alone. -/
theorem formHead_ovf (s : State) : (formHead s).ovf = { s.ovf with
    head := (formHead s).ovf.head, levelActive := (formHead s).ovf.levelActive } := by
  unfold formHead
  split <;> rfl

theorem overflowGate_of_weir (weir : s.straps.weirEn = true) : overflowGate s =
    setOvf (watched s) { (watched s).ovf with prevGateOpen := overflowOpen (watched s).ovf } := by
  have blind : blindNow (formHead s) = blindNow s := by
    unfold blindNow
    rw [(formHead_onlyOvf s).cfg, (formHead_onlyOvf s).chanA]
  have seen : (formHead s).ovf.incomplete = s.ovf.incomplete ∧ (formHead s).ovf.blind = s.ovf.blind
      ∧ overflowOpen (formHead s).ovf = overflowOpen s.ovf := by
    rw [formHead_ovf]
    exact ⟨rfl, rfl, rfl⟩
  unfold overflowGate
  rw [if_neg (by simp [weir])]
  dsimp only
  rw [blind, seen.1, seen.2.1, seen.2.2]
  rfl

/-- The head and the level indication, by what channel A hands (R105). -/
theorem formHead_spec (s : State) :
    (s.chanA.mode = .healthy → (formHead s).ovf.head = s.chanA.e - s.cfg.crest
      ∧ (formHead s).ovf.levelActive = (decide (s.cfg.crest < s.chanA.e) && s.ovf.crestUsable))
    ∧ (s.chanA.mode = .suspect → (formHead s).ovf.head = s.ovf.head
      ∧ (formHead s).ovf.levelActive = s.ovf.levelActive)
    ∧ (s.chanA.mode = .starting ∨ s.chanA.mode = .faulted ∨ s.chanA.mode = .absent →
      (formHead s).ovf.head = 0 ∧ (formHead s).ovf.levelActive = false) := by
  refine ⟨fun m => ?_, fun m => ?_, fun m => ?_⟩
  · simp only [formHead, m, setOvf_ovf, Nat.sub_pos_iff_lt, and_self]
  · simp only [formHead, m, and_self]
  · rcases m with m | m | m <;> simp only [formHead, m, setOvf_ovf, and_self]

/-! ### The source's answer (R106, R108, R110) -/

/-- The source's answer writes the overflow state with its two timers and the tail stamp alone. -/
theorem retakeSource_ovf (v : State) : (retakeSource v).ovf = { v.ovf with
    sourceActive := headSource v
    state := (retakeSource v).ovf.state
    pending := (retakeSource v).ovf.pending
    tail := (retakeSource v).ovf.tail
    tailStamp := (retakeSource v).ovf.tailStamp } := by
  have answer : ∀ w : State, (answerSource w).ovf = { w.ovf with
      state := (answerSource w).ovf.state, pending := (answerSource w).ovf.pending
      tail := (answerSource w).ovf.tail, tailStamp := (answerSource w).ovf.tailStamp } := fun w => by
    unfold answerSource
    split <;> split <;> rfl
  by_cases same : headSource v = v.ovf.sourceActive
  · have kept : retakeSource v = v := if_pos same
    rw [kept, same]
  · have turned : retakeSource v = answerSource (setOvf v { v.ovf with sourceActive := headSource v }) :=
      if_neg same
    rw [turned, answer]
    rfl

/-- The state's moves at a gate end, where it has followed its source so far. -/
theorem retakeSource_moves (v : State)
    (follows : v.ovf.sourceActive = true ↔ v.ovf.state = .pending ∨ v.ovf.state = .active) :
    (v.ovf.state = .idle → (retakeSource v).ovf.state = (if headSource v then .pending else .idle)
      ∧ (headSource v = true → (retakeSource v).ovf.pending = some 0))
    ∧ (v.ovf.state = .pending → (retakeSource v).ovf.state = (if headSource v then .pending else .idle)
      ∧ (retakeSource v).ovf.pending = (if headSource v then v.ovf.pending else none))
    ∧ (v.ovf.state = .active → (retakeSource v).ovf.state = (if headSource v then .active else .tail)
      ∧ (headSource v = false → (retakeSource v).ovf.tail = some 0
        ∧ (retakeSource v).ovf.tailStamp = v.time.seconds))
    ∧ (v.ovf.state = .tail → (retakeSource v).ovf.state = (if headSource v then .active else .tail)
      ∧ (retakeSource v).ovf.tail = (if headSource v then none else v.ovf.tail)) := by
  obtain ⟨same, on, off⟩ := retakeSource_spec v (headSource v) rfl
  have was : v.ovf.sourceActive = decide (v.ovf.state = .pending ∨ v.ovf.state = .active) :=
    Bool.eq_iff_iff.2 (follows.trans decide_eq_true_iff.symm)
  refine ⟨fun state => ?_, fun state => ?_, fun state => ?_, fun state => ?_⟩ <;>
    simp only [was, state] at same on off <;> cases now : headSource v
  · simp [same now, state]
  · simp [(on now rfl).1]
  · simp [(off now rfl).1]
  · simp [same now, state]
  · simp [(off now rfl).2]
  · simp [same now, state]
  · simp [same now, state]
  · simp [(on now rfl).2]

/-! ### The event's record (R113) -/

/-- The peak of an open event brought up to date. -/
def peaked (v : State) : State :=
  if v.chanA.mode = .healthy then setOvf v { v.ovf with peak := max v.ovf.peak v.ovf.head } else v

theorem peaked_ovf (v : State) : (peaked v).ovf = { v.ovf with
    peak := if v.chanA.mode = .healthy then max v.ovf.peak v.ovf.head else v.ovf.peak } := by
  unfold peaked
  split <;> rfl

theorem peaked_onlyOvf (v : State) : OnlyOvf v (peaked v) := .of_ite rfl rfl

theorem updateEvent_of_open (event : overflowOpen v.ovf = true) :
    updateEvent v = if v.ovf.prevGateOpen then integrate (peaked v) else peaked v := by
  have kept : (peaked v).ovf.prevGateOpen = v.ovf.prevGateOpen := by rw [peaked_ovf]
  rw [← kept]
  exact if_pos event

theorem updateEvent_of_closed (closed : overflowOpen v.ovf = false) : updateEvent v = v :=
  if_neg (by simp [closed])

theorem integrate_measured (enabled : v.ovf.volumeEnabled = true) (healthy : v.chanA.mode = .healthy) :
    (integrate v).ovf = { v.ovf with
      accumulator := min (2 ^ 32 - 1)
        (v.ovf.accumulator + (spillRate v.ovf.head v.cfg.spillHeads v.cfg.spillRates).1)
      aboveTable := v.ovf.aboveTable || (spillRate v.ovf.head v.cfg.spillHeads v.cfg.spillRates).2 } := by
  unfold integrate
  rw [if_neg (by simp [enabled]), if_pos healthy]
  rfl

theorem integrate_unmeasured (missing : v.ovf.volumeEnabled = false ∨ v.chanA.mode ≠ .healthy) :
    (integrate v).ovf = { v.ovf with incomplete := true } := by
  unfold integrate
  split
  · rfl
  · rename_i enabled
    rw [if_neg (missing.resolve_left (by simpa using enabled))]
    rfl

/-- Integrating writes the volume and the two marks alone. -/
theorem integrate_ovf (v : State) : (integrate v).ovf = { v.ovf with
    accumulator := (integrate v).ovf.accumulator
    aboveTable := (integrate v).ovf.aboveTable
    incomplete := (integrate v).ovf.incomplete } := by
  unfold integrate
  split
  · rfl
  · split <;> rfl

/-- Bringing the event up to date writes the peak, the volume and the two marks alone. -/
theorem updateEvent_ovf (v : State) : (updateEvent v).ovf = { v.ovf with
    peak := (updateEvent v).ovf.peak
    accumulator := (updateEvent v).ovf.accumulator
    aboveTable := (updateEvent v).ovf.aboveTable
    incomplete := (updateEvent v).ovf.incomplete } := by
  cases event : overflowOpen v.ovf
  · rw [updateEvent_of_closed event]
  · rw [updateEvent_of_open event]
    split
    · rw [integrate_ovf, peaked_ovf]
    · rw [peaked_ovf]

theorem overflowOpen_iff (o : Overflow) :
    overflowOpen o = true ↔ o.state = .active ∨ o.state = .tail := by
  unfold overflowOpen
  cases o.state <;> decide

/-- The record of an open event at a gate end: the peak, and the volume or the mark incomplete. -/
theorem updateEvent_in_event (event : v.ovf.state = .active ∨ v.ovf.state = .tail) :
    (updateEvent v).ovf.peak
        = (if v.chanA.mode = .healthy then max v.ovf.peak v.ovf.head else v.ovf.peak)
    ∧ (v.ovf.prevGateOpen = true → v.ovf.volumeEnabled = true → v.chanA.mode = .healthy →
      (updateEvent v).ovf.accumulator = min (2 ^ 32 - 1)
        (v.ovf.accumulator + (spillRate v.ovf.head v.cfg.spillHeads v.cfg.spillRates).1)
      ∧ (updateEvent v).ovf.aboveTable
        = (v.ovf.aboveTable || (spillRate v.ovf.head v.cfg.spillHeads v.cfg.spillRates).2)
      ∧ (updateEvent v).ovf.incomplete = v.ovf.incomplete)
    ∧ (v.ovf.prevGateOpen = true → v.ovf.volumeEnabled = false ∨ v.chanA.mode ≠ .healthy →
      (updateEvent v).ovf.accumulator = v.ovf.accumulator ∧ (updateEvent v).ovf.incomplete = true)
    ∧ (v.ovf.prevGateOpen = false → (updateEvent v).ovf.accumulator = v.ovf.accumulator
      ∧ (updateEvent v).ovf.incomplete = v.ovf.incomplete) := by
  have chanA := (peaked_onlyOvf v).chanA
  have cfg := (peaked_onlyOvf v).cfg
  rw [updateEvent_of_open ((overflowOpen_iff _).2 event)]
  refine ⟨?_, fun whole enabled healthy => ?_, fun whole missing => ?_, fun part => ?_⟩
  · split
    · rw [integrate_ovf, peaked_ovf]
    · rw [peaked_ovf]
  · rw [if_pos whole, integrate_measured (by rw [peaked_ovf]; exact enabled) (by rw [chanA]; exact healthy),
      peaked_ovf, cfg]
    exact ⟨rfl, rfl, rfl⟩
  · rw [if_pos whole, integrate_unmeasured (by rw [peaked_ovf, chanA]; exact missing), peaked_ovf]
    exact ⟨rfl, rfl⟩
  · rw [if_neg (by simp [part]), peaked_ovf]
    exact ⟨rfl, rfl⟩

/-! ### The parts put together -/

theorem sighted_ovf (s : State) : (sighted s).ovf = { s.ovf with
    head := (formHead s).ovf.head
    levelActive := (formHead s).ovf.levelActive
    blind := blindNow s
    incomplete := s.ovf.incomplete || (blindNow s && !s.ovf.blind && overflowOpen s.ovf) } := by
  unfold sighted
  rw [formHead_ovf]
  rfl

theorem sighted_onlyOvf (s : State) : OnlyOvf s (sighted s) := (formHead_onlyOvf s).trans rfl

theorem headSource_sighted (s : State) : headSource (sighted s)
    = ((formHead s).ovf.levelActive || (s.cfg.weirFloatFitted && isActive s .weirFloat)) := by
  unfold headSource
  rw [(sighted_onlyOvf s).cfg, (sighted_onlyOvf s).isActive]
  rfl

theorem watched_of_blind (blind : blindNow s = true) : watched s = sighted s := if_pos blind

theorem watched_of_seeing (seeing : blindNow s = false) :
    watched s = updateEvent (retakeSource (sighted s)) := if_neg (by simp [seeing])

/-- What the monitor sees stands in its record, whatever the source answers. -/
theorem watched_indication (s : State) : (watched s).ovf.head = (formHead s).ovf.head
    ∧ (watched s).ovf.levelActive = (formHead s).ovf.levelActive
    ∧ (watched s).ovf.blind = blindNow s := by
  cases seen : blindNow s
  · rw [watched_of_seeing seen, updateEvent_ovf, retakeSource_ovf, sighted_ovf]
    exact ⟨rfl, rfl, seen⟩
  · rw [watched_of_blind seen, sighted_ovf]
    exact ⟨rfl, rfl, seen⟩

/-- A blind monitor keeps the event where it is; one that turns blind in an event marks it (R107). -/
theorem watched_blind_keeps (blind : blindNow s = true) :
    (watched s).ovf.state = s.ovf.state ∧ (watched s).ovf.sourceActive = s.ovf.sourceActive
    ∧ (watched s).ovf.peak = s.ovf.peak ∧ (watched s).ovf.accumulator = s.ovf.accumulator
    ∧ (watched s).ovf.pending = s.ovf.pending ∧ (watched s).ovf.tail = s.ovf.tail
    ∧ (s.ovf.blind = false → s.ovf.state = .active ∨ s.ovf.state = .tail →
      (watched s).ovf.incomplete = true) := by
  rw [watched_of_blind blind, sighted_ovf]
  refine ⟨rfl, rfl, rfl, rfl, rfl, rfl, fun turned event => ?_⟩
  simp only [blind, turned, (overflowOpen_iff _).2 event, Bool.not_false, Bool.and_self, Bool.or_true]

/-- A monitor that sees answers its source with the state's moves. -/
theorem watched_moves (seeing : blindNow s = false) :
    (watched s).ovf.sourceActive = headSource (sighted s)
    ∧ (watched s).ovf.state = (retakeSource (sighted s)).ovf.state
    ∧ (watched s).ovf.pending = (retakeSource (sighted s)).ovf.pending
    ∧ (watched s).ovf.tail = (retakeSource (sighted s)).ovf.tail
    ∧ (watched s).ovf.tailStamp = (retakeSource (sighted s)).ovf.tailStamp := by
  rw [watched_of_seeing seeing, updateEvent_ovf, retakeSource_ovf]
  exact ⟨rfl, rfl, rfl, rfl, rfl⟩

/-- The record the source's answer leaves for the event: all but the state's moves as sighted. -/
theorem retaken_record (seeing : blindNow s = false) :
    (retakeSource (sighted s)).ovf.peak = s.ovf.peak
    ∧ (retakeSource (sighted s)).ovf.head = (formHead s).ovf.head
    ∧ (retakeSource (sighted s)).ovf.accumulator = s.ovf.accumulator
    ∧ (retakeSource (sighted s)).ovf.aboveTable = s.ovf.aboveTable
    ∧ (retakeSource (sighted s)).ovf.incomplete = s.ovf.incomplete
    ∧ (retakeSource (sighted s)).ovf.prevGateOpen = s.ovf.prevGateOpen
    ∧ (retakeSource (sighted s)).ovf.volumeEnabled = s.ovf.volumeEnabled := by
  rw [retakeSource_ovf, sighted_ovf]
  exact ⟨rfl, rfl, rfl, rfl, by simp [seeing], rfl, rfl⟩

theorem watched_in_event (seeing : blindNow s = false)
    (event : (watched s).ovf.state = .active ∨ (watched s).ovf.state = .tail) :
    (watched s).ovf.peak
        = (if s.chanA.mode = .healthy then max s.ovf.peak (watched s).ovf.head else s.ovf.peak)
    ∧ (s.ovf.prevGateOpen = true → s.ovf.volumeEnabled = true → s.chanA.mode = .healthy →
      (watched s).ovf.accumulator = min (2 ^ 32 - 1) (s.ovf.accumulator
          + (spillRate (watched s).ovf.head s.cfg.spillHeads s.cfg.spillRates).1)
      ∧ (watched s).ovf.aboveTable = (s.ovf.aboveTable
          || (spillRate (watched s).ovf.head s.cfg.spillHeads s.cfg.spillRates).2)
      ∧ (watched s).ovf.incomplete = s.ovf.incomplete)
    ∧ (s.ovf.prevGateOpen = true → s.ovf.volumeEnabled = false ∨ s.chanA.mode ≠ .healthy →
      (watched s).ovf.accumulator = s.ovf.accumulator ∧ (watched s).ovf.incomplete = true)
    ∧ (s.ovf.prevGateOpen = false → (watched s).ovf.accumulator = s.ovf.accumulator
      ∧ (watched s).ovf.incomplete = s.ovf.incomplete) := by
  have reach := (sighted_onlyOvf s).trans (retakeSource_onlyOvf (sighted s))
  obtain ⟨peak, head, accumulator, aboveTable, incomplete, prevGateOpen, volumeEnabled⟩ :=
    retaken_record seeing
  have record := updateEvent_in_event (v := retakeSource (sighted s)) (by
    rw [← (watched_moves seeing).2.1]
    exact event)
  rw [(watched_indication s).1, watched_of_seeing seeing]
  rw [peak, head, accumulator, aboveTable, incomplete, prevGateOpen, volumeEnabled, reach.chanA,
    reach.cfg] at record
  exact record

/-- Outside an event the peak and the volume stay. -/
theorem watched_outside_event (seeing : blindNow s = false)
    (outside : (watched s).ovf.state = .idle ∨ (watched s).ovf.state = .pending) :
    (watched s).ovf.peak = s.ovf.peak ∧ (watched s).ovf.accumulator = s.ovf.accumulator := by
  obtain ⟨peak, -, accumulator, -⟩ := retaken_record seeing
  have closed : overflowOpen (retakeSource (sighted s)).ovf = false := by
    unfold overflowOpen
    rw [← (watched_moves seeing).2.1]
    rcases outside with state | state <;> rw [state] <;> rfl
  rw [watched_of_seeing seeing, updateEvent_of_closed closed]
  exact ⟨peak, accumulator⟩

/-- Settles O44: the two expiries by their reasoning rules, and the gate end part by part over the record
`watched` of a weir bay, whose writing ends with the mark of an open event. -/
theorem eventOpensAndCloses : Obligations.EventOpensAndCloses := by
  unfold Obligations.EventOpensAndCloses
  refine ⟨fun s n p r => pendingTimer_opens p r, fun s n volume p r state seeing timer long spill => ?_,
    fun s t gate => ⟨fun noWeir => ?_, fun weir => ?_⟩⟩
  · have closed := tailTimer_closes p r state seeing timer long
    rw [closeEvent_eq, eventFlags_eq, eventVolume_eq] at closed
    rw [spill]
    exact closed
  · rw [gate]
    exact if_pos (by simp [noWeir])
  · rw [gate, overflowGate_of_weir weir]
    obtain ⟨head, level, blind⟩ := watched_indication s
    obtain ⟨healthy, suspect, dark⟩ := formHead_spec s
    simp only [setOvf_ovf, head, level, blind]
    refine ⟨healthy, suspect, dark, rfl, rfl, watched_blind_keeps, fun seeing => ?_⟩
    obtain ⟨source, state, pending, tail, stamp⟩ := watched_moves seeing
    refine ⟨source.trans (headSource_sighted s), fun follows => ?_, ?_, watched_outside_event seeing⟩
    · rw [source, state, pending, tail, stamp]
      have moves := retakeSource_moves (sighted s)
      rw [sighted_ovf] at moves
      rw [(sighted_onlyOvf s).time] at moves
      exact moves follows
    · rw [← head]
      exact watched_in_event seeing

end Sys2Proof.Machine
end

section
/-! O14. The reading of the configuration image. -/

namespace Sys2Proof.Machine

open Sys2Proof

variable {s : State}

/-! ### The bus (R168, R169) -/

/-- The loader acknowledges each of the first 255 data bytes and leaves the last without. -/
theorem readItems_eq {data : List Byte} (fits : data.length ≤ 256) : readItems data =
    (data.take 255).map (fun b => .read b true) ++ (data.drop 255).map (fun b => .read b false) := by
  refine List.ext_getElem (by simp [readItems]; omega) fun n lt _ => ?_
  have within : n < data.length := by simpa [readItems] using lt
  rw [List.getElem_append]
  split
  · rename_i early
    have early : n < 255 := by simp at early; omega
    simp [readItems, early.ne]
  · rename_i late
    have last : n = 255 := by simp at late; omega
    have full : min 255 data.length = 255 := by omega
    simp [readItems, last, full]

theorem itemsTo_reading {data : List Byte} (fits : data.length ≤ 256) : itemsTo (.reading data) =
    [.start, .sent 0xA0#8 true, .sent 0x00#8 true, .sent 0x00#8 true, .start, .sent 0xA1#8 true]
      ++ (data.take 255).map (fun b => .read b true)
      ++ (data.drop 255).map (fun b => .read b false) := by
  rw [List.append_assoc, ← readItems_eq fits]
  rfl

/-- No data byte was sent by the loader. -/
theorem readItems_sendNothing (data : List Byte) : (readItems data).filterMap sentByte = [] := by
  refine List.filterMap_eq_nil_iff.2 fun item mem => ?_
  obtain ⟨n, lt, rfl⟩ := List.mem_mapIdx.1 mem
  rfl

theorem sentBy_reading (data : List Byte) :
    sentBy (.stretchTooLong (.reading data)) = [0xA0#8, 0x00#8, 0x00#8, 0xA1#8] := by
  change (sendItems (fun _ => true) readRequest ++ readItems data).filterMap sentByte = _
  rw [List.filterMap_append, readItems_sendNothing]
  rfl

theorem noAcknowledge_onBus (n : Fin 4) :
    sentBy (.noAcknowledge n) = [0xA0#8, 0x00#8, 0x00#8, 0xA1#8].take (n.val + 1)
    ∧ failedRead (.noAcknowledge n) = [.start, .sent 0xA0#8 (n != 0), .sent 0x00#8 (n != 1),
        .sent 0x00#8 (n != 2), .start, .sent 0xA1#8 false].take (if n = 3 then 6 else n.val + 2)
      ++ [.stop] := by
  revert n
  decide

theorem stretch_onBus (n : Fin 6) :
    failedRead (.stretchTooLong (.sending n)) = [.start, .sent 0xA0#8 true, .sent 0x00#8 true,
      .sent 0x00#8 true, .start, .sent 0xA1#8 true].take n.val
    ∧ sentBy (.stretchTooLong (.sending n)) = [0xA0#8, 0x00#8, 0x00#8].take (n.val - 1) := by
  revert n
  decide

theorem readPoint_iff (p : ReadPoint) :
    readPoint p = true ↔ ∀ data, p = .reading data → data.length ≤ 256 := by
  cases p <;> simp [readPoint]

theorem beforeCondition_iff (p : ReadPoint) : beforeCondition p = true ↔
    p = .sending 0 ∨ p = .sending 4 ∨ ∃ data, p = .reading data ∧ data.length = 256 := by
  cases p <;> simp [beforeCondition]

theorem beforeStart_iff (cause : ReadFailure) : beforeStart cause = true ↔
    cause = .busBusy (.sending 0) ∨ cause = .stretchTooLong (.sending 0) := by
  simp [beforeStart]

/-! ### The clamped fields (R104, R172) -/

theorem someClamped_iff (fields : List (Nat × Nat × Nat)) :
    someClamped fields = true ↔ ∃ f ∈ fields, f.2.2 < f.1 ∨ f.2.1 < f.2.2 := by
  simp [someClamped]

theorem someClamped_eq_false_iff (fields : List (Nat × Nat × Nat)) :
    someClamped fields = false ↔ ∀ f ∈ fields, f.1 ≤ f.2.2 ∧ f.2.2 ≤ f.2.1 := by
  simp [someClamped]

theorem imageClamped_iff (image : List Byte) : imageClamped image = true ↔
    ∃ f ∈ otherFields image ++ overflowFields image, f.2.2 < f.1 ∨ f.2.1 < f.2.2 := by
  rw [← someClamped_iff]
  simp only [imageClamped, someClamped, List.any_append]

theorem overflowClamped_iff (image : List Byte) : overflowClamped image = true ↔
    imageClamped image = true ∧ ∀ f ∈ otherFields image, f.1 ≤ f.2.2 ∧ f.2.2 ≤ f.2.1 := by
  rw [← someClamped_eq_false_iff]
  unfold overflowClamped imageClamped
  cases someClamped (otherFields image) <;> simp

/-! ### The commands of an attempt -/

/-- The loader's own record, before its finish and after, is beside the pump's safety. -/
theorem PumpSafe.setLoader (p : PumpSafe s) {l : Loader} (before : s.loader.phase ≠ .done)
    (after : l.phase ≠ .done) : PumpSafe { s with loader := l } :=
  p.congr rfl rfl rfl (by simp [loaded, before, after])

theorem RakeSafe.setLoader (r : RakeSafe s) {l : Loader} (before : s.loader.phase ≠ .done)
    (after : l.phase ≠ .done) : RakeSafe { s with loader := l } :=
  r.congr rfl rfl (by simp [loaded, before, after])

/-- An event of the reading that writes the loader alone, and does not finish it. -/
theorem taken_follows_setLoader {can : Bool} {f : State → State} {l : Loader} (h : can = true)
    (p : PumpSafe s) (r : RakeSafe s) (before : s.loader.phase ≠ .done) (after : l.phase ≠ .done)
    (writes : f s = { s with loader := l }) :
    ∃ t, taken can f s = .next t ∧ Follows { s with loader := l } t := by
  rw [← writes]
  exact taken_follows h (writes ▸ p.setLoader before after) (writes ▸ r.setLoader before after)

theorem attempting_iff (s : State) :
    attempting s = true ↔ s.loader.phase = .reading ∧ s.loader.wait = none := by
  simp [attempting]

/-- A complete read of 256 bytes, with its bus record written out. -/
theorem readDone_eq {image : List Byte} (whole : image.length = 256) (s : State) :
    readDone image s = { s with loader := { s.loader with
      phase := .checking, checkTicks := some 0, busDriven := false, image := some image
      sent := [0xA0#8, 0x00#8, 0x00#8, 0xA1#8]
      bus := [.start, .sent 0xA0#8 true, .sent 0x00#8 true, .sent 0x00#8 true, .start,
        .sent 0xA1#8 true] ++ (image.take 255).map (fun b => .read b true)
        ++ (image.drop 255).map (fun b => .read b false) ++ [.stop]
      reduced := !imageGood image
      causeFound := if imageGood image then imageClamped image else true
      overflowOnly := imageGood image && overflowClamped image
      ready := if imageGood image then settingsOf image else Settings.reduced } } := by
  rw [← itemsTo_reading (Nat.le_of_eq whole)]
  unfold readDone
  cases good : imageGood image <;> rfl

theorem complete_read_checks (p : PumpSafe s) (r : RakeSafe s) (reading : s.loader.phase = .reading)
    (idle : s.loader.wait = none) (free : s.loader.sdaHeld = false) {image : List Byte}
    (whole : image.length = 256) :
    ∃ t, exec (.configReadComplete image) s = .next t ∧ Follows (readDone image s) t := by
  unfold exec execConfigReadComplete
  rw [readDone_eq whole]
  exact taken_follows_setLoader (by simp [(attempting_iff s).2 ⟨reading, idle⟩, free, whole]) p r
    (by simp [reading]) nofun (readDone_eq whole s)

/-- A failed attempt before the fourth waits for the next. -/
theorem attemptStep_of_early (cause : ReadFailure) (early : s.loader.attempt < 4) :
    attemptStep cause s = { s with loader := { s.loader with
      busDriven := false, sent := sentBy cause, bus := failedRead cause, wait := some 0 } } :=
  congrArg (fun l => { s with loader := l }) (if_pos early)

/-- The fourth failed attempt leaves the image unread, which is reduced mode. -/
theorem attemptStep_of_fourth (cause : ReadFailure) (fourth : 4 ≤ s.loader.attempt) :
    attemptStep cause s = { s with loader := { s.loader with
      phase := .checking, checkTicks := some 0, busDriven := false, sent := sentBy cause
      bus := failedRead cause, image := none, reduced := true, causeFound := true
      overflowOnly := false, ready := Settings.reduced } } :=
  congrArg (fun l => { s with loader := l }) (if_neg (Nat.not_lt.2 fourth))

theorem failed_attempt_steps (p : PumpSafe s) (r : RakeSafe s) (reading : s.loader.phase = .reading)
    (idle : s.loader.wait = none) {cause : ReadFailure} (failure : readFailure cause = true)
    (held : s.loader.sdaHeld = false ∨ cause = .busBusy (.sending 0)
      ∨ cause = .stretchTooLong (.sending 0)) :
    ∃ t, exec (.attemptFail cause) s = .next t ∧ Follows (attemptStep cause s) t := by
  have free : (!s.loader.sdaHeld || beforeStart cause) = true := by
    rw [Bool.or_eq_true, beforeStart_iff, Bool.not_eq_true']
    exact held
  unfold exec execAttemptFail
  refine taken_follows_setLoader (by rw [(attempting_iff s).2 ⟨reading, idle⟩, failure, free]; rfl) p r
    (by simp [reading]) ?_ rfl
  split
  · simp [reading]
  · exact nofun

theorem retry_begins_attempt (p : PumpSafe s) (r : RakeSafe s) (reading : s.loader.phase = .reading)
    {n : Nat} (waits : s.loader.wait = some n) (due : 1 ≤ n) (sdaCells : Nat) :
    ∃ t, exec (.retryWaitExpiry sdaCells) s = .next t ∧ Follows (retryStep sdaCells s) t := by
  have elapsed : reached s.loader.wait 1 = true := (reached_iff _ _).2 ⟨n, waits, due⟩
  unfold exec execRetryWaitExpiry
  exact taken_follows_setLoader (by simp [reading, elapsed]) p r (by simp [reading])
    (by simp [beginAttempt, reading]) rfl

/-- Settles O14: each command of an attempt by its reasoning rule, and the bus records and the clamped
fields by the characterisations of their functions. -/
theorem imageRead : Obligations.ImageRead := by
  unfold Obligations.ImageRead
  refine ⟨fun image s p r reading idle free whole => ?_,
    fun cause s p r reading idle failure held => ?_,
    fun image => ⟨imageClamped_iff image, overflowClamped_iff image, rfl⟩,
    noAcknowledge_onBus, stretch_onBus,
    fun data fits => ⟨itemsTo_reading fits, sentBy_reading data⟩,
    fun point => ⟨rfl, rfl, readPoint_iff point, beforeCondition_iff point⟩,
    fun sdaCells n s p r reading waits due => retry_begins_attempt p r reading waits due sdaCells⟩
  · rw [← readDone_eq whole]
    exact complete_read_checks p r reading idle free whole
  · obtain ⟨t, next, follows⟩ := failed_attempt_steps p r reading idle failure held
    exact ⟨t, next, fun early => attemptStep_of_early cause early ▸ follows,
      fun fourth => attemptStep_of_fourth cause fourth ▸ follows⟩

end Sys2Proof.Machine
end
